-- ==== Sys2Proof/Word.lean ====
section
/-! DEFINITION. The words the GD-614 counts in, and the index types of its blocks: six channels, four links, eight
preset slots, two banks, three frame slots per channel (spec/00_scope.md, "Limits that hold throughout"). -/

namespace Sys2Proof

/-- One stored byte. -/
abbrev Byte := BitVec 8

/-- A 32-bit count, frame number or checksum. -/
abbrev Word32 := BitVec 32

/-- A channel, 0 … 5. -/
abbrev Chan := Fin 6

/-- A control link, 0 … 3. -/
abbrev LinkId := Fin 4

/-- A preset slot on the flash, 0 … 7. -/
abbrev SlotId := Fin 8

/-- A bank of calibration memory, 0 or 1 (R5). -/
abbrev Bank := Fin 2

/-- One of a channel's three frame slots, 0 … 2. -/
abbrev SlotIx := Fin 3

end Sys2Proof
end

