-- ==== Sys2Proof/Syntax.lean ====
section
/-! DEFINITION. The commands of the GD-614: one constructor per row of spec/opcode_table.json, in the table's order,
with the row's operands. Operands that are times are elapsed times in units of 10 ns (R4) since the last time-stamped
step (notes/assumptions/2.md). -/

namespace Sys2Proof

/-- A structure of calibration memory inside one bank: a channel's record, or the set header (R5). -/
inductive CalTarget where
  | record (c : Chan)
  | header
deriving DecidableEq, Repr

/-- One source pixel: a code 0 … 1023 for each component (R70). -/
structure Pixel where
  r : BitVec 10
  g : BitVec 10
  b : BitVec 10
deriving DecidableEq, Repr

/-- One command: a row of spec/opcode_table.json. -/
inductive Instr where
  /-- R164: power-on, or assertion of the reset line. -/
  | startUp
  /-- R175: the read of the setup record ends; `changed` are bytes of the record on flash that have changed since it
  was written (R180: a record whose write was interrupted may fail its CRC). -/
  | setupRecordRead (changed : List Host.Cell)
  /-- R176: the directory scan ends. -/
  | directoryScanEnd
  /-- R7: stored bytes of a structure of a bank change. `scanned` is how many bytes of the record the scanner's
  running pass has read by then, `stored` how many bytes of the body a running PRESET_STORE has read by then. -/
  | memoryDamage (bank : Bank) (target : CalTarget) (changed : List Host.Cell) (scanned stored : Nat)
  /-- R52: a frame-start mark arrives on the house-sync input. -/
  | referenceEdge (elapsed : Nat)
  /-- R57: the missing-edge limit expires in ACQUIRING. -/
  | missingEdgeLimitAcquiring
  /-- R61: the missing-edge limit expires in LOCKED. -/
  | missingEdgeLimitLocked
  /-- R63: the 64th holdover tick falls due. -/
  | holdoverTickLimit
  /-- R55: a scheduled frame tick falls due. -/
  | frameTick
  /-- R75: a frame header arrives at input port `c`. -/
  | frameHeader (c : Chan) (elapsed : Nat) (frame : Word32) (channelId width height : Nat)
  /-- R79: a line arrives at input port `c`. -/
  | line (c : Chan) (elapsed : Nat) (pixels : List Pixel)
  /-- R80: an end of frame arrives at input port `c`. -/
  | endOfFrame (c : Chan) (elapsed : Nat)
  /-- R71: a signal-present arrival at input port `c`. -/
  | signalPresent (c : Chan) (elapsed : Nat)
  /-- R72: a signal-lost arrival at input port `c`. -/
  | signalLost (c : Chan) (elapsed : Nat)
  /-- R72: the signal-loss limit of input port `c` expires. -/
  | signalLossLimit (c : Chan)
  /-- R185: the line layer of link `k` sees the peer. -/
  | linkUp (k : LinkId)
  /-- R186: the line layer of link `k` loses the peer. -/
  | linkDown (k : LinkId)
  /-- R184, R188: the bytes of one message arrive on link `k`. -/
  | messageArrival (k : LinkId) (bytes : List Byte)
  /-- R198: a CREDIT from the master of link `k`; `grant` is its byte 4. -/
  | credit (k : LinkId) (grant : Byte)
  /-- R130: a WRITE to STAGING_RECORD `c` on link `k`. -/
  | stagingRecordWrite (k : LinkId) (c : Chan) (offset : Word32) (payload : List Byte)
  /-- R132: a WRITE to STAGING_HEADER on link `k`. -/
  | stagingHeaderWrite (k : LinkId) (offset : Word32) (payload : List Byte)
  /-- R179: a WRITE to SETUP on link `k`. -/
  | setupWrite (k : LinkId) (offset : Word32) (payload : List Byte)
  /-- R190: a WRITE on link `k` whose region code and channel name no writable region. -/
  | write (k : LinkId) (region channel : Byte) (offset : Word32) (payload : List Byte)
  /-- R133: a READ of a staging region on link `k`. -/
  | stagingRead (k : LinkId) (tag : Byte) (target : CalTarget) (offset : Word32) (length : BitVec 16)
  /-- R209: a CLEAR on link `k`. -/
  | clear (k : LinkId) (set : BitVec 32)
  /-- R126: HOLD_ACQUIRE, code 01h. -/
  | holdAcquire (k : LinkId) (tag : Byte) (params : List Byte)
  /-- R127: HOLD_RELEASE, code 02h. -/
  | holdRelease (k : LinkId) (tag : Byte) (params : List Byte)
  /-- R128: HOLD_BREAK, code 03h. -/
  | holdBreak (k : LinkId) (tag : Byte) (params : List Byte)
  /-- R134, R135: COMMIT, code 04h. -/
  | commit (k : LinkId) (tag : Byte) (params : List Byte)
  /-- R140: COMMIT_CANCEL, code 05h. -/
  | commitCancel (k : LinkId) (tag : Byte) (params : List Byte)
  /-- R150: SHOW_LOCK, code 06h. -/
  | showLock (k : LinkId) (tag : Byte) (params : List Byte)
  /-- R151: SHOW_UNLOCK, code 07h. -/
  | showUnlock (k : LinkId) (tag : Byte) (params : List Byte)
  /-- R112, R113: CHANNEL_MODE, code 08h. -/
  | channelMode (k : LinkId) (tag : Byte) (params : List Byte)
  /-- R99: BARRIER_LIMIT, code 09h. -/
  | barrierLimit (k : LinkId) (tag : Byte) (params : List Byte)
  /-- R167: PRESET_STORE, code 0Ah. -/
  | presetStore (k : LinkId) (tag : Byte) (params : List Byte)
  /-- R169: PRESET_LOAD, code 0Bh. -/
  | presetLoad (k : LinkId) (tag : Byte) (params : List Byte)
  /-- R174: PRESET_ERASE, code 0Ch. -/
  | presetErase (k : LinkId) (tag : Byte) (params : List Byte)
  /-- R180: SETUP_STORE, code 0Dh. -/
  | setupStore (k : LinkId) (tag : Byte) (params : List Byte)
  /-- R208: EVENT_ENABLE, code 0Eh. -/
  | eventEnable (k : LinkId) (tag : Byte) (params : List Byte)
  /-- R196: the message that link `k` is sending has been sent. -/
  | messageSent (k : LinkId)
  /-- R125: the waiting requests are served. -/
  | serveWaitingRequests
  /-- R170: the last byte of the record being loaded lands; `changed` are bytes of the slot's body on flash, by offset
  in the body, that have changed since they were stored (R168, R176: damage on flash). -/
  | presetRecordLanded (changed : List Host.Cell)
  /-- R172: the restore copy of a staging record ends. -/
  | restoreCopyEnd
  /-- R168: a store ends. -/
  | presetStoreEnd
  /-- R174: an erase ends. -/
  | presetEraseEnd
  /-- R180: a SETUP_STORE ends. -/
  | setupStoreEnd
  /-- R146: the copy of one channel in copy-back ends. -/
  | copyBackCopyEnd
  /-- R154, R155: a scanner pass ends. -/
  | scanPassEnd
  /-- R158: the Scanner tries to begin a repair. -/
  | repairBegin
deriving DecidableEq, Repr

end Sys2Proof
end

