-- ==== Sys2Proof/Machine/Checksum.lean ====
section
/-! DEFINITION. The two checksums: the CRC-32 of R3 and the line layer's CRC-16 of R184, bit by bit as the rules give
them. -/

namespace Sys2Proof.Machine

/-- The bits of a byte, least significant first. -/
def bitsLow (b : Byte) : List Bool := (List.range 8).map fun i => b.getLsbD i

/-- The bits of a byte, most significant first. -/
def bitsHigh (b : Byte) : List Bool := (List.range 8).map fun i => b.getLsbD (7 - i)

/-- R3: one bit into the CRC-32 register, generator polynomial 04C11DB7h. -/
def crc32Bit (r : Word32) (bit : Bool) : Word32 :=
  if r.getLsbD 31 != bit then (r <<< 1) ^^^ 0x04C11DB7 else r <<< 1

/-- R3: one byte into the CRC-32 register, least significant bit first. -/
def crc32Byte (r : Word32) (b : Byte) : Word32 := (bitsLow b).foldl crc32Bit r

/-- R3: the CRC-32: register initially FFFFFFFFh, result reflected and then inverted. -/
def crc32 (bs : List Byte) : Word32 := ~~~ (bs.foldl crc32Byte 0xFFFFFFFF).reverse

/-- R184: one bit into the CRC-16 register, generator polynomial 1021h. -/
def crc16Bit (r : BitVec 16) (bit : Bool) : BitVec 16 :=
  if r.getLsbD 15 != bit then (r <<< 1) ^^^ 0x1021 else r <<< 1

/-- R184: one byte into the CRC-16 register, most significant bit first. -/
def crc16Byte (r : BitVec 16) (b : Byte) : BitVec 16 := (bitsHigh b).foldl crc16Bit r

/-- R184: the CRC-16: register initially FFFFh, result neither reflected nor inverted. -/
def crc16 (bs : List Byte) : BitVec 16 := bs.foldl crc16Byte 0xFFFF

end Sys2Proof.Machine
end

