-- ==== Sys2Proof/Config.lean ====
section
/-! DEFINITION. What the GD-614 fixes: sizes, limits and the table of nominal rates; and the one order of effects that
the spec leaves open, as a free value (INVENTORY.md, "What the manual leaves open"). -/

namespace Sys2Proof.Config

/-- R5: bytes of a channel record. -/
def recordSize : Nat := 103498

/-- R5: bytes of a set header. -/
def headerSize : Nat := 32

/-- R163: bytes of a slot body, a set header and six channel records. -/
def bodySize : Nat := headerSize + 6 * recordSize

/-- R163: bytes of the area of one preset slot on flash, 1 MiB; slot s begins at s·100000h. -/
def slotArea : Nat := 0x100000

/-- R163: where the directory lies on flash. -/
def directoryAddress : Nat := 0x800000

/-- R163: where the setup record lies on flash. -/
def setupAddress : Nat := 0x810000

/-- R178: bytes of the SETUP region. -/
def setupSize : Nat := 32

/-- R211: bytes of the STATUS region. -/
def statusSize : Nat := 1024

/-- R212: bytes of the DIRECTORY region. -/
def directorySize : Nat := 512

/-- R8, R17: entries of the geometry array. -/
def geometryEntries : Nat := 4225

/-- R69: bytes of one frame slot. -/
def slotBytes : Nat := 35389440

/-- R69: bytes from one row of a slot to the next. -/
def rowPitch : Nat := 16384

/-- R51: the nominal period P, in units of 10 ns, of a rate code 0 … 9; a code above 9 is taken as 9, its clamp (R178). -/
def nominalPeriod (rate : Nat) : Nat :=
  match rate with
  | 0 => 4166667
  | 1 => 4000000
  | 2 => 3333333
  | 3 => 2083333
  | 4 => 2000000
  | 5 => 1666667
  | 6 => 1388889
  | 7 => 1111111
  | 8 => 1000000
  | _ => 833333

/-- R178: the default rate code, 60 Hz. -/
def defaultRate : Nat := 5

/-- R86: the default late limit. -/
def defaultLateLimit : Nat := 3

/-- A free value: when the holder's link goes down, whether its event sets are cleared (R205) after the HOLD_OWNER of
R129 is raised, or before. R186 lists the clearing after the release; R205 puts it at the moment the link goes down;
R210 lets either be first (notes/assumptions/9.md). -/
opaque setsClearedLast : Bool

end Sys2Proof.Config
end

