-- ==== Sys2Proof/Machine/State.lean ====
section
/-! DEFINITION. The state of the GD-614, block by block as spec/00_scope.md's block table lists it, as plain data, and
the state right after reset. Each field's docstring names the rule that gives it; INVENTORY.md lists them all with
their reset values. -/

namespace Sys2Proof.Machine

/-- Sparse bytes: strictly rising addresses, no entry equal to what an unlisted address reads as
(Machine/Memory.lean). -/
abbrev Cells := List Host.Cell

/-- A set of the eleven event kinds, bit i for kind i (R187). -/
abbrev KindSet := BitVec 11

/-- A set of channels, bit c for channel c (R112, R134). -/
abbrev ChanSet := BitVec 6

/-! ### The dome timebase (R51 to R66) -/

/-- R66: the reference state. -/
inductive RefState where
  | freeRun | acquiring | locked | holdover
deriving DecidableEq, Repr

/-- R51: the reference source. -/
inductive RefSource where
  | houseSync | none
deriving DecidableEq, Repr

/-- The Timebase's state (R54's table, R52's time count and recorded edge time, R55's tick schedule). -/
structure Timebase where
  /-- R54: the Timebase has started. -/
  running : Bool
  /-- R66: reference state. -/
  state : RefState
  /-- R51: reference source in use. -/
  source : RefSource
  /-- R51: nominal rate code in use, 0 … 9. -/
  rate : Nat
  /-- R55: period in use: P, the locked period or the holdover period. -/
  period : Nat
  /-- R55: tick counter, modulo 2³². -/
  tickCount : Word32
  /-- R53: interval history, oldest first, at most 8. -/
  history : List Nat
  /-- R57, R62: good-interval count. -/
  good : Nat
  /-- R62: holdover tick count. -/
  holdoverTicks : Nat
  /-- R52: recorded edge time. -/
  lastEdge : Option Nat
  /-- R66: last interval. -/
  lastInterval : Option Nat
  /-- R52: the time count, in units of 10 ns from the Timebase's start. -/
  now : Nat
  /-- R55: the time of the latest tick; the start, 0, before the first one (R54: the first tick is P after it). -/
  lastTick : Nat
  /-- R61: the edge that entered LOCKED without giving a tick, until the next tick. -/
  lockEdge : Option Nat
deriving DecidableEq, Repr

/-! ### Frame capture (R67) -/

/-- A slot record: a slot's state with the fields R67 says are present in it. -/
inductive SlotRec where
  | free
  | filling (frame : Word32) (width height lines : Nat)
  | ready (frame : Word32) (width height : Nat)
  | showing (frame : Word32) (width height : Nat) (marked : Bool)
deriving DecidableEq, Repr

/-- R67: the three slot records of a channel, in order. -/
abbrev Slots := Vector SlotRec 3

/-- R85: the last input reason. -/
inductive InputReason where
  | none | misroute | size | stale | short | long | badLine | lost | resync
deriving DecidableEq, Repr

/-- Capture c's state (R67). -/
structure Capture where
  /-- Slot records 0, 1, 2. -/
  slots : Slots
  /-- Input signal: true for PRESENT. -/
  signal : Bool
  /-- Signal-loss limit: the time it expires at, while it runs. -/
  lossLimit : Option Nat
  /-- Stale-refusal count, 0 … 4. -/
  stale : Nat
  /-- Last input reason. -/
  lastReason : InputReason
deriving DecidableEq, Repr

/-! ### The swap barrier (R86) -/

/-- R86: a channel's membership. -/
inductive Membership where
  | none | joined | excluded
deriving DecidableEq, Repr

/-- What the Barrier holds per channel (R86). -/
structure Member where
  membership : Membership
  /-- Readmission candidacy. -/
  candidate : Bool
  /-- Late count, 0 … 255; absent when membership is NONE. -/
  late : Option Nat
deriving DecidableEq, Repr

/-- The Barrier's state (R86). -/
structure Barrier where
  members : Vector Member 6
  /-- Barrier frame number B. -/
  frame : Option Word32
  /-- Late limit, 0 … 255. -/
  limit : Nat
  /-- Pending late limit. -/
  pendingLimit : Option Nat
  /-- Pending limit request: link and tag. -/
  pendingReq : Option (LinkId × Byte)
deriving DecidableEq, Repr

/-! ### Channel modes and output (R105, R115 to R118) -/

/-- R106: the six modes. -/
inductive Mode where
  | off | standby | live | hold | flat | grid
deriving DecidableEq, Repr

/-- R105: a pending CHANNEL_MODE request. -/
structure ModeReq where
  link : LinkId
  tag : Byte
  set : ChanSet
deriving DecidableEq, Repr

/-- R36, R50: the source frame of an output frame: its slot, with the width and height that slot's record holds. -/
structure SourceFrame where
  slot : SlotIx
  width : Nat
  height : Nat
deriving DecidableEq, Repr

/-- The output frame in progress on a port, with the inputs it took at its tick (R27, R115, R116). -/
structure OutFrame where
  /-- R115: the time of the frame start. -/
  start : Nat
  /-- R27: the mode. -/
  mode : Mode
  /-- R27, R121: the bank of the active record. -/
  bank : Bank
  /-- R27: the showing slot, or none. -/
  source : Option SourceFrame
  /-- R28: W_out of the frame. -/
  width : Nat
  /-- R28: H_out of the frame. -/
  height : Nat
  /-- R115: T_row. -/
  rowTime : Nat
deriving DecidableEq, Repr

/-- What left the port of the output frame that the latest tick ended (R117). -/
structure FrameEnd where
  /-- The frame's length, d. -/
  length : Nat
  /-- How many rows were sent whole. -/
  rowsWhole : Nat
  /-- Units of the row that the tick cut; 0 when none was cut. -/
  cut : Nat
  /-- Units of blanking after the last row; 0 when the frame was cut short. -/
  blanking : Nat
deriving DecidableEq, Repr

/-- Pipeline c's state (R105) and output port c. -/
structure Pipe where
  mode : Mode
  /-- Pending mode. -/
  pendingMode : Option Mode
  /-- Pending request. -/
  pendingReq : Option ModeReq
  /-- Mode tick. -/
  modeTick : Option Word32
  /-- Output frame in progress; none while the port is idle. -/
  frame : Option OutFrame
  /-- The frame that the latest tick ended. -/
  lastEnd : Option FrameEnd
deriving DecidableEq, Repr

/-! ### Calibration memory (R5) -/

/-- One bank: six channel records of 103,498 bytes and one set header of 32 bytes, each as its stored bytes (R6). -/
structure BankMem where
  records : Vector Cells 6
  header : Cells
deriving DecidableEq, Repr

/-! ### Staging (R121, R123) -/

/-- R123: the staging state. -/
inductive StagingState where
  | openState | loading | commitPending | copyBack
deriving DecidableEq, Repr

/-- R123: the operation owner. -/
inductive OpOwner where
  | link (k : LinkId) | startUp | repair
deriving DecidableEq, Repr

/-- R134: the activation kind, with N for AT_FRAME. -/
inductive Activation where
  | nextTick
  | atFrame (n : Word32)
deriving DecidableEq, Repr

/-- R139, R141: who owns a pending commit: a link with the request's tag, or the part. -/
inductive CommitOwner where
  | link (k : LinkId) (tag : Byte)
  | part
deriving DecidableEq, Repr

/-- R123: the pending commit record. -/
structure PendingCommit where
  owner : CommitOwner
  set : ChanSet
  kind : Activation
deriving DecidableEq, Repr

/-- R164, R166: the request that started an operation. `live` turns false when its link goes down: the completion is
then dropped even if the link is UP again when the operation ends (R173, R186). -/
structure Requester where
  link : LinkId
  tag : Byte
  live : Bool
deriving DecidableEq, Repr

/-- R172: a restore copy in progress: its channel, and the request of a link-owned load. -/
structure Restore where
  chan : Chan
  requester : Option Requester
deriving DecidableEq, Repr

/-- R125: a claimant that waits to be served. -/
inductive Claimant where
  /-- the WRITE stalled at the head of link k's receive queue -/
  | write (k : LinkId)
  /-- the request with this tag in link k's wait list -/
  | request (k : LinkId) (tag : Byte)
  /-- the repair at the head of the repair queue -/
  | repair
deriving DecidableEq, Repr

/-- Staging's state (R121, R123, R125). -/
structure Staging where
  /-- R121: active-bank selectors. -/
  sel : Vector Bank 6
  /-- R121: set-level selector. -/
  setSel : Bank
  state : StagingState
  owner : Option OpOwner
  /-- Hold owner. -/
  hold : Option LinkId
  commit : Option PendingCommit
  /-- Copy-back list. -/
  copyList : List Chan
  /-- Set generation. -/
  gen : Word32
  /-- R125: the waiting requests, in the order in which they began to wait. -/
  waiting : List Claimant
  /-- R172: the restore copy in progress. -/
  restore : Option Restore
deriving DecidableEq, Repr

/-! ### The scanner (R149) -/

/-- R149: a channel's integrity state. -/
inductive Integrity where
  | idle | referencePending | checking | fault
deriving DecidableEq, Repr

/-- R154: a channel's repair source. -/
inductive RepairSource where
  | slot (s : SlotId)
  | none
deriving DecidableEq, Repr

/-- What the Scanner holds per channel (R149). -/
structure Watch where
  state : Integrity
  reference : Option Word32
  source : Option RepairSource
  /-- Checks completed. -/
  checks : Word32
deriving DecidableEq, Repr

/-- R153: a pass in progress over a channel (the scan position), and the record's bytes as the pass reads them. -/
structure Pass where
  chan : Chan
  view : Cells
deriving DecidableEq, Repr

/-- R149: the phase of a repair. -/
inductive RepairPhase where
  | loading | commitPending | copyBack
deriving DecidableEq, Repr

/-- R149: the repair in progress. -/
structure Repair where
  chan : Chan
  slot : SlotId
  phase : RepairPhase
deriving DecidableEq, Repr

/-- R149: the last integrity report. -/
inductive Report where
  | none
  | fault (c : Chan)
  | repaired (c : Chan)
  | repairFailed (c : Chan)
deriving DecidableEq, Repr

/-- The Scanner's state (R149). -/
structure Scanner where
  /-- Show lock: true for set. -/
  lock : Bool
  watch : Vector Watch 6
  /-- Scan position, with what the pass has seen. -/
  pass : Option Pass
  /-- Repair queue, oldest first. -/
  queue : List Chan
  repair : Option Repair
  report : Report
deriving DecidableEq, Repr

/-! ### The preset store and the flash (R163 to R165) -/

/-- R165: a slot's state. -/
inductive SlotState where
  | empty | storing | valid | corrupt | erasing
deriving DecidableEq, Repr

/-- R165: the fields of a slot record that are present together. -/
structure SlotInfo where
  /-- 16 bytes. -/
  name : List Byte
  /-- Generation at store. -/
  gen : Word32
  crcs : Vector Word32 6
deriving DecidableEq, Repr

/-- R165: a slot record of the directory. -/
structure SlotDir where
  state : SlotState
  info : Option SlotInfo
deriving DecidableEq, Repr

/-- R163: a slot body: a set header and six channel records. -/
structure Body where
  header : Cells
  records : Vector Cells 6
deriving DecidableEq, Repr

/-- R164: the NV operation in flight. -/
inductive NvOp where
  | startUpRead
  | store (s : SlotId)
  | load (s : SlotId) (owner : OpOwner)
  | erase (s : SlotId)
  | setupStore
deriving DecidableEq, Repr

/-- R164: load progress. -/
structure Progress where
  landing : Chan
  /-- The channels already sound. -/
  sound : List Chan
deriving DecidableEq, Repr

/-- R164: the setup outcome. -/
inductive SetupOutcome where
  | sound | defaults
deriving DecidableEq, Repr

/-- R177: the boot outcome. -/
inductive BootOutcome where
  | none | slotNotValid | loaded | corrupt (c : Chan) | rejected
deriving DecidableEq, Repr

/-- The Preset store's state (R164). -/
structure Preset where
  /-- The directory's working copy. -/
  directory : Vector SlotDir 8
  /-- NV operation in flight; none when the controller is idle. -/
  nv : Option NvOp
  requester : Option Requester
  progress : Option Progress
  /-- Staged setup copy, bytes 0 … 27 of R178. -/
  setup : Cells
  /-- Start-up report, setup outcome; absent until the setup record has been read. -/
  setupOutcome : Option SetupOutcome
  /-- Start-up report, boot outcome; absent until it is settled (R175). -/
  bootOutcome : Option BootOutcome
  /-- R168: the active set as the running store reads it. -/
  storing : Option Body
  /-- R180: the 32 bytes that the running SETUP_STORE writes. -/
  setupStoring : Option (List Byte)
deriving DecidableEq, Repr

/-- R163: the serial flash, whose contents outlive power and reset. Its addresses are `flashArea`'s, and `Flash.byteAt`
reads a byte by address. -/
structure Flash where
  bodies : Vector Body 8
  directory : Vector SlotDir 8
  /-- The 32 bytes of the setup record. -/
  setup : Cells
deriving DecidableEq, Repr

/-! ### Control links and events (R183, R205) -/

/-- A message from a master that enters the receive queue (R187). -/
inductive Msg where
  | write (region channel : Byte) (offset : Word32) (payload : List Byte)
  | clear (set : BitVec 32)
  | read (tag region channel : Byte) (offset : Word32) (length : BitVec 16)
  | command (tag code : Byte) (params : List Byte)
deriving DecidableEq, Repr

/-- R200: the statuses. -/
inductive Status where
  | success | denied | held | notHolder | busy | locked | invalid | checkMismatch | validationFailed | cancelled
  | superseded | slotOccupied | slotEmpty | presetCorrupt
deriving DecidableEq, Repr

/-- R202: the reasons of a protocol fault. -/
inductive FaultReason where
  | kind | length | units | count | tag | noticeCredit
deriving DecidableEq, Repr

/-- A message to a master, in the send queue (R196, R197, R199, R207). -/
inductive OutMsg where
  /-- A completion part; `rest` is the content of the READ still to follow, and the last-part flag is set exactly
  when it is empty. -/
  | completion (tag : Byte) (status : Status) (offset : Word32) (payload rest : List Byte)
  | notice (set : KindSet)
  /-- A CREDIT whose values are fixed. -/
  | creditFixed (units counts : Nat)
  /-- A CREDIT whose values are filled in when its sending begins. -/
  | creditOpen
deriving DecidableEq, Repr

/-- Link k's state (R183) and its event sets (R205). -/
structure Link where
  /-- Link state: true for UP. -/
  up : Bool
  /-- R185: the line layer sees the peer. -/
  peer : Bool
  /-- Share, in units. -/
  share : Nat
  /-- Role set: bit 0 VIEW, bit 1 SHOW, bit 2 ALIGN. -/
  roles : BitVec 3
  /-- Receive queue, oldest first. -/
  rx : List Msg
  /-- Posted units held. -/
  unitsHeld : Nat
  /-- The tags in use, one for each outstanding non-posted request. -/
  outstanding : List Byte
  /-- Wait list, oldest first. -/
  wait : List Msg
  /-- Send queue. -/
  sendQ : List OutMsg
  /-- R196: the message being sent. -/
  sending : Option OutMsg
  /-- Units to return; above 512 only for a master that does not await CREDITs (notes/assumptions/39.md). -/
  unitsReturn : Nat
  /-- Counts to return. -/
  countsReturn : Nat
  noticeCredit : Nat
  /-- Last refusal: status, and the message kind code of R187. -/
  lastRefusal : Option (Status × Byte)
  /-- Last protocol fault: reason, and the message kind code. -/
  lastFault : Option (FaultReason × Byte)
  /-- R205: pending set. -/
  pending : KindSet
  /-- R205: enabled set. -/
  enabled : KindSet
  /-- R205: notified set. -/
  notified : KindSet
deriving DecidableEq, Repr

/-! ### The whole part -/

/-- The state of the part, block by block, and the queue of commands that wait to be taken. -/
structure State where
  /-- The model's own: the commands waiting, first in, first out. -/
  pending : List Instr
  timebase : Timebase
  capture : Vector Capture 6
  barrier : Barrier
  pipes : Vector Pipe 6
  /-- R5: calibration memory, bank 0 and bank 1. -/
  banks : Vector BankMem 2
  /-- R69: frame memory, by byte address. -/
  frameMem : Cells
  staging : Staging
  scanner : Scanner
  preset : Preset
  flash : Flash
  links : Vector Link 4
deriving DecidableEq, Repr

/-- The reasons a step stops with a fault. -/
inductive Fault where
  /-- Raised by memoryDamage, setupRecordRead and presetRecordLanded when an operand names a byte outside the structure
  it changes: R5, R163 and R178 give the structures their sizes, and there is no such byte. Safe: the part never does
  this, and no state follows. -/
  | noSuchByte
deriving DecidableEq, Repr

/-- The reasons a command has no meaning. -/
inductive Refusal where
  /-- Raised by exec alone, for a command that the model does not give a meaning yet; there is none. Safe. -/
  | notModelled (mnemonic : String)
deriving DecidableEq, Repr

/-! ### Reset values -/

/-- R54. Rate, source and period before the start are the defaults of R51 (notes/assumptions/5.md). -/
def Timebase.reset : Timebase where
  running := false
  state := .freeRun
  source := .houseSync
  rate := Config.defaultRate
  period := Config.nominalPeriod Config.defaultRate
  tickCount := 0
  history := []
  good := 0
  holdoverTicks := 0
  lastEdge := none
  lastInterval := none
  now := 0
  lastTick := 0
  lockEdge := none

/-- R67. -/
def Capture.reset : Capture where
  slots := Vector.replicate 3 .free
  signal := false
  lossLimit := none
  stale := 0
  lastReason := .none

/-- R86. -/
def Member.reset : Member where
  membership := .none
  candidate := false
  late := none

/-- R86. The late limit before the setup record is read is the default of R86 (notes/assumptions/5.md). -/
def Barrier.reset : Barrier where
  members := Vector.replicate 6 Member.reset
  frame := none
  limit := Config.defaultLateLimit
  pendingLimit := none
  pendingReq := none

/-- R105; R118: the port is idle from start-up. -/
def Pipe.reset : Pipe where
  mode := .off
  pendingMode := none
  pendingReq := none
  modeTick := none
  frame := none
  lastEnd := none

/-- R26: the default records and set headers: nothing differs from what an unlisted byte reads as. -/
def BankMem.reset : BankMem where
  records := Vector.replicate 6 []
  header := []

/-- R121, R123. -/
def Staging.reset : Staging where
  sel := Vector.replicate 6 0
  setSel := 0
  state := .openState
  owner := none
  hold := none
  commit := none
  copyList := []
  gen := 0
  waiting := []
  restore := none

/-- R149. -/
def Watch.reset : Watch where
  state := .idle
  reference := none
  source := none
  checks := 0

/-- R149. -/
def Scanner.reset : Scanner where
  lock := false
  watch := Vector.replicate 6 Watch.reset
  pass := none
  queue := []
  repair := none
  report := .none

/-- R165: a slot record of an EMPTY slot. -/
def SlotDir.emptySlot : SlotDir where
  state := .empty
  info := none

/-- R164, before the start-up reads fill the directory, the staged setup copy and the report
(notes/assumptions/6.md). -/
def Preset.reset : Preset where
  directory := Vector.replicate 8 SlotDir.emptySlot
  nv := some .startUpRead
  requester := none
  progress := none
  setup := []
  setupOutcome := none
  bootOutcome := none
  storing := none
  setupStoring := none

/-- A flash that no part has written yet (notes/assumptions/7.md). -/
def Flash.blank : Flash where
  bodies := Vector.replicate 8 { header := [], records := Vector.replicate 6 [] }
  directory := Vector.replicate 8 SlotDir.emptySlot
  setup := []

/-- R183, R205. Share and role set before the setup record is read are 0 and empty (notes/assumptions/5.md). -/
def Link.reset : Link where
  up := false
  peer := false
  share := 0
  roles := 0
  rx := []
  unitsHeld := 0
  outstanding := []
  wait := []
  sendQ := []
  sending := none
  unitsReturn := 0
  countsReturn := 0
  noticeCredit := 0
  lastRefusal := none
  lastFault := none
  pending := 0
  enabled := 0
  notified := 0

/-- The part right after power-on or the reset line (R164), with no command waiting. -/
def State.reset : State where
  pending := []
  timebase := Timebase.reset
  capture := Vector.replicate 6 Capture.reset
  barrier := Barrier.reset
  pipes := Vector.replicate 6 Pipe.reset
  banks := Vector.replicate 2 BankMem.reset
  frameMem := []
  staging := Staging.reset
  scanner := Scanner.reset
  preset := Preset.reset
  flash := Flash.blank
  links := Vector.replicate 4 Link.reset

end Sys2Proof.Machine
end

