-- ==== Sys2Proof/Machine/Memory.lean ====
section
/-! DEFINITION. Sparse byte memories: reading, writing a run of bytes, the canonical form, and little-endian fields
(R1). A memory is a list of (address, byte) cells; `d` gives the byte that an unlisted address reads as. -/

namespace Sys2Proof.Machine

/-- What an unlisted address of frame memory, of a set header and of a setup copy reads as: 0. For set headers this is
R24's value; for frame memory and the setup copies see notes/assumptions/6.md to 8.md. -/
def zeroByte (_ : Nat) : Byte := 0

/-- The byte at `a`. -/
def Cells.read (d : Nat → Byte) : Cells → Nat → Byte
  | [], a => d a
  | (k, v) :: rest, a => if k = a then v else Cells.read d rest a

/-- The cells of the bytes `bs` from address `a` on, less those equal to what an unlisted address reads as. -/
def Cells.run (d : Nat → Byte) : Nat → List Byte → Cells
  | _, [] => []
  | a, b :: bs => if b = d a then Cells.run d (a + 1) bs else (a, b) :: Cells.run d (a + 1) bs

/-- The memory with the bytes `bs` stored from address `a` on. -/
def Cells.write (d : Nat → Byte) (m : Cells) (a : Nat) (bs : List Byte) : Cells :=
  m.filter (fun p => decide (p.1 < a)) ++ Cells.run d a bs ++ m.filter (fun p => decide (a + bs.length ≤ p.1))

/-- The memory with each listed byte stored, in the order of the list. -/
def Cells.change (d : Nat → Byte) (m : Cells) (changed : List Host.Cell) : Cells :=
  changed.foldl (fun m p => Cells.write d m p.1 [p.2]) m

/-- The `n` bytes from address `a` on. -/
def Cells.bytes (d : Nat → Byte) (m : Cells) (a n : Nat) : List Byte :=
  (List.range n).map fun i => Cells.read d m (a + i)

/-- The canonical form: strictly rising addresses, and no cell equal to what an unlisted address reads as. -/
abbrev Cells.wf (d : Nat → Byte) (m : Cells) : Prop :=
  m.Pairwise (fun p q => p.1 < q.1) ∧ ∀ p ∈ m, p.2 ≠ d p.1

/-- R1: the value of a little-endian field. -/
def leNat : List Byte → Nat
  | [] => 0
  | b :: bs => b.toNat + 256 * leNat bs

/-- R1: the `n` little-endian bytes of a value. -/
def leBytes : Nat → Nat → List Byte
  | 0, _ => []
  | n + 1, v => BitVec.ofNat 8 v :: leBytes n (v / 256)

/-- R8: a signed field is two's complement at its full width. -/
def leInt (bs : List Byte) : Int :=
  if 2 * leNat bs < 256 ^ bs.length then leNat bs else (leNat bs : Int) - 256 ^ bs.length

/-- The `n` little-endian bytes of a signed value, in two's complement. -/
def leIntBytes (n : Nat) (v : Int) : List Byte := leBytes n (v % (256 ^ n : Nat)).toNat

/-- The four bytes of a 32-bit value. -/
def word32Bytes (w : Word32) : List Byte := leBytes 4 w.toNat

/-- "Clamped" (spec/00_scope.md, Conventions). -/
def clampNat (lo hi v : Nat) : Nat := if v < lo then lo else if hi < v then hi else v

/-- "Clamped", for signed values. -/
def clampInt (lo hi v : Int) : Int := if v < lo then lo else if hi < v then hi else v

end Sys2Proof.Machine
end

