-- ==== Sys2Proof/Machine/Record.lean ====
section
/-! DEFINITION. Channel records, set headers and the setup copy as stored bytes: the field layouts and what a write
stores in each field (R8, R21, R22, R178), the default record (R25), the grid dimensions (R16) and the commit's three
checks (R136 to R138). -/

namespace Sys2Proof.Machine

/-! ### Fields and their treatment on write -/

/-- What a write stores in a field, from the field's composed bytes (R8's tables, R178's table). -/
inductive Treatment where
  /-- stored as written -/
  | plain
  /-- unsigned, clamped -/
  | unsigned (lo hi : Nat)
  /-- signed, clamped -/
  | signed (lo hi : Int)
  /-- only the bits of `bits` are stored -/
  | mask (bits : Byte)
  /-- a link's share: 0 kept, 1 … 31 stored as 32, above 480 stored as 480 (R178) -/
  | share
  /-- the boot preset: 08h … FEh stored as FFh (R178) -/
  | bootSlot
  /-- ignored or read-only: a write has no effect -/
  | fixed
deriving DecidableEq, Repr

/-- A field of a layout. -/
structure Field where
  start : Nat
  size : Nat
  treat : Treatment
deriving DecidableEq, Repr

/-- R178: a share as it is stored. -/
def clampShare (v : Nat) : Nat := if v = 0 then 0 else clampNat 32 480 v

/-- R178: the boot preset byte as it is stored. -/
def clampBoot (v : Nat) : Nat := if v < 8 then v else 255

/-- The bytes stored in a field whose composed bytes are `bs` (R21, R22); for a fixed field the bytes themselves. -/
def Treatment.store (t : Treatment) (bs : List Byte) : List Byte :=
  match t with
  | .plain => bs
  | .unsigned lo hi => leBytes bs.length (clampNat lo hi (leNat bs))
  | .signed lo hi => leIntBytes bs.length (clampInt lo hi (leInt bs))
  | .mask bits => bs.map fun b => b &&& bits
  | .share => leBytes bs.length (clampShare (leNat bs))
  | .bootSlot => leBytes bs.length (clampBoot (leNat bs))
  | .fixed => bs

/-- R8: the record header's field at offset `a` < 64. -/
def headerField (a : Nat) : Field :=
  if a < 2 then ⟨0, 2, .unsigned 64 4096⟩
  else if a < 4 then ⟨2, 2, .unsigned 64 2160⟩
  else if a < 6 then ⟨4, 2, .unsigned 640 2560⟩
  else if a < 8 then ⟨6, 2, .unsigned 480 1600⟩
  else if a < 10 then ⟨a, 1, .unsigned 4 7⟩
  else if a < 12 then ⟨a, 1, .unsigned 4 8⟩
  else if a < 30 then ⟨12 + 2 * ((a - 12) / 2), 2, .signed (-8192) 8191⟩
  else if a < 36 then ⟨30 + 2 * ((a - 30) / 2), 2, .unsigned 0 1023⟩
  else if a = 36 then ⟨36, 1, .unsigned 3 8⟩
  else if a < 40 then ⟨a, 1, .fixed⟩
  else if a < 44 then ⟨40, 4, .fixed⟩
  else ⟨a, 1, .fixed⟩

/-- R8, R22: the field at byte `rel` of the geometry node that starts at `base`. -/
def geometryField (base rel : Nat) : Field :=
  if rel < 3 then ⟨base, 3, .signed (-524288) 524287⟩
  else if rel < 6 then ⟨base + 3, 3, .signed (-524288) 524287⟩
  else if rel = 6 then ⟨base + 6, 1, .mask 1⟩
  else ⟨base + 7, 1, .fixed⟩

/-- R8: the field at byte `rel` of the blend node that starts at `base`. -/
def blendField (base rel : Nat) : Field :=
  if rel < 2 then ⟨base, 2, .unsigned 0 4096⟩ else ⟨base + 2, 2, .unsigned 0 4095⟩

/-- R8: the field of a channel record at offset `a`. -/
def recordField (a : Nat) : Field :=
  if a < 64 then headerField a
  else if a < 33864 then geometryField (64 + 8 * ((a - 64) / 8)) ((a - 64) % 8)
  else if a < 99400 then blendField (33864 + 4 * ((a - 33864) / 4)) ((a - 33864) % 4)
  else if a < 101448 then ⟨99400 + 2 * ((a - 99400) / 2), 2, .plain⟩
  else ⟨101448 + 2 * ((a - 101448) / 2), 2, .unsigned 0 1023⟩

/-- R170: the layout under which a loaded record lands: as a write's, but the generation field takes the body's
value. -/
def landField (a : Nat) : Field :=
  if 40 ≤ a ∧ a < 44 then ⟨40, 4, .plain⟩ else recordField a

/-- R8, R24: the field of a set header at offset `a`. -/
def setHeaderField (a : Nat) : Field :=
  if a < 16 then ⟨a, 1, .plain⟩ else if a < 20 then ⟨16, 4, .fixed⟩ else ⟨a, 1, .fixed⟩

/-- R178: the field of the SETUP region at offset `a`. -/
def setupField (a : Nat) : Field :=
  if a < 8 then ⟨2 * (a / 2), 2, .share⟩
  else if a < 12 then ⟨a, 1, .mask 7⟩
  else if a = 12 then ⟨12, 1, .unsigned 0 9⟩
  else if a = 13 then ⟨13, 1, .unsigned 0 1⟩
  else if a = 14 then ⟨14, 1, .plain⟩
  else if a = 15 then ⟨15, 1, .bootSlot⟩
  else if a < 28 then ⟨a, 1, .fixed⟩
  else ⟨28, 4, .fixed⟩

/-! ### Applying a write (R21) -/

/-- R21: the byte at `a` composed of the payload written from `offset` on and the stored byte elsewhere. -/
def composedByte (d : Nat → Byte) (m : Cells) (offset : Nat) (payload : List Byte) (a : Nat) : Byte :=
  if offset ≤ a then (payload[a - offset]?).getD (Cells.read d m a) else Cells.read d m a

/-- R21: the byte stored at `a`, a byte of a field the write touches. -/
def storedByte (layout : Nat → Field) (d : Nat → Byte) (m : Cells) (offset : Nat) (payload : List Byte) (a : Nat) :
    Byte :=
  let f := layout a
  let composed := (List.range f.size).map fun j => composedByte d m offset payload (f.start + j)
  match f.treat with
  | .fixed => Cells.read d m a
  | t => ((t.store composed)[a - f.start]?).getD (Cells.read d m a)

/-- R21: the structure after a write: every field touched is composed, clamped and stored whole; the rest is kept. -/
def applyWrite (layout : Nat → Field) (d : Nat → Byte) (m : Cells) (offset : Nat) (payload : List Byte) : Cells :=
  if payload = [] then m
  else
    let last := layout (offset + payload.length - 1)
    let lo := (layout offset).start
    let hi := last.start + last.size
    Cells.write d m lo ((List.range (hi - lo)).map fun i => storedByte layout d m offset payload (lo + i))

/-! ### The default record (R25) -/

/-- R25: the default header's bytes. -/
def defaultHeader : List Byte :=
  leBytes 2 1920 ++ leBytes 2 1200 ++ leBytes 2 1920 ++ leBytes 2 1200 ++ [6, 6, 6, 6]
    ++ leBytes 2 4096 ++ leBytes 2 0 ++ leBytes 2 0
    ++ leBytes 2 0 ++ leBytes 2 4096 ++ leBytes 2 0
    ++ leBytes 2 0 ++ leBytes 2 0 ++ leBytes 2 4096
    ++ leBytes 2 512 ++ leBytes 2 512 ++ leBytes 2 512 ++ [6]

/-- R25: byte `rel` of default geometry entry `e`. -/
def defaultNodeByte (e rel : Nat) : Byte :=
  if e < 620 then
    if rel < 3 then ((leBytes 3 (4096 * (e % 31)))[rel]?).getD 0
    else if rel < 6 then ((leBytes 3 (4096 * (e / 31)))[rel - 3]?).getD 0
    else 0
  else 0

/-- R25: the byte of the default record at offset `a`. -/
def defaultByte (a : Nat) : Byte :=
  if a < 64 then (defaultHeader[a]?).getD 0
  else if a < 33864 then defaultNodeByte ((a - 64) / 8) ((a - 64) % 8)
  else if a < 99400 then ((leBytes 4 4096)[(a - 33864) % 4]?).getD 0
  else if a < 101448 then ((leBytes 2 (64 * ((a - 99400) / 2)))[(a - 99400) % 2]?).getD 0
  else if a < 103498 then ((leBytes 2 (min ((a - 101448) / 2) 1023))[(a - 101448) % 2]?).getD 0
  else 0

/-! ### Reading a record -/

/-- R6: the stored bytes of a record. -/
def Rec.bytes (r : Cells) : List Byte := Cells.bytes defaultByte r 0 Config.recordSize

/-- An unsigned field of a record, as stored. -/
def Rec.nat (r : Cells) (a size : Nat) : Nat := leNat (Cells.bytes defaultByte r a size)

/-- A signed field of a record, as stored. -/
def Rec.int (r : Cells) (a size : Nat) : Int := leInt (Cells.bytes defaultByte r a size)

/-- R49: the bytes of the field that starts at `a`, as a write would store them. -/
def Rec.clampedBytes (r : Cells) (a : Nat) : List Byte :=
  (recordField a).treat.store (Cells.bytes defaultByte r a (recordField a).size)

/-- R49: an unsigned field as Pipeline c reads it. -/
def Rec.clampedNat (r : Cells) (a : Nat) : Nat := leNat (Rec.clampedBytes r a)

/-- R49: a signed field as Pipeline c reads it. -/
def Rec.clampedInt (r : Cells) (a : Nat) : Int := leInt (Rec.clampedBytes r a)

/-- R9: W_in, as stored. -/
def Rec.wIn (r : Cells) : Nat := Rec.nat r 0 2

/-- R9: H_in, as stored. -/
def Rec.hIn (r : Cells) : Nat := Rec.nat r 2 2

/-- R14: the origin kind byte. -/
def Rec.originKind (r : Cells) : Byte := Cells.read defaultByte r 44

/-- R14: the origin slot byte. -/
def Rec.originSlot (r : Cells) : Byte := Cells.read defaultByte r 45

/-- R14: the record with its origin fields written by the part. -/
def Rec.setOrigin (r : Cells) (kind slot : Byte) : Cells := Cells.write defaultByte r 44 [kind, slot]

/-- R13: the record with its generation field written by the part. -/
def Rec.setGen (r : Cells) (g : Word32) : Cells := Cells.write defaultByte r 40 (word32Bytes g)

/-- R14: origin kind 1, PRESET. -/
def originPreset : Byte := 1

/-- R14: origin kind 2, EDITED. -/
def originEdited : Byte := 2

/-- R14: origin kind 3, ACTIVE_COPY. -/
def originActiveCopy : Byte := 3

/-- R24: the set name of a set header. -/
def Header.name (h : Cells) : List Byte := Cells.bytes zeroByte h 0 16

/-- R24: the header with its set name replaced. -/
def Header.setName (h : Cells) (name : List Byte) : Cells := Cells.write zeroByte h 0 name

/-- R24: the header with its set generation written by the part. -/
def Header.setGen (h : Cells) (g : Word32) : Cells := Cells.write zeroByte h 16 (word32Bytes g)

/-! ### Grids and the checks of a commit -/

/-- R16: a grid dimension, floor((size − 1)/2^exponent) + 2. -/
def gridDim (size exponent : Nat) : Nat := (((size : Int) - 1) / (2 ^ exponent : Nat) + 2).toNat

/-- R16, R137: Gx of a record as stored. -/
def Rec.gx (r : Cells) : Nat := gridDim (Rec.nat r 4 2) (Rec.nat r 8 1)

/-- R16, R137: Gy of a record as stored. -/
def Rec.gy (r : Cells) : Nat := gridDim (Rec.nat r 6 2) (Rec.nat r 9 1)

/-- R17: the offset of geometry entry `e`. -/
def nodeOffset (e : Nat) : Nat := 64 + 8 * e

/-- R137: the grid check of one record. -/
def Rec.gridOk (r : Cells) : Bool := decide (Rec.gx r ≤ 65) && decide (Rec.gy r ≤ 65)

/-- R138: the v values of the unmasked nodes of node row `j`. -/
def Rec.rowV (r : Cells) (j : Nat) : List Int :=
  (List.range (Rec.gx r)).filterMap fun i =>
    let a := nodeOffset (j * Rec.gx r + i)
    if (Cells.read defaultByte r (a + 6)).getLsbD 0 then none else some (Rec.int r (a + 3) 3)

/-- The largest of a non-empty list. -/
def maxInt : Int → List Int → Int
  | m, [] => m
  | m, x :: xs => maxInt (if m < x then x else m) xs

/-- The smallest of a non-empty list. -/
def minInt : Int → List Int → Int
  | m, [] => m
  | m, x :: xs => minInt (if x < m then x else m) xs

/-- R138: the span limit over the v values of a band; a band with none passes. -/
def spanOk : List Int → Bool
  | [] => true
  | v :: vs => decide (maxInt v vs / 64 - minInt v vs / 64 + 2 ≤ 256)

/-- R138: band `j` of a record passes the span check. -/
def Rec.bandOk (r : Cells) (j : Nat) : Bool := spanOk (Rec.rowV r j ++ Rec.rowV r (j + 1))

/-- R138: the first band of a record that fails the span check. -/
def Rec.badBand (r : Cells) : Option Nat := (List.range (Rec.gy r - 1)).find? fun j => !Rec.bandOk r j

/-- R137, R138: how a set of records fails. -/
inductive CheckFail where
  | grid (c : Chan)
  | span (c : Chan) (band : Nat)
deriving DecidableEq, Repr

/-- R137: the first channel whose record fails the grid check. -/
def firstBadGrid : List (Chan × Cells) → Option CheckFail
  | [] => none
  | (c, r) :: rest => if Rec.gridOk r then firstBadGrid rest else some (.grid c)

/-- R138: the first channel and band that fail the span check. -/
def firstBadSpan : List (Chan × Cells) → Option CheckFail
  | [] => none
  | (c, r) :: rest =>
    match Rec.badBand r with
    | some j => some (.span c j)
    | none => firstBadSpan rest

/-- R137, R138: the grid check over all records, then the span check. -/
def checkRecords (rs : List (Chan × Cells)) : Option CheckFail :=
  match firstBadGrid rs with
  | some f => some f
  | none => firstBadSpan rs

/-- R138: the payload of VALIDATION_FAILED. -/
def CheckFail.payload : CheckFail → List Byte
  | .grid c => [0, BitVec.ofNat 8 c.val, 0]
  | .span c j => [1, BitVec.ofNat 8 c.val, BitVec.ofNat 8 j]

/-- R15, R136: the record's bytes with header bytes 37 … 63 regarded as zero. -/
def Rec.commitBytes (r : Cells) : List Byte :=
  Cells.bytes defaultByte r 0 37 ++ List.replicate 27 0 ++ Cells.bytes defaultByte r 64 (Config.recordSize - 64)

/-- R136: the commit checksum over records in increasing channel order, as one run of bytes. -/
def commitCrc (rs : List (Chan × Cells)) : Word32 := crc32 (rs.flatMap fun p => Rec.commitBytes p.2)

end Sys2Proof.Machine
end

