-- ==== Sys2Proof/Machine/Pixel.lean ====
section
/-! DEFINITION. The correction computation: the seven stages that give an output pixel its codes, from the active
record, the mode and the showing slot's frame (R27 to R50). Every quantity is an integer, and floor is toward minus
infinity. -/

namespace Sys2Proof.Machine

/-- The three output codes of a pixel (R28). -/
structure Codes where
  r : Nat
  g : Nat
  b : Nat
deriving DecidableEq, Repr

/-- R31, R35, R48: the codes of a masked, outside or STANDBY pixel. -/
def Codes.black : Codes := ⟨0, 0, 0⟩

/-- R30, R44: where a pixel lies in a grid: its cell, its offsets in the cell and the cell's size. -/
structure Cell where
  i : Nat
  j : Nat
  fx : Nat
  fy : Nat
  cx : Nat
  cy : Nat
deriving DecidableEq, Repr

/-- R30, R44: the cell of output pixel (x, y) in a grid of exponents `ex` and `ey`. -/
def cellOf (ex ey x y : Nat) : Cell where
  i := x / 2 ^ ex
  j := y / 2 ^ ey
  fx := x % 2 ^ ex
  fy := y % 2 ^ ey
  cx := 2 ^ ex
  cy := 2 ^ ey

/-- R32, R44: bilinear interpolation of the corner values A, B, C, D in a cell, rounding half up. -/
def interpolate (cell : Cell) (a b c d : Int) : Int :=
  let top := a * ((cell.cx : Int) - cell.fx) + b * cell.fx
  let bottom := c * ((cell.cx : Int) - cell.fx) + d * cell.fx
  let area := (cell.cx : Int) * cell.cy
  (top * ((cell.cy : Int) - cell.fy) + bottom * cell.fy + area / 2) / area

/-- R49: Gx from the clamped header fields. -/
def pipeGx (r : Cells) : Nat := gridDim (Rec.clampedNat r 4) (Rec.clampedNat r 8)

/-- R49: Hx from the clamped header fields. -/
def pipeHx (r : Cells) : Nat := gridDim (Rec.clampedNat r 4) (Rec.clampedNat r 10)

/-- R31, R49: the mask of geometry entry `e`; an entry that does not exist is taken as masked. -/
def nodeMasked (r : Cells) (e : Nat) : Bool :=
  decide (Config.geometryEntries ≤ e) || (Cells.read defaultByte r (nodeOffset e + 6)).getLsbD 0

/-- R17, R49: u of geometry entry `e`. -/
def nodeU (r : Cells) (e : Nat) : Int := Rec.clampedInt r (nodeOffset e)

/-- R17, R49: v of geometry entry `e`. -/
def nodeV (r : Cells) (e : Nat) : Int := Rec.clampedInt r (nodeOffset e + 3)

/-- R30: the geometry cell of a pixel. -/
def geometryCell (r : Cells) (x y : Nat) : Cell := cellOf (Rec.clampedNat r 8) (Rec.clampedNat r 9) x y

/-- R30: the geometry entries of the corners A, B, C, D of a pixel. -/
def corners (gx : Nat) (cell : Cell) : Nat × Nat × Nat × Nat :=
  let a := cell.j * gx + cell.i
  (a, a + 1, a + gx, a + gx + 1)

/-- R31: the pixel is masked. -/
def pixelMasked (r : Cells) (x y : Nat) : Bool :=
  let (a, b, c, d) := corners (pipeGx r) (geometryCell r x y)
  nodeMasked r a || nodeMasked r b || nodeMasked r c || nodeMasked r d

/-- R32: u and v of an unmasked pixel. -/
def pixelUV (r : Cells) (x y : Nat) : Int × Int :=
  let cell := geometryCell r x y
  let (a, b, c, d) := corners (pipeGx r) cell
  (interpolate cell (nodeU r a) (nodeU r b) (nodeU r c) (nodeU r d),
   interpolate cell (nodeV r a) (nodeV r b) (nodeV r c) (nodeV r d))

/-- R35: the position is outside a source frame of width `ws` and height `hs`. -/
def outside (u v : Int) (ws hs : Nat) : Bool :=
  decide (u < -64) || decide ((ws : Int) ≤ u / 64) || decide (v < -64) || decide ((hs : Int) ≤ v / 64)

/-- R36: an index clamped to 0 … size − 1. -/
def clampIndex (i : Int) (size : Nat) : Nat := (clampInt 0 ((size : Int) - 1) i).toNat

/-- R38: the filter over four fetched values, rounding half up. -/
def filterValue (p00 p10 p01 p11 : Nat) (au av : Nat) : Nat :=
  let t := p00 * (64 - au) + p10 * au
  let b := p01 * (64 - au) + p11 * au
  (t * (64 - av) + b * av + 2048) / 4096

/-- R69: the address of the pixel in column `i` and row `j` of slot `s` of channel `c`. -/
def pixelAddress (c : Chan) (s : SlotIx) (i j : Nat) : Nat :=
  (3 * c.val + s.val) * Config.slotBytes + Config.rowPitch * j + 4 * i

/-- R69: the code of a component, 0 for R, 1 for G, 2 for B, of the pixel stored at an address. -/
def fetchCode (mem : Cells) (a : Nat) (component : Nat) : Nat :=
  leNat (Cells.bytes zeroByte mem a 4) / 2 ^ (10 * component) % 1024

/-- R69: a pixel's word: R in bits 0 … 9, G in bits 10 … 19, B in bits 20 … 29. -/
def pixelWord (p : Pixel) : Nat := p.r.toNat + 2 ^ 10 * p.g.toNat + 2 ^ 20 * p.b.toNat

/-- R36 to R38: the filtered value of a component at an inside position of the source frame. -/
def sampleSource (mem : Cells) (c : Chan) (src : SourceFrame) (u v : Int) (component : Nat) : Nat :=
  let iu := u / 64
  let iv := v / 64
  let fetch := fun (i j : Int) =>
    fetchCode mem (pixelAddress c src.slot (clampIndex i src.width) (clampIndex j src.height)) component
  filterValue (fetch iu iv) (fetch (iu + 1) iv) (fetch iu (iv + 1)) (fetch (iu + 1) (iv + 1))
    (u - 64 * iu).toNat (v - 64 * iv).toNat

/-- R41: the generated value at a whole source column and row, for a grid exponent. -/
def gridValue (exponent : Nat) (iu iv : Int) : Nat :=
  if iu % (2 ^ exponent : Nat) = 0 ∨ iv % (2 ^ exponent : Nat) = 0 then 1023 else 0

/-- R42: DEG[val] of the record. -/
def degamma (r : Cells) (val : Nat) : Nat := Rec.clampedNat r (99400 + 2 * val)

/-- R11, R43: matrix entry (k, m) of the record. -/
def matrixEntry (r : Cells) (k m : Nat) : Int := Rec.clampedInt r (12 + 2 * (3 * k + m))

/-- R43: one output component of the colour matrix, rounding half up and saturating. -/
def matrixRow (m0 m1 m2 : Int) (lr lg lb : Nat) : Nat :=
  (clampInt 0 65535 ((m0 * lr + m1 * lg + m2 * lb + 2048) / 4096)).toNat

/-- R19, R49: the gain of blend entry `e`. -/
def blendGain (r : Cells) (e : Nat) : Int := Rec.clampedNat r (33864 + 4 * e)

/-- R19, R49: the lift of blend entry `e`. -/
def blendLift (r : Cells) (e : Nat) : Int := Rec.clampedNat r (33864 + 4 * e + 2)

/-- R44, R46: the gain and the lift of a pixel. -/
def blendAt (r : Cells) (x y : Nat) : Nat × Nat :=
  let cell := cellOf (Rec.clampedNat r 10) (Rec.clampedNat r 11) x y
  let (a, b, c, d) := corners (pipeHx r) cell
  ((interpolate cell (blendGain r a) (blendGain r b) (blendGain r c) (blendGain r d)).toNat,
   (interpolate cell (blendLift r a) (blendLift r b) (blendLift r c) (blendLift r d)).toNat)

/-- R45: the gain applied to a component. -/
def applyGain (l g : Nat) : Nat := (l * g + 2048) / 4096

/-- R46: the floor of a component raised, full scale kept. -/
def applyLift (o lift : Nat) : Nat := lift + (o * (65535 - lift) + 32767) / 65535

/-- R47: REG[q] of the record. -/
def regammaEntry (r : Cells) (q : Nat) : Nat := Rec.clampedNat r (101448 + 2 * q)

/-- R47: interpolation between two regamma entries. -/
def regammaBetween (lo hi rem : Nat) : Nat := (lo * (64 - rem) + hi * rem + 32) / 64

/-- R47: the output code of a component. -/
def regamma (r : Cells) (f : Nat) : Nat :=
  regammaBetween (regammaEntry r (f / 64)) (regammaEntry r (f / 64 + 1)) (f % 64)

/-- R45 to R47: stages 5 to 7 of one component. -/
def finishComponent (r : Cells) (gain lift l : Nat) : Nat := regamma r (applyLift (applyGain l gain) lift)

/-- R42 to R47: stages 4 to 7 from the three filtered values. -/
def finishPixel (r : Cells) (x y : Nat) (vr vg vb : Nat) : Codes :=
  let lr := degamma r vr
  let lg := degamma r vg
  let lb := degamma r vb
  let (gain, lift) := blendAt r x y
  let row := fun k => matrixRow (matrixEntry r k 0) (matrixEntry r k 1) (matrixEntry r k 2) lr lg lb
  ⟨finishComponent r gain lift (row 0), finishComponent r gain lift (row 1), finishComponent r gain lift (row 2)⟩

/-- R27, R37: the width and height that the outside test takes. -/
def sourceSize (r : Cells) : Option SourceFrame → Nat × Nat
  | some src => (src.width, src.height)
  | none => (Rec.clampedNat r 0, Rec.clampedNat r 2)

/-- R36, R37: the filtered value of a component; 0 when there is no showing slot. -/
def sampleOrZero (mem : Cells) (c : Chan) (src : Option SourceFrame) (u v : Int) (component : Nat) : Nat :=
  match src with
  | some f => sampleSource mem c f u v component
  | none => 0

/-- R29 to R48: the codes of output pixel (x, y) of channel `c` in a mode, from frame memory `mem`, the record `r` and
the source frame. OFF sends no frame; its value here is not used. -/
def outputPixel (mem r : Cells) (c : Chan) (mode : Mode) (src : Option SourceFrame) (x y : Nat) : Codes :=
  match mode with
  | .off => Codes.black
  | .standby => Codes.black
  | .flat =>
    if pixelMasked r x y then Codes.black
    else finishPixel r x y (Rec.clampedNat r 30) (Rec.clampedNat r 32) (Rec.clampedNat r 34)
  | .grid =>
    if pixelMasked r x y then Codes.black
    else
      let (u, v) := pixelUV r x y
      let (ws, hs) := sourceSize r src
      if outside u v ws hs then Codes.black
      else
        let g := gridValue (Rec.clampedNat r 36) (u / 64) (v / 64)
        finishPixel r x y g g g
  | .live | .hold =>
    if pixelMasked r x y then Codes.black
    else
      let (u, v) := pixelUV r x y
      let (ws, hs) := sourceSize r src
      if outside u v ws hs then Codes.black
      else
        finishPixel r x y (sampleOrZero mem c src u v 0) (sampleOrZero mem c src u v 1) (sampleOrZero mem c src u v 2)

end Sys2Proof.Machine
end

