-- ==== Sys2Proof/Machine/Flags.lean ====
section
/-! DEFINITION. The flags of the part: the event kinds and their bits (spec/11_events_and_status.md), the roles (R187),
and the part's codes of its enumerated values (R187, R200, R211). -/

namespace Sys2Proof.Machine

/-- The eleven event kinds (R205). -/
inductive EventKind where
  | timebase | input | membership | activated | holdOwner | integrity | preset | setup | refused | protocol | line
deriving DecidableEq, Repr

/-- R187: the set holding one kind. -/
def EventKind.bit : EventKind → KindSet
  | .timebase => 1
  | .input => 2
  | .membership => 4
  | .activated => 8
  | .holdOwner => 16
  | .integrity => 32
  | .preset => 64
  | .setup => 128
  | .refused => 256
  | .protocol => 512
  | .line => 1024

/-- R187: the role VIEW. -/
def roleView : BitVec 3 := 1

/-- R187: the role SHOW. -/
def roleShow : BitVec 3 := 2

/-- R187: the role ALIGN. -/
def roleAlign : BitVec 3 := 4

/-- R190: a role set holds a role that is permitted. -/
def hasRole (roles permitted : BitVec 3) : Bool := roles &&& permitted != 0

/-- R200. -/
def Status.code : Status → Byte
  | .success => 0
  | .denied => 1
  | .held => 2
  | .notHolder => 3
  | .busy => 4
  | .locked => 5
  | .invalid => 6
  | .checkMismatch => 7
  | .validationFailed => 8
  | .cancelled => 9
  | .superseded => 10
  | .slotOccupied => 11
  | .slotEmpty => 12
  | .presetCorrupt => 13

/-- R211: the reasons of a protocol fault, 0 KIND to 5 NOTICE_CREDIT. -/
def FaultReason.code : FaultReason → Byte
  | .kind => 0
  | .length => 1
  | .units => 2
  | .count => 3
  | .tag => 4
  | .noticeCredit => 5

/-- R112, R211. -/
def Mode.code : Mode → Byte
  | .off => 0
  | .standby => 1
  | .live => 2
  | .hold => 3
  | .flat => 4
  | .grid => 5

/-- R112: the mode of a parameter byte. -/
def modeOfCode (b : Byte) : Option Mode :=
  match b.toNat with
  | 0 => some .off
  | 1 => some .standby
  | 2 => some .live
  | 3 => some .hold
  | 4 => some .flat
  | 5 => some .grid
  | _ => none

/-- R66, R211. -/
def RefState.code : RefState → Byte
  | .freeRun => 0
  | .acquiring => 1
  | .locked => 2
  | .holdover => 3

/-- R66, R178, R211. -/
def RefSource.code : RefSource → Byte
  | .houseSync => 0
  | .none => 1

/-- R85, R211. -/
def InputReason.code : InputReason → Byte
  | .none => 0
  | .misroute => 1
  | .size => 2
  | .stale => 3
  | .short => 4
  | .long => 5
  | .badLine => 6
  | .lost => 7
  | .resync => 8

/-- R103, R211. -/
def Membership.code : Membership → Byte
  | .none => 0
  | .joined => 1
  | .excluded => 2

/-- R148, R211. -/
def StagingState.code : StagingState → Byte
  | .openState => 0
  | .loading => 1
  | .commitPending => 2
  | .copyBack => 3

/-- R211: the operation owner, link 0 … 3, 4 PART START_UP, 5 PART REPAIR. -/
def OpOwner.code : OpOwner → Byte
  | .link k => BitVec.ofNat 8 k.val
  | .startUp => 4
  | .repair => 5

/-- R162, R211. -/
def Integrity.code : Integrity → Byte
  | .idle => 0
  | .referencePending => 1
  | .checking => 2
  | .fault => 3

/-- R211: repair source, 0 … 7, 8 NONE. -/
def RepairSource.code : RepairSource → Byte
  | .slot s => BitVec.ofNat 8 s.val
  | .none => 8

/-- R211. -/
def RepairPhase.code : RepairPhase → Byte
  | .loading => 0
  | .commitPending => 1
  | .copyBack => 2

/-- R211: the last integrity report. -/
def Report.code : Report → Byte
  | .none => 0
  | .fault _ => 1
  | .repaired _ => 2
  | .repairFailed _ => 3

/-- R162: the channel of the last integrity report. -/
def Report.chan : Report → Option Chan
  | .none => Option.none
  | .fault c => some c
  | .repaired c => some c
  | .repairFailed c => some c

/-- R212. -/
def SlotState.code : SlotState → Byte
  | .empty => 0
  | .storing => 1
  | .valid => 2
  | .corrupt => 3
  | .erasing => 4

/-- R211: the NV operation. -/
def NvOp.code : NvOp → Byte
  | .startUpRead => 0
  | .store _ => 1
  | .load _ _ => 2
  | .erase _ => 3
  | .setupStore => 4

/-- R182, R211: the slot of the NV operation. -/
def NvOp.slot : NvOp → Option SlotId
  | .startUpRead => none
  | .store s => some s
  | .load s _ => some s
  | .erase s => some s
  | .setupStore => none

/-- R182, R211: the owner of a load. -/
def NvOp.loadOwner : NvOp → Option OpOwner
  | .load _ o => some o
  | _ => none

/-- R182, R211. -/
def SetupOutcome.code : SetupOutcome → Byte
  | .sound => 0
  | .defaults => 1

/-- R182, R211. -/
def BootOutcome.code : BootOutcome → Byte
  | .none => 0
  | .slotNotValid => 1
  | .loaded => 2
  | .corrupt _ => 3
  | .rejected => 4

end Sys2Proof.Machine
end

