-- ==== Sys2Proof/WellFormed.lean ====
section
/-! DEFINITION. When a command is well formed: its byte offsets lie inside the structure they name, a WRITE carries at
most 256 payload bytes, a COMMAND at most 16 parameter bytes (R187), and a command of the row WRITE names no writable
region (R189). An ill-formed command still has a meaning: the line layer or the link discards it (R184, R188), or it
names an address the part does not have. -/

namespace Sys2Proof

/-- Every changed byte lies below `size`. -/
def cellsInside (changed : List Host.Cell) (size : Nat) : Bool :=
  changed.all fun p => decide (p.1 < size)

/-- The number of bytes of a structure of a bank. -/
def CalTarget.size : CalTarget → Nat
  | .record _ => Config.recordSize
  | .header => Config.headerSize

/-- R189: the region code and channel name a region that a WRITE may write. -/
def namesWritable (region channel : Byte) : Bool :=
  (region == 0 && decide (channel.toNat < 6)) || region == 2 || region == 4

/-- R187: a WRITE payload has 0 … 256 bytes. -/
def payloadOk (payload : List Byte) : Bool := decide (payload.length ≤ 256)

/-- R187: a COMMAND payload has 0 … 16 bytes. -/
def paramsOk (params : List Byte) : Bool := decide (params.length ≤ 16)

/-- The command is well formed. -/
def Instr.wellFormed : Instr → Bool
  | .startUp => true
  | .setupRecordRead changed => cellsInside changed Config.setupSize
  | .directoryScanEnd => true
  | .memoryDamage _ target changed _ _ => cellsInside changed target.size
  | .referenceEdge _ => true
  | .missingEdgeLimitAcquiring => true
  | .missingEdgeLimitLocked => true
  | .holdoverTickLimit => true
  | .frameTick => true
  | .frameHeader _ _ _ _ _ _ => true
  | .line _ _ _ => true
  | .endOfFrame _ _ => true
  | .signalPresent _ _ => true
  | .signalLost _ _ => true
  | .signalLossLimit _ => true
  | .linkUp _ => true
  | .linkDown _ => true
  | .messageArrival _ _ => true
  | .credit _ _ => true
  | .stagingRecordWrite _ _ _ payload => payloadOk payload
  | .stagingHeaderWrite _ _ payload => payloadOk payload
  | .setupWrite _ _ payload => payloadOk payload
  | .write _ region channel _ payload => !namesWritable region channel && payloadOk payload
  | .stagingRead _ _ _ _ _ => true
  | .clear _ _ => true
  | .holdAcquire _ _ params => paramsOk params
  | .holdRelease _ _ params => paramsOk params
  | .holdBreak _ _ params => paramsOk params
  | .commit _ _ params => paramsOk params
  | .commitCancel _ _ params => paramsOk params
  | .showLock _ _ params => paramsOk params
  | .showUnlock _ _ params => paramsOk params
  | .channelMode _ _ params => paramsOk params
  | .barrierLimit _ _ params => paramsOk params
  | .presetStore _ _ params => paramsOk params
  | .presetLoad _ _ params => paramsOk params
  | .presetErase _ _ params => paramsOk params
  | .setupStore _ _ params => paramsOk params
  | .eventEnable _ _ params => paramsOk params
  | .messageSent _ => true
  | .serveWaitingRequests => true
  | .presetRecordLanded changed => cellsInside changed Config.bodySize
  | .restoreCopyEnd => true
  | .presetStoreEnd => true
  | .presetEraseEnd => true
  | .setupStoreEnd => true
  | .copyBackCopyEnd => true
  | .scanPassEnd => true
  | .repairBegin => true

end Sys2Proof
end

