-- ==== Sys2Proof/Machine/Operands.lean ====
section
/-! DEFINITION. The operand forms of the part: the message header on a link, arriving and sent (R184, R187, R188), the
regions a READ or WRITE names (R189), and the parameter bytes of the commands. -/

namespace Sys2Proof.Machine

/-! ### Messages arriving (R184, R187, R188) -/

/-- R187: message kind codes. -/
def kindWrite : Byte := 0x01
/-- R187. -/
def kindClear : Byte := 0x02
/-- R187. -/
def kindRead : Byte := 0x03
/-- R187. -/
def kindCommand : Byte := 0x04
/-- R187. -/
def kindCredit : Byte := 0x05
/-- R187. -/
def kindCompletion : Byte := 0x81
/-- R187. -/
def kindNotice : Byte := 0x82
/-- R187. -/
def kindPartCredit : Byte := 0x85

/-- A little-endian field of a list of bytes. -/
def field (bs : List Byte) (a n : Nat) : Nat := leNat ((bs.drop a).take n)

/-- A byte of a list of bytes; 0 beyond its end. -/
def byteAt (bs : List Byte) (a : Nat) : Byte := (bs[a]?).getD 0

/-- R184: the payload length that the header names. -/
def payloadLength (bs : List Byte) : Nat := field bs 8 2

/-- R184: the CRC-16 of a message: over header bytes 0 … 13 followed by the payload. -/
def messageCrc (bs : List Byte) : BitVec 16 := crc16 (bs.take 14 ++ bs.drop 16)

/-- R184: the line layer accepts the message. -/
def lineAccepts (bs : List Byte) : Bool :=
  decide (16 ≤ bs.length) && decide (payloadLength bs ≤ 256) && decide (bs.length = 16 + payloadLength bs)
    && decide ((messageCrc bs).toNat = field bs 14 2)

/-- What an arrival on a link is, before credits, roles and regions are looked at. -/
inductive Arrival where
  /-- R184: discarded by the line layer. -/
  | lineDiscard
  /-- R188: a protocol fault of form, with the message kind code. -/
  | badForm (reason : FaultReason) (kind : Byte)
  /-- R198: a CREDIT. -/
  | credit (grant : Byte)
  /-- A WRITE, CLEAR, READ or COMMAND of good form. -/
  | msg (m : Msg)
deriving DecidableEq, Repr

/-- R187, R188: the arrival that an accepted message is. -/
def readMessage (bs : List Byte) : Arrival :=
  let kind := byteAt bs 0
  let payload := bs.drop 16
  if kind = kindWrite then
    .msg (.write (byteAt bs 2) (byteAt bs 3) (BitVec.ofNat 32 (field bs 4 4)) payload)
  else if kind = kindClear then
    if payload = [] then .msg (.clear (BitVec.ofNat 32 (field bs 4 4))) else .badForm .length kind
  else if kind = kindRead then
    if payload = [] then
      .msg (.read (byteAt bs 1) (byteAt bs 2) (byteAt bs 3) (BitVec.ofNat 32 (field bs 4 4))
        (BitVec.ofNat 16 (field bs 10 2)))
    else .badForm .length kind
  else if kind = kindCommand then
    if payload.length ≤ 16 then .msg (.command (byteAt bs 1) (byteAt bs 2) payload) else .badForm .length kind
  else if kind = kindCredit then
    if payload = [] then .credit (byteAt bs 4) else .badForm .length kind
  else .badForm .kind kind

/-- R184, R188: the arrival that the bytes of a message are. -/
def readArrival (bs : List Byte) : Arrival := if lineAccepts bs then readMessage bs else .lineDiscard

/-- R184, R188: the arrival of a message whose form is given and not its bytes: a WRITE or COMMAND of more than 256
payload bytes is discarded by the line layer, a COMMAND of more than 16 has a bad length. -/
def formOf (m : Msg) : Arrival :=
  match m with
  | .write _ _ _ payload => if payload.length ≤ 256 then .msg m else .lineDiscard
  | .clear _ => .msg m
  | .read _ _ _ _ _ => .msg m
  | .command _ _ params =>
    if params.length ≤ 16 then .msg m
    else if params.length ≤ 256 then .badForm .length kindCommand
    else .lineDiscard

/-- R191: what a posted message costs, in units; a non-posted request costs none (R192). -/
def Msg.cost : Msg → Nat
  | .write _ _ _ payload => 1 + (payload.length + 15) / 16
  | .clear _ => 1
  | .read _ _ _ _ _ => 0
  | .command _ _ _ => 0

/-- The tag of a non-posted request. -/
def Msg.tag? : Msg → Option Byte
  | .write _ _ _ _ => none
  | .clear _ => none
  | .read tag _ _ _ _ => some tag
  | .command tag _ _ => some tag

/-- R187: the kind code of a message. -/
def Msg.kindCode : Msg → Byte
  | .write _ _ _ _ => kindWrite
  | .clear _ => kindClear
  | .read _ _ _ _ _ => kindRead
  | .command _ _ _ => kindCommand

/-! ### Messages sent (R187, R196, R197, R199, R207) -/

/-- R184: a header and payload with the CRC-16 put in header bytes 14 and 15. -/
def sealMessage (head14 payload : List Byte) : List Byte :=
  head14 ++ leBytes 2 (crc16 (head14 ++ payload)).toNat ++ payload

/-- R187: the bytes of a message from a master, with the fields that its kind does not use as 0. -/
def Msg.bytes : Msg → List Byte
  | .write region channel offset payload =>
    sealMessage ([kindWrite, 0, region, channel] ++ word32Bytes offset ++ leBytes 2 payload.length ++ leBytes 2 0
      ++ leBytes 2 0) payload
  | .clear set =>
    sealMessage ([kindClear, 0, 0, 0] ++ word32Bytes set ++ leBytes 2 0 ++ leBytes 2 0 ++ leBytes 2 0) []
  | .read tag region channel offset length =>
    sealMessage ([kindRead, tag, region, channel] ++ word32Bytes offset ++ leBytes 2 0 ++ leBytes 2 length.toNat
      ++ leBytes 2 0) []
  | .command tag code params =>
    sealMessage ([kindCommand, tag, code, 0] ++ leBytes 4 0 ++ leBytes 2 params.length ++ leBytes 2 0 ++ leBytes 2 0)
      params

/-- R187: the bytes of a message that the part sends; a CREDIT not yet filled in carries zeros. Units to return above the
512 of R187 are carried modulo 2^16, the model's choice (notes/assumptions/39.md). -/
def OutMsg.bytes : OutMsg → List Byte
  | .completion tag status offset payload rest =>
    sealMessage ([kindCompletion, tag, status.code, if rest = [] then 1 else 0] ++ word32Bytes offset
      ++ leBytes 2 payload.length ++ leBytes 2 0 ++ leBytes 2 0) payload
  | .notice set =>
    sealMessage ([kindNotice, 0, 0, 0] ++ leBytes 4 set.toNat ++ leBytes 2 0 ++ leBytes 2 0 ++ leBytes 2 0) []
  | .creditFixed units counts =>
    sealMessage ([kindPartCredit, 0, 0, 0] ++ leBytes 2 units ++ leBytes 2 counts ++ leBytes 2 0 ++ leBytes 2 0
      ++ leBytes 2 0) []
  | .creditOpen =>
    sealMessage ([kindPartCredit, 0, 0, 0] ++ leBytes 4 0 ++ leBytes 2 0 ++ leBytes 2 0 ++ leBytes 2 0) []

/-! ### Regions (R189) -/

/-- R189: the regions. -/
inductive Region where
  | stagingRecord (c : Chan)
  | activeRecord (c : Chan)
  | stagingHeader
  | activeHeader
  | setup
  | status
  | directory
deriving DecidableEq, Repr

/-- A channel number as a channel. -/
def chanOf (b : Byte) : Option Chan := if h : b.toNat < 6 then some ⟨b.toNat, h⟩ else none

/-- A slot number as a preset slot. -/
def slotOf (b : Byte) : Option SlotId := if h : b.toNat < 8 then some ⟨b.toNat, h⟩ else none

/-- R189: the region that a region code and a channel field name. -/
def regionOf (code channel : Byte) : Option Region :=
  match code.toNat with
  | 0 => (chanOf channel).map .stagingRecord
  | 1 => (chanOf channel).map .activeRecord
  | 2 => some .stagingHeader
  | 3 => some .activeHeader
  | 4 => some .setup
  | 5 => some .status
  | 6 => some .directory
  | _ => none

/-- R189: a region's length in bytes. -/
def Region.length : Region → Nat
  | .stagingRecord _ => Config.recordSize
  | .activeRecord _ => Config.recordSize
  | .stagingHeader => Config.headerSize
  | .activeHeader => Config.headerSize
  | .setup => Config.setupSize
  | .status => Config.statusSize
  | .directory => Config.directorySize

/-- R189: the role that a WRITE to the region needs; none for a read-only region. -/
def Region.writeRole : Region → Option (BitVec 3)
  | .stagingRecord _ => some roleAlign
  | .stagingHeader => some roleAlign
  | .setup => some roleShow
  | .activeRecord _ => none
  | .activeHeader => none
  | .status => none
  | .directory => none

/-- R189: a WRITE lies inside its region. -/
def writeInside (offset length size : Nat) : Bool := decide (offset < size) && decide (offset + length ≤ size)

/-- R189, R190: a READ has a length 1 … 4096 and lies inside its region. -/
def readInside (offset length size : Nat) : Bool :=
  decide (0 < length) && decide (length ≤ 4096) && decide (offset + length ≤ size)

/-- R187: the region code and channel of a structure of staging. -/
def targetRegion : CalTarget → Byte
  | .record _ => 0
  | .header => 2

/-- R187: the channel field of a structure of staging. -/
def targetChannel : CalTarget → Byte
  | .record c => BitVec.ofNat 8 c.val
  | .header => 0

/-! ### Command codes and parameters -/

/-- R187: the roles that permit a command code 01h … 0Eh; none for any other code. -/
def commandRoles (code : Byte) : Option (BitVec 3) :=
  match code.toNat with
  | 0x01 => some roleAlign
  | 0x02 => some roleAlign
  | 0x03 => some roleShow
  | 0x04 => some roleAlign
  | 0x05 => some roleAlign
  | 0x06 => some roleShow
  | 0x07 => some roleShow
  | 0x08 => some roleShow
  | 0x09 => some roleShow
  | 0x0A => some (roleAlign ||| roleShow)
  | 0x0B => some roleAlign
  | 0x0C => some roleAlign
  | 0x0D => some roleShow
  | 0x0E => some roleView
  | _ => none

/-- R112, R134: the channel set of a parameter byte: not empty, bits 6 and 7 clear. -/
def chanSetOf (b : Byte) : Option ChanSet := if b = 0 ∨ 64 ≤ b.toNat then none else some (b.setWidth 6)

/-- R112: the parameters of CHANNEL_MODE. -/
def channelModeParams (ps : List Byte) : Option (ChanSet × Mode) :=
  match ps with
  | set :: mode :: _ =>
    match chanSetOf set, modeOfCode mode with
    | some s, some m => some (s, m)
    | _, _ => none
  | _ => none

/-- R134: the parameters of COMMIT: channel set, activation and expected checksum. -/
def commitParams (ps : List Byte) : Option (ChanSet × Activation × Word32) :=
  if ps.length < 10 then none
  else
    match chanSetOf (byteAt ps 0), (byteAt ps 1).toNat with
    | some s, 0 => some (s, .nextTick, BitVec.ofNat 32 (field ps 6 4))
    | some s, 1 => some (s, .atFrame (BitVec.ofNat 32 (field ps 2 4)), BitVec.ofNat 32 (field ps 6 4))
    | _, _ => none

/-- R167, R169, R174: the slot parameter. -/
def slotParam (ps : List Byte) : Option SlotId :=
  match ps with
  | b :: _ => slotOf b
  | [] => none

/-- R208: the event set of EVENT_ENABLE, bits 0 … 10 of parameter bytes 0 … 3. -/
def eventSetParam (ps : List Byte) : Option KindSet :=
  if ps.length < 4 then none else some (BitVec.ofNat 11 (field ps 0 4))

/-- The channels of a set, in increasing order. -/
def ChanSet.chans (s : ChanSet) : List Chan := (List.finRange 6).filter fun c => s.getLsbD c.val

end Sys2Proof.Machine
end

