-- ==== Sys2Proof/Machine/Ops.lean ====
section
/-! DEFINITION. The shared operations over the state: one accessor and one update per piece of it, the roles of the
banks (R121), raising events and making notices (R205 to R207), completions and credits (R195 to R199), the waiting
requests (R125), and the few moves of Staging and of the NV controller that several commands make. -/

namespace Sys2Proof.Machine

/-! ### Accessors and updates -/

/-- Change the Timebase. -/
def State.modTimebase (f : Timebase → Timebase) (s : State) : State := { s with timebase := f s.timebase }

/-- Change Capture `c`. -/
def State.modCapture (c : Chan) (f : Capture → Capture) (s : State) : State :=
  { s with capture := s.capture.set c (f s.capture[c]) }

/-- Change what the Barrier holds of channel `c`. -/
def State.modMember (c : Chan) (f : Member → Member) (s : State) : State :=
  { s with barrier := { s.barrier with members := s.barrier.members.set c (f s.barrier.members[c]) } }

/-- Change the Barrier. -/
def State.modBarrier (f : Barrier → Barrier) (s : State) : State := { s with barrier := f s.barrier }

/-- Change Pipeline `c`. -/
def State.modPipe (c : Chan) (f : Pipe → Pipe) (s : State) : State := { s with pipes := s.pipes.set c (f s.pipes[c]) }

/-- Change Staging. -/
def State.modStaging (f : Staging → Staging) (s : State) : State := { s with staging := f s.staging }

/-- Change the Scanner. -/
def State.modScanner (f : Scanner → Scanner) (s : State) : State := { s with scanner := f s.scanner }

/-- Change what the Scanner holds of channel `c`. -/
def State.modWatch (c : Chan) (f : Watch → Watch) (s : State) : State :=
  { s with scanner := { s.scanner with watch := s.scanner.watch.set c (f s.scanner.watch[c]) } }

/-- Change the Preset store. -/
def State.modPreset (f : Preset → Preset) (s : State) : State := { s with preset := f s.preset }

/-- Change the flash. -/
def State.modFlash (f : Flash → Flash) (s : State) : State := { s with flash := f s.flash }

/-- Change Link `k`. -/
def State.modLink (k : LinkId) (f : Link → Link) (s : State) : State := { s with links := s.links.set k (f s.links[k]) }

/-- Change bank `b` of calibration memory. -/
def State.modBank (b : Bank) (f : BankMem → BankMem) (s : State) : State :=
  { s with banks := s.banks.set b (f s.banks[b]) }

/-- The record of channel `c` in bank `b`. -/
def State.record (s : State) (b : Bank) (c : Chan) : Cells := s.banks[b].records[c]

/-- The set header of bank `b`. -/
def State.header (s : State) (b : Bank) : Cells := s.banks[b].header

/-- Replace the record of channel `c` in bank `b`. -/
def State.setRecord (b : Bank) (c : Chan) (r : Cells) (s : State) : State :=
  s.modBank b fun m => { m with records := m.records.set c r }

/-- Replace the set header of bank `b`. -/
def State.setHeader (b : Bank) (h : Cells) (s : State) : State := s.modBank b fun m => { m with header := h }

/-- The other bank. -/
def otherBank (b : Bank) : Bank := 1 - b

/-- R121: the bank of channel `c`'s active record. -/
def State.activeBank (s : State) (c : Chan) : Bank := s.staging.sel[c]

/-- R121: the bank of channel `c`'s staging record. -/
def State.stagingBank (s : State) (c : Chan) : Bank := otherBank (s.activeBank c)

/-- R121: channel `c`'s active record. -/
def State.activeRecord (s : State) (c : Chan) : Cells := s.record (s.activeBank c) c

/-- R121: channel `c`'s staging record. -/
def State.stagingRecord (s : State) (c : Chan) : Cells := s.record (s.stagingBank c) c

/-- R121: the active set header. -/
def State.activeHeader (s : State) : Cells := s.header s.staging.setSel

/-- R121: the staging set header. -/
def State.stagingHeader (s : State) : Cells := s.header (otherBank s.staging.setSel)

/-- Replace channel `c`'s staging record. -/
def State.setStagingRecord (c : Chan) (r : Cells) (s : State) : State := s.setRecord (s.stagingBank c) c r

/-- Replace the staging set header. -/
def State.setStagingHeader (h : Cells) (s : State) : State := s.setHeader (otherBank s.staging.setSel) h

/-- Staging is OPEN. -/
def State.isOpen (s : State) : Bool := decide (s.staging.state = .openState)

/-- R164: the NV controller is idle. -/
def State.nvIdle (s : State) : Bool := decide (s.preset.nv = none)

/-- A PRESET_STORE is in flight. -/
def State.storeInFlight (s : State) : Bool :=
  match s.preset.nv with
  | some (.store _) => true
  | _ => false

/-- The state of preset slot `sl`. -/
def State.slotState (s : State) (sl : SlotId) : SlotState := s.preset.directory[sl].state

/-- R164: a slot record changed in the working copy and on flash, which agree. -/
def State.setSlot (sl : SlotId) (d : SlotDir) (s : State) : State :=
  (s.modPreset fun p => { p with directory := p.directory.set sl d }).modFlash
    fun f => { f with directory := f.directory.set sl d }

/-- Do something for every channel, in increasing order. -/
def forChans (f : Chan → State → State) (s : State) : State := (List.finRange 6).foldl (fun s c => f c s) s

/-- Do something for every link, in increasing order. -/
def forLinks (f : LinkId → State → State) (s : State) : State := (List.finRange 4).foldl (fun s k => f k s) s

/-! ### Events and notices (R205 to R207) -/

/-- R207: the link is UP, has a kind enabled and pending but not notified, and holds notice credit. -/
def Link.wantsNotice (l : Link) : Bool :=
  l.up && (l.enabled &&& l.pending &&& ~~~l.notified != 0) && decide (1 ≤ l.noticeCredit)

/-- R207: a NOTICE for the link, when its conditions hold. -/
def Link.testNotice (l : Link) : Link :=
  if l.wantsNotice then
    { l with
      notified := l.notified ||| (l.enabled &&& l.pending)
      noticeCredit := l.noticeCredit - 1
      sendQ := l.sendQ ++ [.notice (l.enabled &&& l.pending)] }
  else l

/-- R206: a kind raised on one link; a kind already pending stays so and changes nothing. -/
def Link.raise (e : EventKind) (l : Link) : Link :=
  if l.pending &&& e.bit = e.bit then l else { l with pending := l.pending ||| e.bit }.testNotice

/-- R206: one of link `k`'s own kinds is raised. -/
def State.raiseOn (k : LinkId) (e : EventKind) (s : State) : State := s.modLink k (Link.raise e)

/-- R206: a shared kind is raised: on each of the four links, UP or DOWN. -/
def State.raise (e : EventKind) (s : State) : State :=
  { s with links := Vector.ofFn fun k : LinkId => s.links[k].raise e }

/-! ### Credits and completions (R191, R195 to R199) -/

/-- R197: a CREDIT is appended when there is something to return and none without fixed values waits. -/
def Link.returnCredit (l : Link) : Link :=
  if (l.unitsReturn = 0 ∧ l.countsReturn = 0) ∨ .creditOpen ∈ l.sendQ then l
  else { l with sendQ := l.sendQ ++ [.creditOpen] }

/-- R191, R197: the head message leaves the receive queue, and its units are returned. The units to return are counted on
above the 512 of R183, the model's choice (notes/assumptions/39.md). -/
def Link.leavePosted (m : Msg) (l : Link) : Link :=
  { l with
    rx := l.rx.tail
    unitsHeld := l.unitsHeld - m.cost
    unitsReturn := l.unitsReturn + m.cost }.returnCredit

/-- R195: a request leaves the wait list. -/
def Link.unkeep (tag : Byte) (l : Link) : Link := { l with wait := l.wait.filter fun m => m.tag? ≠ some tag }

/-- R196, R199: a completion of the request with this tag; `content` is split into parts of 256 bytes. On a link that
is DOWN it is dropped (R186). -/
def Link.complete (tag : Byte) (status : Status) (offset : Word32) (content : List Byte) (l : Link) : Link :=
  if l.up then
    { l.unkeep tag with
      sendQ := l.sendQ ++ [.completion tag status offset (content.take 256) (content.drop 256)] }
  else l

/-- A claimant waits no longer. -/
def State.unwait (w : Claimant) (s : State) : State :=
  s.modStaging fun g => { g with waiting := g.waiting.filter fun x => x ≠ w }

/-- R125: a claimant begins to wait, at the end of the order; one that waits keeps its place. -/
def State.await (w : Claimant) (s : State) : State :=
  s.modStaging fun g => if w ∈ g.waiting then g else { g with waiting := g.waiting ++ [w] }

/-- R195, R196: the request with this tag on link `k` completes. The offset field of its part is 0, that of a READ's
completion without SUCCESS too, to which R199 gives no offset (notes/assumptions/36.md). -/
def State.complete (k : LinkId) (tag : Byte) (status : Status) (payload : List Byte) (s : State) : State :=
  (s.unwait (.request k tag)).modLink k (Link.complete tag status 0 payload)

/-- R199: a READ completes with the bytes of its region. -/
def State.completeRead (k : LinkId) (tag : Byte) (offset : Word32) (content : List Byte) (s : State) : State :=
  (s.unwait (.request k tag)).modLink k (Link.complete tag .success offset content)

/-- R194: the request is kept in its link's wait list; one already there stays where it is. -/
def State.keep (k : LinkId) (m : Msg) (s : State) : State :=
  s.modLink k fun l => if m ∈ l.wait then l else { l with wait := l.wait ++ [m] }

/-- R125, R194: the request is kept, and waits for staging or for the NV controller. -/
def State.keepWaiting (k : LinkId) (tag : Byte) (m : Msg) (s : State) : State :=
  (s.keep k m).await (.request k tag)

/-- R186: the completion of an operation goes to its requester, unless that link has gone down since. -/
def State.completeFor (r : Option Requester) (status : Status) (payload : List Byte) (s : State) : State :=
  match r with
  | some q => if q.live then s.complete q.link q.tag status payload else s
  | none => s

/-- R197: what a message carries when its sending begins. -/
def Link.beginMessage (m : OutMsg) (rest : List OutMsg) (l : Link) : Link :=
  match m with
  | .creditOpen =>
    { l with
      sendQ := rest
      sending := some (.creditFixed l.unitsReturn l.countsReturn)
      unitsReturn := 0
      countsReturn := 0 }
  | _ => { l with sendQ := rest, sending := some m }

/-- R196: an idle link that is UP begins to send the message at the head of its send queue. -/
def Link.beginSend (l : Link) : Link :=
  if l.up && decide (l.sending = none) then
    match l.sendQ with
    | m :: rest => l.beginMessage m rest
    | [] => l
  else l

/-- R196: every idle link begins to send. -/
def State.beginSends (s : State) : State := { s with links := Vector.ofFn fun k : LinkId => s.links[k].beginSend }

/-! ### Moves of Staging and of the NV controller -/

/-- R124: staging becomes OPEN, with its operation owner absent. -/
def State.openStaging (s : State) : State := s.modStaging fun g => { g with state := .openState, owner := none }

/-- R166: the NV controller becomes idle. -/
def State.idleNv (s : State) : State := s.modPreset fun p => { p with nv := none, requester := none, progress := none }

/-- R127, R140: the pending commit is removed and staging becomes OPEN; its COMMIT completes CANCELLED. -/
def State.cancelCommit (s : State) : State :=
  match s.staging.commit with
  | some p =>
    let s := match p.owner with
      | .link k tag => s.complete k tag .cancelled []
      | .part => s
    (s.modStaging fun g => { g with commit := none }).openStaging
  | none => s

/-- R127 to R129: the hold ends, and HOLD_OWNER is raised. -/
def State.endHold (s : State) : State := (s.modStaging fun g => { g with hold := none }).raise .holdOwner

/-- R153: the channels from the one after `c` on, in wrapping order, ending with `c` itself. -/
def chansAfter (c : Chan) : List Chan := (List.finRange 6).map fun i => c + i + 1

/-- R153: a pass over channel `c` begins. -/
def State.beginPass (c : Chan) (s : State) : State :=
  s.modScanner fun n => { n with pass := some { chan := c, view := s.activeRecord c } }

/-- R153: the next pass after one over `c` begins at the next channel that is not FAULT; none when all are. -/
def State.nextPass (c : Chan) (s : State) : State :=
  match (chansAfter c).find? fun x => decide (s.scanner.watch[x].state ≠ .fault) with
  | some x => s.beginPass x
  | none => s.modScanner fun n => { n with pass := none }

/-- R149: the last integrity report, with its INTEGRITY event (R162). -/
def State.report (r : Report) (s : State) : State := (s.modScanner fun n => { n with report := r }).raise .integrity

end Sys2Proof.Machine
end

