-- ==== Sys2Proof/Machine/Slots.lean ====
section
/-! DEFINITION. A channel's three slot records: frame-number order (R2), what a channel holds READY or shows (R88), and
the slot transitions of R68 that Capture, the Barrier and the modes make. -/

namespace Sys2Proof.Machine

/-- R2: `n` is newer than `m`. -/
def newer (n m : Word32) : Bool := decide (n ≠ m) && decide ((n - m).toNat < 2 ^ 31)

/-- R2: `n` is newer than or equal to `m`. -/
def newerEq (n m : Word32) : Bool := decide (n = m) || newer n m

/-- R2: the newest of a list of frame numbers: a later member takes the place of an earlier one only when it is newer. For
numbers that do not lie in one half of the number circle R2's order names no newest; which member the order of the list
then picks is the model's choice (notes/assumptions/33.md). -/
def newestOf : List Word32 → Option Word32
  | [] => none
  | n :: rest =>
    match newestOf rest with
    | some m => some (if newer m n then m else n)
    | none => some n

/-- R2: the oldest of a list of frame numbers: an earlier member gives way to a later one only when it is newer than it.
For numbers that do not lie in one half of the number circle the pick is the model's choice (notes/assumptions/33.md). -/
def oldestOf : List Word32 → Option Word32
  | [] => none
  | n :: rest =>
    match oldestOf rest with
    | some m => some (if newer n m then m else n)
    | none => some n

/-- The frame number of a READY slot. -/
def SlotRec.ready? : SlotRec → Option Word32
  | .ready n _ _ => some n
  | _ => none

/-- R88: the frame number of an unmarked SHOWING slot. -/
def SlotRec.shown? : SlotRec → Option Word32
  | .showing n _ _ false => some n
  | _ => none

/-- The slot is SHOWING. -/
def SlotRec.isShowing : SlotRec → Bool
  | .showing _ _ _ _ => true
  | _ => false

/-- R77: the slot is SHOWING and carries the resync mark. -/
def SlotRec.isMarked : SlotRec → Bool
  | .showing _ _ _ true => true
  | _ => false

/-- The slot is FILLING. -/
def SlotRec.isFilling : SlotRec → Bool
  | .filling _ _ _ _ => true
  | _ => false

/-- Change every slot record of a channel by its index. -/
def Slots.each (f : SlotIx → SlotRec → SlotRec) (v : Slots) : Slots := Vector.ofFn fun i : SlotIx => f i v[i]

/-- The first slot index that a test accepts. -/
def Slots.find (p : SlotRec → Bool) (v : Slots) : Option SlotIx := (List.finRange 3).find? fun i => p v[i]

/-- The frame numbers a channel holds READY. -/
def Slots.readyFrames (v : Slots) : List Word32 := v.toList.filterMap SlotRec.ready?

/-- R88: the channel holds `n` READY. -/
def Slots.holdsReady (v : Slots) (n : Word32) : Bool := decide (n ∈ v.readyFrames)

/-- R88: the channel's shown frame. -/
def Slots.shown (v : Slots) : Option Word32 := v.toList.findSome? SlotRec.shown?

/-- The channel has a SHOWING slot. -/
def Slots.hasShowing (v : Slots) : Bool := v.toList.any SlotRec.isShowing

/-- R90: the channel's SHOWING slot carries the resync mark. -/
def Slots.marked (v : Slots) : Bool := v.toList.any SlotRec.isMarked

/-- The index of the slot that holds `n` READY. -/
def Slots.readyIx (v : Slots) (n : Word32) : Option SlotIx := v.find fun r => decide (r.ready? = some n)

/-- R82, R91: READY `n` becomes SHOWING, the slot that was SHOWING is freed, and READY slots for which `drop` says so
are freed. -/
def Slots.show (drop : Word32 → Bool) (n : Word32) (v : Slots) : Slots :=
  match v.readyIx n with
  | none => v
  | some ix =>
    v.each fun i r =>
      match r with
      | .ready m w h => if i = ix then .showing m w h false else if drop m then .free else r
      | .showing _ _ _ _ => .free
      | _ => r

/-- R91, R94: `n` is shown, and READY slots holding an older frame are freed. -/
def Slots.swapTo (n : Word32) (v : Slots) : Slots := v.show (fun m => newer n m) n

/-- R95: `n` is shown, and every other READY slot is freed. -/
def Slots.runFreeTo (n : Word32) (v : Slots) : Slots := v.show (fun _ => true) n

/-- R109: `n` is adopted: shown, while the other slots stay as they are. -/
def Slots.adopt (n : Word32) (v : Slots) : Slots := v.show (fun _ => false) n

/-- R76, R83: every READY slot is freed. -/
def Slots.freeReady (v : Slots) : Slots :=
  v.each fun _ r => match r with
    | .ready _ _ _ => .free
    | _ => r

/-- R77: the SHOWING slot is marked. -/
def Slots.mark (v : Slots) : Slots :=
  v.each fun _ r => match r with
    | .showing n w h _ => .showing n w h true
    | _ => r

/-- R81: a FILLING slot is freed. -/
def Slots.freeFilling (v : Slots) : Slots :=
  v.each fun _ r => if r.isFilling then .free else r

/-- R82: all slots FREE. -/
def Slots.allFree : Slots := Vector.replicate 3 .free

/-- R75: the newest frame number in a READY slot or in an unmarked SHOWING slot, by slot index where the order of R2 names
none (notes/assumptions/33.md). -/
def Slots.newestHeld (v : Slots) : Option Word32 :=
  newestOf (v.toList.filterMap fun r => r.ready?.orElse fun _ => r.shown?)

/-- R78: the slot that an accepted header claims: the lowest FREE slot, else the READY slot with the oldest frame. -/
def Slots.claimIx (v : Slots) : Option SlotIx :=
  match v.find (fun r => decide (r = .free)) with
  | some i => some i
  | none =>
    match oldestOf v.readyFrames with
    | some n => v.readyIx n
    | none => none

/-- R78: the claimed slot becomes FILLING. -/
def Slots.claim (n : Word32) (w h : Nat) (v : Slots) : Slots :=
  match v.claimIx with
  | some i => v.set i (.filling n w h 0)
  | none => v

end Sys2Proof.Machine
end

