-- ==== Sys2Proof/Machine/Capture.lean ====
section
/-! DEFINITION. Frame capture: the arrivals at the input ports and the signal-loss limit (R67 to R85). -/

namespace Sys2Proof.Machine

/-- R73: the mode is one in which the channel captures. -/
def Mode.captures : Mode → Bool
  | .off => false
  | .standby => false
  | .live => true
  | .hold => true
  | .flat => true
  | .grid => true

/-- Change the slots of channel `c`. -/
def State.modSlots (c : Chan) (f : Slots → Slots) (s : State) : State :=
  s.modCapture c fun cap => { cap with slots := f cap.slots }

/-- R52, R67: `elapsed` units pass on the time count. -/
def State.passTime (elapsed : Nat) (s : State) : State := s.modTimebase fun t => { t with now := t.now + elapsed }

/-- R75, R81: an input reason is recorded, and INPUT raised. -/
def State.inputReason (c : Chan) (r : InputReason) (s : State) : State :=
  (s.modCapture c fun cap => { cap with lastReason := r }).raise .input

/-- R81: a failed fill gives its slot back. -/
def State.failFill (c : Chan) (r : InputReason) (s : State) : State :=
  (s.modSlots c Slots.freeFilling).inputReason c r

/-- R71, R72: an arrival other than signal lost restarts the signal-loss limit, and makes a LOST signal PRESENT. -/
def State.signalSeen (c : Chan) (s : State) : State :=
  let restart := fun cap : Capture =>
    { cap with signal := true, lossLimit := some (s.timebase.now + 2 * s.timebase.period) }
  if s.capture[c].signal then s.modCapture c restart else (s.modCapture c restart).raise .input

/-- R72: the input signal becomes LOST, and a fill in progress fails. -/
def State.signalLoss (c : Chan) (s : State) : State :=
  let s := (s.modCapture c fun cap => { cap with signal := false, lossLimit := none }).raise .input
  if s.capture[c].slots.toList.any SlotRec.isFilling then s.failFill c .lost else s

/-- R75: the header's size is the active record's, and one that a slot can hold (R67). -/
def State.sizeMatches (c : Chan) (w h : Nat) (s : State) : Bool :=
  let r := s.activeRecord c
  decide (w = Rec.wIn r) && decide (h = Rec.hIn r) && decide (64 ≤ w ∧ w ≤ 4096) && decide (64 ≤ h ∧ h ≤ 2160)

/-- R76: a resync. -/
def State.resync (c : Chan) (s : State) : State :=
  (s.modCapture c fun cap =>
    { cap with slots := cap.slots.freeReady.mark, stale := 0 }).inputReason c .resync

/-- R75: the frame number is newer than every frame the channel holds. -/
def Slots.fresh (v : Slots) (n : Word32) : Bool :=
  match v.newestHeld with
  | some m => newer n m
  | none => true

/-- R75, R76: a header judged, with no slot FILLING. -/
def State.judgeHeader (c : Chan) (n : Word32) (channelId w h : Nat) (s : State) : State :=
  if channelId ≠ c.val then s.inputReason c .misroute
  else if !s.sizeMatches c w h then s.inputReason c .size
  else if 4 ≤ s.capture[c].stale then (s.resync c).modSlots c (Slots.claim n w h)
  else if s.capture[c].slots.fresh n then
    s.modCapture c fun cap => { cap with stale := 0, slots := cap.slots.claim n w h }
  else (s.modCapture c fun cap => { cap with stale := cap.stale + 1 }).inputReason c .stale

/-- R74: a header that arrives during a fill ends it with SHORT, then is judged. -/
def State.takeHeader (c : Chan) (n : Word32) (channelId w h : Nat) (s : State) : State :=
  let s := if s.capture[c].slots.toList.any SlotRec.isFilling then s.failFill c .short else s
  s.judgeHeader c n channelId w h

/-- R69: the bytes of a line's pixels. -/
def lineBytes (pixels : List Pixel) : List Byte := pixels.flatMap fun p => leBytes 4 (pixelWord p)

/-- R79: a line judged against the slot that is FILLING, and written to it. -/
def State.takeLine (c : Chan) (pixels : List Pixel) (s : State) : State :=
  match s.capture[c].slots.find SlotRec.isFilling with
  | none => s
  | some i =>
    match s.capture[c].slots[i] with
    | .filling n w h lines =>
      if h ≤ lines then s.failFill c .long
      else if pixels.length ≠ w then s.failFill c .badLine
      else
        { s with frameMem := Cells.write zeroByte s.frameMem (pixelAddress c i 0 lines) (lineBytes pixels) }.modSlots c
          fun v => v.set i (.filling n w h (lines + 1))
    | _ => s

/-- R80: an end of frame. -/
def State.takeEnd (c : Chan) (s : State) : State :=
  match s.capture[c].slots.find SlotRec.isFilling with
  | none => s
  | some i =>
    match s.capture[c].slots[i] with
    | .filling n w h lines =>
      if lines < h then s.failFill c .short
      else if s.sizeMatches c w h then s.modSlots c fun v => v.set i (.ready n w h)
      else s.failFill c .size
    | _ => s

/-- R71, R73: an arrival other than signal lost at input port `c`: no arrival is taken until the Timebase has started;
the signal is tracked in every mode; `act` is taken in the capturing modes. -/
def State.arrival (c : Chan) (elapsed : Nat) (act : State → State) (s : State) : State :=
  if s.timebase.running then
    let s := (s.passTime elapsed).signalSeen c
    if s.pipes[c].mode.captures then act s else s
  else s

/-- FRAME_HEADER (R73 to R78). -/
def execFrameHeader (c : Chan) (elapsed : Nat) (frame : Word32) (channelId width height : Nat) (s : State) :
    Host.Outcome State Fault Refusal :=
  .next (s.arrival c elapsed fun s => s.takeHeader c frame channelId width height).beginSends

/-- LINE (R73, R79). -/
def execLine (c : Chan) (elapsed : Nat) (pixels : List Pixel) (s : State) : Host.Outcome State Fault Refusal :=
  .next (s.arrival c elapsed fun s => s.takeLine c pixels).beginSends

/-- END_OF_FRAME (R73, R80). -/
def execEndOfFrame (c : Chan) (elapsed : Nat) (s : State) : Host.Outcome State Fault Refusal :=
  .next (s.arrival c elapsed fun s => s.takeEnd c).beginSends

/-- SIGNAL_PRESENT (R71). -/
def execSignalPresent (c : Chan) (elapsed : Nat) (s : State) : Host.Outcome State Fault Refusal :=
  .next (s.arrival c elapsed id).beginSends

/-- SIGNAL_LOST (R72): no effect while the signal is LOST. -/
def execSignalLost (c : Chan) (elapsed : Nat) (s : State) : Host.Outcome State Fault Refusal :=
  if s.timebase.running then
    let s := s.passTime elapsed
    .next (if s.capture[c].signal then s.signalLoss c else s).beginSends
  else .next s.beginSends

/-- SIGNAL_LOSS_LIMIT (R72): the limit expires at its time; it does nothing while none runs. -/
def execSignalLossLimit (c : Chan) (s : State) : Host.Outcome State Fault Refusal :=
  match s.capture[c].lossLimit with
  | some t =>
    .next ((s.modTimebase fun b => { b with now := max b.now t }).signalLoss c).beginSends
  | none => .next s.beginSends

end Sys2Proof.Machine
end

