-- ==== Sys2Proof/Machine/Barrier.lean ====
section
/-! DEFINITION. The swap barrier: the decision at a tick, stage by stage (R86 to R101), and BARRIER_LIMIT (R99). -/

namespace Sys2Proof.Machine

/-- The channel's mode is LIVE. -/
def State.isLive (s : State) (c : Chan) : Bool := decide (s.pipes[c].mode = .live)

/-- The channel is JOINED. -/
def State.isJoined (s : State) (c : Chan) : Bool := decide (s.barrier.members[c].membership = .joined)

/-- The channel is EXCLUDED. -/
def State.isExcluded (s : State) (c : Chan) : Bool := decide (s.barrier.members[c].membership = .excluded)

/-- The channel is a readmission candidate. -/
def State.isCandidate (s : State) (c : Chan) : Bool := s.barrier.members[c].candidate

/-- The channels that a test accepts, in increasing order. -/
def chansWhere (p : Chan → Bool) : List Chan := (List.finRange 6).filter p

/-- Do something for each of some channels, in order. -/
def eachChan (f : Chan → State → State) (cs : List Chan) (s : State) : State := cs.foldl (fun s c => f c s) s

/-- The slots of channel `c`. -/
def State.slots (s : State) (c : Chan) : Slots := s.capture[c].slots

/-- R88: a frame number is newer than B; any is when B is absent. -/
def newerThanB (b : Option Word32) (n : Word32) : Bool :=
  match b with
  | some m => newer n m
  | none => true

/-- R88: the common frame N* of a set of channels. -/
def State.commonFrame (s : State) : List Chan → Option Word32
  | [] => none
  | c :: rest =>
    newestOf ((s.slots c).readyFrames.filter fun n =>
      newerThanB s.barrier.frame n && rest.all fun x => (s.slots x).holdsReady n)

/-- R88: the lead number of a set of channels; where the order of R2 names no newest, the pick by channel and slot is the
model's choice (notes/assumptions/33.md). -/
def State.leadNumber (s : State) (cs : List Chan) : Option Word32 :=
  newestOf (cs.flatMap fun c => (s.slots c).readyFrames.filter (newerThanB s.barrier.frame))

/-- R102: what the Barrier holds of channel `c` becomes `m`, and MEMBERSHIP is raised. -/
def State.setMembership (c : Chan) (m : Member) (s : State) : State := (s.modMember c fun _ => m).raise .membership

/-- R89: channel `c` enters or leaves LIVE at this tick; `old` is its mode before the tick. -/
def State.enterExit (old : Vector Mode 6) (c : Chan) (s : State) : State :=
  if s.isLive c then
    if old[c] = .live then s else s.setMembership c { membership := .excluded, candidate := false, late := some 0 }
  else if old[c] = .live then s.setMembership c { membership := .none, candidate := false, late := none }
  else s

/-- R90, R99: the pending late limit is applied, and its request completes. -/
def State.applyLimit (s : State) : State :=
  match s.barrier.pendingLimit with
  | none => s
  | some v =>
    let req := s.barrier.pendingReq
    let s := s.modBarrier fun b => { b with limit := v, pendingLimit := none, pendingReq := none }
    match req with
    | some (k, tag) => s.complete k tag .success []
    | none => s

/-- R90, R92: channel `c` is excluded; it keeps its late count. -/
def State.exclude (c : Chan) (s : State) : State :=
  s.setMembership c { s.barrier.members[c] with membership := .excluded, candidate := false }

/-- R90: the late limit is in force and the count reaches it. -/
def limitReached (limit : Nat) (count : Option Nat) : Bool := decide (limit ≠ 0) && decide (limit ≤ count.getD 0)

/-- R90: a JOINED channel is excluded at the opening for a resync mark or for its late count. -/
def State.openingTest (c : Chan) (s : State) : State :=
  if s.isJoined c && ((s.slots c).marked || limitReached s.barrier.limit s.barrier.members[c].late) then s.exclude c
  else s

/-- R91: every channel of a set swaps to `n`, and its late count becomes 0. -/
def State.swapSet (n : Word32) (cs : List Chan) (s : State) : State :=
  (eachChan (fun c s => (s.modSlots c (Slots.swapTo n)).modMember c fun m => { m with late := some 0 }) cs s).modBarrier
    fun b => { b with frame := some n }

/-- R92: a late count that rises by 1 and stops at 255. -/
def bumpLate (count : Option Nat) : Option Nat := some (min 255 (count.getD 0 + 1))

/-- R92, R93: lateness of one member of a set against its lead number; `out` is done when its count reaches the limit. -/
def State.countLate (lead : Word32) (out : Chan → State → State) (c : Chan) (s : State) : State :=
  if (s.slots c).holdsReady lead then s
  else
    let s := s.modMember c fun m => { m with late := bumpLate m.late }
    if limitReached s.barrier.limit s.barrier.members[c].late then out c s else s

/-- R92, R93: lateness counted over a set; nothing changes when it has no lead number. -/
def State.countLateness (out : Chan → State → State) (cs : List Chan) (s : State) : State :=
  match s.leadNumber cs with
  | some lead => eachChan (State.countLate lead out) cs s
  | none => s

/-- R93: a candidate loses its candidacy. -/
def State.loseCandidacy (c : Chan) (s : State) : State := s.modMember c fun m => { m with candidate := false }

/-- R93, R94: channel `c` becomes JOINED with late count 0. -/
def State.join (c : Chan) (s : State) : State :=
  s.setMembership c { membership := .joined, candidate := false, late := some 0 }

/-- R91, R92: the joined set swaps, or lateness is counted; the answer is the frame it swapped to. -/
def State.joinedStage (cs : List Chan) (s : State) : State × Option Word32 :=
  match s.commonFrame cs with
  | some n => (s.swapSet n cs, some n)
  | none => (s.countLateness State.exclude cs, none)

/-- R93: the readmission round. -/
def State.readmissionRound (cs : List Chan) (s : State) : State × Option Word32 :=
  match s.commonFrame cs with
  | some n => (eachChan State.join cs (s.swapSet n cs), some n)
  | none => (s.countLateness State.loseCandidacy cs, none)

/-- R95: channel `c` runs free to its newest READY frame, when that is newer than its shown frame. -/
def State.runFree (c : Chan) (s : State) : State :=
  match newestOf (s.slots c).readyFrames with
  | none => s
  | some n =>
    match (s.slots c).shown with
    | some m => if newer n m then s.modSlots c (Slots.runFreeTo n) else s
    | none => s.modSlots c (Slots.runFreeTo n)

/-- R94, R95: an EXCLUDED channel that this decision did not exclude rejoins or runs free. `anyJoined`: at least one
channel is JOINED; `swapped`: the frame that the joined set swapped to at this decision. -/
def State.excludedStage (anyJoined : Bool) (swapped : Option Word32) (skip : List Chan) (c : Chan) (s : State) : State :=
  if s.isExcluded c && decide (c ∉ skip) then
    match anyJoined, s.barrier.frame with
    | true, some b =>
      if (s.slots c).holdsReady b then (s.modSlots c (Slots.swapTo b)).join c
      else if swapped = some b ∧ (s.slots c).shown = some b then s.join c
      else s.runFree c
    | _, _ => s.runFree c
  else s

/-- R96: with no JOINED channel and no candidate, every EXCLUDED channel becomes a candidate with late count 0. -/
def State.emptySet (s : State) : State :=
  if (List.finRange 6).any (fun c => s.isJoined c || s.isCandidate c) then s
  else
    eachChan (fun c s => s.modMember c fun m => { m with candidate := true, late := some 0 })
      (chansWhere s.isExcluded) s

/-- R91, R93: the second stage: the joined swap, or with no JOINED channel the readmission round. -/
def State.swapStage (s : State) : State × Option Word32 :=
  let joined := chansWhere s.isJoined
  if joined = [] then
    let candidates := chansWhere s.isCandidate
    if candidates = [] then (s, none) else s.readmissionRound candidates
  else s.joinedStage joined

/-- R89 to R96: the stages of a decision with at least one LIVE channel, after the mode changes. -/
def State.decideLive (s : State) : State × Option Word32 :=
  let before := chansWhere s.isJoined
  let s := eachChan State.openingTest before s.applyLimit
  let (s, swapped) := s.swapStage
  let skip := before.filter s.isExcluded
  let anyJoined := (List.finRange 6).any s.isJoined
  let s := eachChan (State.excludedStage anyJoined swapped skip) (List.finRange 6) s
  (s.emptySet, swapped)

/-- R89: the barrier decision of a tick; `old` holds the modes before the tick. The answer is the frame that the joined
set swapped to (R97). -/
def State.barrierDecision (old : Vector Mode 6) (s : State) : State × Option Word32 :=
  let s := eachChan (State.enterExit old) (List.finRange 6) s
  if (List.finRange 6).any s.isLive then s.decideLive
  else (s.applyLimit.modBarrier fun b => { b with frame := none }, none)

/-- R99: BARRIER_LIMIT taken. -/
def takeBarrierLimit (k : LinkId) (tag : Byte) (ps : List Byte) (s : State) : State :=
  match ps with
  | [] => s.complete k tag .invalid []
  | v :: _ =>
    let s := match s.barrier.pendingReq with
      | some (k', tag') => s.complete k' tag' .superseded []
      | none => s
    (s.modBarrier fun b => { b with pendingLimit := some v.toNat, pendingReq := some (k, tag) }).keep k
      (.command tag 0x09 ps)

end Sys2Proof.Machine
end

