-- ==== Sys2Proof/Machine/Modes.lean ====
section
/-! DEFINITION. Channel modes and output frames: CHANNEL_MODE (R112, R113), the application of pending modes (R114),
adoption (R109) and the framing of the output (R115 to R118). -/

namespace Sys2Proof.Machine

/-- R113: a pending request is withdrawn: it completes SUPERSEDED, and each of its channels loses its pending mode. -/
def State.withdrawMode (r : ModeReq) (s : State) : State :=
  let s := s.complete r.link r.tag .superseded []
  { s with
    pipes := Vector.ofFn fun c : Chan =>
      if s.pipes[c].pendingReq = some r then { s.pipes[c] with pendingMode := none, pendingReq := none }
      else s.pipes[c] }

/-- R113: the pending request of channel `c` is withdrawn when its set shares a channel with `set`. -/
def State.withdrawOverlap (set : ChanSet) (c : Chan) (s : State) : State :=
  match s.pipes[c].pendingReq with
  | some r => if r.set &&& set = 0 then s else s.withdrawMode r
  | none => s

/-- R112, R113: CHANNEL_MODE taken. Requests that it withdraws complete in the order of their lowest channels, an order
that the rules leave open (notes/assumptions/35.md). -/
def takeChannelMode (k : LinkId) (tag : Byte) (ps : List Byte) (s : State) : State :=
  match channelModeParams ps with
  | none => s.complete k tag .invalid []
  | some (set, mode) =>
    let s := eachChan (State.withdrawOverlap set) (List.finRange 6) s
    let s := eachChan
      (fun c s => s.modPipe c fun p => { p with pendingMode := some mode, pendingReq := some ⟨k, tag, set⟩ })
      set.chans s
    s.keep k (.command tag 0x08 ps)

/-- R114: the pending requests, each once, by their lowest channel: the order in which they complete at a tick, which the
rules leave open (notes/assumptions/35.md). -/
def State.modeRequests (s : State) : List ModeReq :=
  (List.finRange 6).foldl
    (fun acc c => match s.pipes[c].pendingReq with
      | some r => if r ∈ acc then acc else acc ++ [r]
      | none => acc) []

/-- R82: the slots and stale-refusal count of a channel that enters OFF or STANDBY. -/
def Capture.stop (cap : Capture) : Capture := { cap with slots := Slots.allFree, stale := 0 }

/-- R114: a pipeline takes its pending mode at a tick. -/
def Pipe.applyMode (count : Word32) (p : Pipe) : Pipe :=
  match p.pendingMode with
  | some m => { p with mode := m, modeTick := some count, pendingMode := none, pendingReq := none }
  | none => p

/-- R114: pending modes are applied, Capture stops on the channels that enter OFF or STANDBY (R82), and the requests
complete with the tick count. -/
def State.applyModes (count : Word32) (s : State) : State :=
  let reqs := s.modeRequests
  let old := s.pipes
  let s := { s with pipes := Vector.ofFn fun c : Chan => s.pipes[c].applyMode count }
  let s := { s with
    capture := Vector.ofFn fun c : Chan =>
      if s.pipes[c].mode ≠ old[c].mode ∧ s.pipes[c].mode.captures = false then s.capture[c].stop else s.capture[c] }
  reqs.foldl (fun s r => s.complete r.link r.tag .success (word32Bytes count)) s

/-- The mode is HOLD, FLAT or GRID. -/
def Mode.frozen : Mode → Bool
  | .off => false
  | .standby => false
  | .live => false
  | .hold => true
  | .flat => true
  | .grid => true

/-- R109: a HOLD, FLAT or GRID channel with no SHOWING slot adopts its newest READY frame. -/
def State.adoption (c : Chan) (s : State) : State :=
  if s.pipes[c].mode.frozen && !(s.slots c).hasShowing then
    match newestOf (s.slots c).readyFrames with
    | some n => s.modSlots c (Slots.adopt n)
    | none => s
  else s

/-- R27, R36: the source frame that the slots of a channel show. -/
def Slots.source (v : Slots) : Option SourceFrame :=
  match v.find SlotRec.isShowing with
  | some i =>
    match v[i] with
    | .showing _ w h _ => some { slot := i, width := w, height := h }
    | _ => none
  | none => none

/-- R117: what was sent of a frame that a tick ends at time `now`. -/
def OutFrame.ended (f : OutFrame) (now : Nat) : FrameEnd :=
  let d := now - f.start
  if f.height * f.rowTime ≤ d then
    { length := d, rowsWhole := f.height, cut := 0, blanking := d - f.height * f.rowTime }
  else { length := d, rowsWhole := d / f.rowTime, cut := d % f.rowTime, blanking := 0 }

/-- R115: T_row of a frame of height `h` at a rate. -/
def rowTime (rate h : Nat) : Nat := Config.nominalPeriod rate / (h + 40)

/-- R115, R116: the output frame that channel `c` starts at this tick; none when it is OFF. -/
def State.newFrame (s : State) (c : Chan) : Option OutFrame :=
  if s.pipes[c].mode = .off then none
  else
    let r := s.activeRecord c
    some
      { start := s.timebase.now
        mode := s.pipes[c].mode
        bank := s.activeBank c
        source := (s.slots c).source
        width := Rec.clampedNat r 4
        height := Rec.clampedNat r 6
        rowTime := rowTime s.timebase.rate (Rec.clampedNat r 6) }

/-- R117, R118: the tick ends each channel's output frame and starts the next, unless the channel is OFF. -/
def State.frameStarts (s : State) : State :=
  { s with
    pipes := Vector.ofFn fun c : Chan =>
      { s.pipes[c] with
        frame := s.newFrame c
        lastEnd := s.pipes[c].frame.map fun f => f.ended s.timebase.now } }

/-- R28, R29: the codes of pixel (x, y) of the output frame in progress on port `c`; none when the port is idle or the
pixel lies outside the raster. -/
def State.portPixel (s : State) (c : Chan) (x y : Nat) : Option Codes :=
  match s.pipes[c].frame with
  | some f =>
    if x < f.width ∧ y < f.height then some (outputPixel s.frameMem (s.record f.bank c) c f.mode f.source x y) else none
  | none => none

/-- R28, R115: the codes of row `y` of the output frame in progress on port `c`, in the order in which they leave it: from
column 0 to column W_out − 1; none when the port is idle or the raster has no such row. -/
def State.portRowCodes (s : State) (c : Chan) (y : Nat) : Option (List Codes) :=
  match s.pipes[c].frame with
  | some f =>
    if y < f.height then
      some ((List.range f.width).map fun x => outputPixel s.frameMem (s.record f.bank c) c f.mode f.source x y)
    else none
  | none => none

/-- R28: all rows of the output frame in progress on port `c`, in the order in which they leave it: from row 0 to row
H_out − 1; none when the port is idle. -/
def State.portFrameCodes (s : State) (c : Chan) : Option (List (List Codes)) :=
  s.pipes[c].frame.map fun f => (List.range f.height).filterMap fun y => s.portRowCodes c y

/-- R115: the row that port `c` is sending at the present time; none in blanking or when the port is idle. -/
def State.portRow (s : State) (c : Chan) : Option Nat :=
  match s.pipes[c].frame with
  | some f =>
    let y := (s.timebase.now - f.start) / f.rowTime
    if y < f.height then some y else none
  | none => none

/-- R115: what port `c` is sending at the present time: the codes of its row, in order of increasing column; none in
blanking or when the port is idle. -/
def State.portSends (s : State) (c : Chan) : Option (List Codes) := (s.portRow c).bind fun y => s.portRowCodes c y

end Sys2Proof.Machine
end

