-- ==== Sys2Proof/Machine/Status.lean ====
section
/-! DEFINITION. The content of the regions as a READ takes it: STATUS (R211), DIRECTORY (R212), SETUP (R178, R179), and
the records and headers of calibration memory (R122, R133). -/

namespace Sys2Proof.Machine

/-- Bytes placed at offsets of a region whose other bytes read 0 (R211). -/
def layBytes (size : Nat) (items : List (Nat × List Byte)) : List Byte :=
  Cells.bytes zeroByte (items.foldl (fun m p => Cells.write zeroByte m p.1 p.2) []) 0 size

/-- R211: a 1-byte item that may be absent reads FFh when absent. -/
def orFF (b : Option Byte) : Byte := b.getD 0xFF

/-- R211: an item with a presence byte reads 0 when absent. -/
def orZero (n : Nat) (v : Option Nat) : List Byte := leBytes n (v.getD 0)

/-- R211: a presence byte. -/
def present {α : Type} (x : Option α) : Byte := if x.isSome then 1 else 0

/-- A small number as a byte. -/
def nat8 (n : Nat) : Byte := BitVec.ofNat 8 n

/-- R211: an enumeration of two values whose STATUS table lists the true one first. -/
def firstIfTrue (b : Bool) : Byte := if b then 0 else 1

/-- R211: a list of channels in six bytes, FFh fill. -/
def chanList (cs : List Chan) : List Byte := (cs.map (fun c : Chan => nat8 c.val) ++ List.replicate 6 0xFF).take 6

/-- R66, R211: the Timebase items. -/
def timebaseItems (t : Timebase) : List (Nat × List Byte) :=
  [(0, [t.state.code, t.source.code, nat8 t.rate, nat8 t.good] ++ leBytes 4 t.period ++ word32Bytes t.tickCount
      ++ [nat8 t.holdoverTicks, present t.lastInterval]),
   (16, orZero 4 t.lastInterval)]

/-- R103, R211: the Barrier items. -/
def barrierItems (b : Barrier) : List (Nat × List Byte) :=
  [(32, [present b.frame, nat8 b.limit, present b.pendingLimit] ++ orZero 1 b.pendingLimit
      ++ orZero 4 (b.frame.map BitVec.toNat))]

/-- R211: the owner of a pending commit. -/
def CommitOwner.code : CommitOwner → Byte
  | .link k _ => nat8 k.val
  | .part => 4

/-- R211: the tag of a pending commit, when its owner is a link. -/
def CommitOwner.tag? : CommitOwner → Option Byte
  | .link _ tag => some tag
  | .part => none

/-- R134, R211: the activation kind. -/
def Activation.code : Activation → Byte
  | .nextTick => 0
  | .atFrame _ => 1

/-- R134: N, for AT_FRAME. -/
def Activation.frame? : Activation → Option Word32
  | .nextTick => none
  | .atFrame n => some n

/-- R148, R211: the Staging items. -/
def stagingItems (g : Staging) : List (Nat × List Byte) :=
  let tag := g.commit.bind fun p => p.owner.tag?
  let n := g.commit.bind fun p => p.kind.frame?
  [(48, [g.state.code, orFF (g.owner.map OpOwner.code), orFF (g.hold.map fun k => nat8 k.val), present g.commit,
      (g.commit.map fun p => p.owner.code).getD 0, tag.getD 0, (g.commit.map fun p => p.set.setWidth 8).getD 0,
      (g.commit.map fun p => p.kind.code).getD 0] ++ orZero 4 (n.map BitVec.toNat) ++ chanList g.copyList
      ++ [(List.finRange 6).foldl (fun acc c => acc ||| (nat8 g.sel[c].val <<< c.val)) 0, nat8 g.setSel.val]
      ++ word32Bytes g.gen ++ [present tag])]

/-- R162, R211: the Scanner items. -/
def scannerItems (n : Scanner) : List (Nat × List Byte) :=
  [(96, [firstIfTrue n.lock, orFF (n.pass.map fun p => nat8 p.chan.val)] ++ chanList n.queue
      ++ [orFF (n.repair.map fun r => nat8 r.chan.val), orFF (n.repair.map fun r => nat8 r.slot.val),
          orFF (n.repair.map fun r => r.phase.code), n.report.code, orFF (n.report.chan.map fun c => nat8 c.val)])]

/-- R182: the channel of a CORRUPT boot outcome. -/
def BootOutcome.chan? : BootOutcome → Option Chan
  | .corrupt c => some c
  | _ => Option.none

/-- R182, R211: the Preset store items. -/
def presetItems (p : Preset) : List (Nat × List Byte) :=
  [(128, [orFF (p.nv.map NvOp.code), orFF ((p.nv.bind NvOp.slot).map fun s => nat8 s.val),
      orFF ((p.nv.bind NvOp.loadOwner).map OpOwner.code), orFF (p.requester.map fun r => nat8 r.link.val),
      orFF (p.requester.map fun r => r.tag), orFF (p.progress.map fun g => nat8 g.landing.val),
      orFF (p.progress.map fun g => nat8 g.sound.length), orFF (p.setupOutcome.map SetupOutcome.code),
      orFF (p.bootOutcome.map BootOutcome.code),
      orFF ((p.bootOutcome.bind BootOutcome.chan?).map fun c => nat8 c.val)])]

/-- R85, R211: a slot record in 12 bytes. What R85 does not report in a state (frame number, width and height of a FREE
slot, lines received of a slot that is not FILLING) reads 0, the model's choice (notes/assumptions/38.md). -/
def SlotRec.status : SlotRec → List Byte
  | .free => List.replicate 12 0
  | .filling n w h lines => [1, 0] ++ leBytes 2 lines ++ word32Bytes n ++ leBytes 2 w ++ leBytes 2 h
  | .ready n w h => [2, 0] ++ leBytes 2 0 ++ word32Bytes n ++ leBytes 2 w ++ leBytes 2 h
  | .showing n w h marked =>
    [3, if marked then 1 else 0] ++ leBytes 2 0 ++ word32Bytes n ++ leBytes 2 w ++ leBytes 2 h

/-- R211: the channel entry of channel `c`. An absent reference, beside which the layout names no presence byte, reads 0,
the model's choice (notes/assumptions/38.md). -/
def channelItems (s : State) (c : Chan) : List (Nat × List Byte) :=
  let p := s.pipes[c]
  let m := s.barrier.members[c]
  let cap := s.capture[c]
  let w := s.scanner.watch[c]
  [(256 + 64 * c.val,
    [p.mode.code, orFF (p.pendingMode.map Mode.code), orFF (p.pendingReq.map fun r => nat8 r.link.val),
     orFF (p.pendingReq.map fun r => r.tag), present p.modeTick, m.membership.code, firstIfTrue m.candidate]
    ++ orZero 1 m.late ++ orZero 4 (p.modeTick.map BitVec.toNat)
    ++ [firstIfTrue cap.signal, nat8 cap.stale, cap.lastReason.code, w.state.code]
    ++ orZero 4 (w.reference.map BitVec.toNat)
    ++ [orFF (w.source.map RepairSource.code), present m.late, 0, 0]
    ++ word32Bytes w.checks
    ++ cap.slots[0].status ++ cap.slots[1].status ++ cap.slots[2].status)]

/-- R203, R211: the link entry of link `k`. -/
def linkItems (s : State) (k : LinkId) : List (Nat × List Byte) :=
  let l := s.links[k]
  [(640 + 32 * k.val,
    [if l.up then 1 else 0, l.roles.setWidth 8] ++ leBytes 2 l.share ++ leBytes 2 l.unitsHeld
    ++ leBytes 2 (l.share - l.unitsHeld) ++ [nat8 l.outstanding.length, nat8 l.noticeCredit,
      orFF (l.lastRefusal.map fun r => r.1.code), orFF (l.lastRefusal.map fun r => r.2),
      orFF (l.lastFault.map fun r => r.1.code), orFF (l.lastFault.map fun r => r.2)]
    ++ leBytes 2 l.pending.toNat ++ leBytes 2 l.enabled.toNat ++ leBytes 2 l.notified.toNat)]

/-- R211: the 1024 bytes of STATUS. -/
def statusBytes (s : State) : List Byte :=
  layBytes Config.statusSize
    (timebaseItems s.timebase ++ barrierItems s.barrier ++ stagingItems s.staging ++ scannerItems s.scanner
      ++ presetItems s.preset ++ (List.finRange 6).flatMap (channelItems s) ++ (List.finRange 4).flatMap (linkItems s))

/-- R212: the entry of one slot record, 64 bytes. -/
def SlotDir.bytes (d : SlotDir) : List Byte :=
  match d.info with
  | some i =>
    [d.state.code, 0, 0, 0] ++ word32Bytes i.gen ++ i.name ++ i.crcs.toList.flatMap word32Bytes ++ List.replicate 16 0
  | none => d.state.code :: List.replicate 63 0

/-- R212: the 512 bytes of DIRECTORY. -/
def directoryBytes (p : Preset) : List Byte := p.directory.toList.flatMap SlotDir.bytes

/-- R178: the first 28 bytes of a setup copy. -/
def setupFields (m : Cells) : List Byte := Cells.bytes zeroByte m 0 28

/-- R178: the 32 bytes of a setup record: the field bytes and their CRC-32. -/
def setupRecordBytes (m : Cells) : List Byte := setupFields m ++ word32Bytes (crc32 (setupFields m))

/-- R189: a region's bytes as they stand. -/
def regionBytes (s : State) : Region → List Byte
  | .stagingRecord c => Rec.bytes (s.stagingRecord c)
  | .activeRecord c => Rec.bytes (s.activeRecord c)
  | .stagingHeader => Cells.bytes zeroByte s.stagingHeader 0 Config.headerSize
  | .activeHeader => Cells.bytes zeroByte s.activeHeader 0 Config.headerSize
  | .setup => setupRecordBytes s.preset.setup
  | .status => statusBytes s
  | .directory => directoryBytes s.preset

/-- R199: the bytes that a READ of a region returns: from its offset, for its length. -/
def readContent (s : State) (region : Region) (offset length : Nat) : List Byte :=
  ((regionBytes s region).drop offset).take length

end Sys2Proof.Machine
end

