-- ==== Sys2Proof/Machine/Staging.lean ====
section
/-! DEFINITION. Staging: the hold (R126 to R128), writes and reads of staging (R130 to R133), COMMIT and its checks
(R134 to R140), and the end of a copy of copy-back (R146). The activation is in Machine/Activation.lean. -/

namespace Sys2Proof.Machine

/-! ### The hold -/

/-- R126: HOLD_ACQUIRE taken, by the first case that applies. -/
def takeHoldAcquire (k : LinkId) (tag : Byte) (s : State) : State :=
  if s.staging.hold = some k then s.complete k tag .success []
  else if s.scanner.lock then s.complete k tag .locked []
  else if s.staging.hold.isSome then s.complete k tag .held []
  else if !s.isOpen then s.complete k tag .busy []
  else ((s.modStaging fun g => { g with hold := some k }).raise .holdOwner).complete k tag .success []

/-- R127: HOLD_RELEASE taken. -/
def takeHoldRelease (k : LinkId) (tag : Byte) (s : State) : State :=
  if s.staging.hold = some k then
    (if s.staging.state = .commitPending then s.cancelCommit else s).endHold.complete k tag .success []
  else s.complete k tag .notHolder []

/-- R128: HOLD_BREAK taken. -/
def takeHoldBreak (k : LinkId) (tag : Byte) (s : State) : State :=
  if s.staging.hold.isSome then
    (if s.staging.state = .commitPending then s.cancelCommit else s).endHold.complete k tag .success []
  else s.complete k tag .success []

/-! ### Writes and reads of staging -/

/-- What the owner of a writable region answers for a WRITE at the head of the queue (R193). -/
inductive WriteVerdict where
  | applied (s : State)
  | refused (status : Status)
  | stalled

/-- R14, R132: a WRITE applied to the staging record of channel `c`. -/
def State.writeRecord (c : Chan) (offset : Nat) (payload : List Byte) (s : State) : State :=
  if payload = [] then s
  else
    s.setStagingRecord c
      (Rec.setOrigin (applyWrite recordField defaultByte (s.stagingRecord c) offset payload) originEdited 0)

/-- R132: a WRITE applied to the staging set header. -/
def State.writeHeader (offset : Nat) (payload : List Byte) (s : State) : State :=
  s.setStagingHeader (applyWrite setHeaderField zeroByte s.stagingHeader offset payload)

/-- R130, cases 3 to 7: a WRITE to staging judged against the lock, the hold and the staging state. -/
def judgeStagingWrite (k : LinkId) (act : State → State) (s : State) : WriteVerdict :=
  if s.scanner.lock then .refused .locked
  else
    match s.staging.hold with
    | none => .refused .notHolder
    | some h => if h ≠ k then .refused .held else if s.isOpen then .applied (act s) else .stalled

/-- R133: a READ of a staging region: taken at once, or kept until staging is OPEN or COMMIT_PENDING. -/
def takeStagingRead (k : LinkId) (tag : Byte) (m : Msg) (region : Region) (offset : Word32) (length : Nat) (s : State) :
    State :=
  if s.staging.state = .openState ∨ s.staging.state = .commitPending then
    s.completeRead k tag offset (readContent s region offset.toNat length)
  else s.keepWaiting k tag m

/-! ### COMMIT -/

/-- R136: the staging records of a set of channels, in increasing order. -/
def State.stagingSet (s : State) (set : ChanSet) : List (Chan × Cells) := set.chans.map fun c => (c, s.stagingRecord c)

/-- R139: the commit is pending. -/
def State.acceptCommit (k : LinkId) (tag : Byte) (set : ChanSet) (kind : Activation) (m : Msg) (s : State) : State :=
  ((s.modStaging fun g =>
      { g with
        state := .commitPending
        owner := some (.link k)
        commit := some { owner := .link k tag, set := set, kind := kind } }).unwait (.request k tag)).keep k m

/-- R136 to R139: the checks of a COMMIT from the holder, with staging OPEN and no store in flight. -/
def State.checkCommit (k : LinkId) (tag : Byte) (set : ChanSet) (kind : Activation) (expected : Word32) (m : Msg)
    (s : State) : State :=
  let rs := s.stagingSet set
  if commitCrc rs ≠ expected then s.complete k tag .checkMismatch (word32Bytes (commitCrc rs))
  else
    match checkRecords rs with
    | some f => s.complete k tag .validationFailed f.payload
    | none => s.acceptCommit k tag set kind m

/-- R134, R135: COMMIT taken. -/
def takeCommit (k : LinkId) (tag : Byte) (ps : List Byte) (s : State) : State :=
  match commitParams ps with
  | none => s.complete k tag .invalid []
  | some (set, kind, expected) =>
    match s.staging.hold with
    | none => s.complete k tag .notHolder []
    | some h =>
      if h ≠ k then s.complete k tag .held []
      else if !s.isOpen then s.keepWaiting k tag (.command tag 0x04 ps)
      else if s.storeInFlight then s.complete k tag .busy []
      else s.checkCommit k tag set kind expected (.command tag 0x04 ps)

/-- R140: COMMIT_CANCEL taken. -/
def takeCommitCancel (k : LinkId) (tag : Byte) (s : State) : State :=
  if s.staging.hold = some k then
    (if s.staging.state = .commitPending then s.cancelCommit else s).complete k tag .success []
  else s.complete k tag .notHolder []

/-! ### Copies -/

/-- R13, R14: channel `c`'s staging record becomes a copy of its active record, with origin ACTIVE_COPY. -/
def State.copyActive (c : Chan) (s : State) : State :=
  s.setStagingRecord c (Rec.setOrigin (s.activeRecord c) originActiveCopy 0)

/-- R24: the staging set header takes the set name of the active one. -/
def State.copyActiveName (s : State) : State :=
  s.setStagingHeader (Header.setName s.stagingHeader (Header.name s.activeHeader))

/-- R160: the copy-back of a repair has ended: the channel becomes REFERENCE_PENDING with report REPAIRED, and a pass
begins at it when none is in progress (R153). -/
def State.endRepair (s : State) : State :=
  match s.scanner.repair with
  | some r =>
    let s := (s.modWatch r.chan fun w => { w with state := .referencePending, reference := none, source := none }).modScanner
      fun n => { n with repair := none }
    let s := s.report (.repaired r.chan)
    if s.scanner.lock && s.scanner.pass.isNone then s.beginPass r.chan else s
  | none => s

/-- R146: the copy of the channel at the head of the copy-back list ends. -/
def State.copyEnd (s : State) : State :=
  match s.staging.copyList with
  | [] => s
  | c :: rest =>
    let s := (s.copyActive c).modStaging fun g => { g with copyList := rest }
    if rest = [] then s.copyActiveName.openStaging.endRepair else s

end Sys2Proof.Machine
end

