-- ==== Sys2Proof/Machine/Activation.lean ====
section
/-! DEFINITION. The activation of a pending commit (R142 to R145), and the whole frame tick, in the order the rules give
its parts (R55, R97, R109, R114, R142): modes, barrier decision, activation, adoption, output frames. -/

namespace Sys2Proof.Machine

/-- R143: channel `c`'s selector flips, and its newly active record takes the generation `g`. -/
def State.activateRecord (g : Word32) (c : Chan) (s : State) : State :=
  let b := s.stagingBank c
  (s.setRecord b c (Rec.setGen (s.record b c) g)).modStaging fun n => { n with sel := n.sel.set c b }

/-- R143: the set-level selector flips, and the newly active header takes the generation `g`. -/
def State.activateHeader (g : Word32) (s : State) : State :=
  let b := otherBank s.staging.setSel
  (s.setHeader b (Header.setGen (s.header b) g)).modStaging fun n => { n with setSel := b, gen := g }

/-- R83, R144: READY slots are freed when the activation changed W_in or H_in; `before` holds the state before it. -/
def State.rasterChange (before : State) (c : Chan) (s : State) : State :=
  let r := before.activeRecord c
  let r' := s.activeRecord c
  if Rec.wIn r = Rec.wIn r' ∧ Rec.hIn r = Rec.hIn r' then s else s.modSlots c Slots.freeReady

/-- R156: a channel whose active record has been replaced drops its reference and its repair source. -/
def State.dropReference (c : Chan) (s : State) : State :=
  s.modWatch c fun w =>
    { w with
      reference := none
      source := none
      state := if w.state = .fault then .fault else .referencePending }

/-- R156: the Scanner's treatment of an activation under the lock: the channels of the set drop their references, and a
pass over one of them is abandoned for the next pass. -/
def State.scannerActivation (set : ChanSet) (s : State) : State :=
  if s.scanner.lock then
    let s := eachChan State.dropReference set.chans s
    match s.scanner.pass with
    | some p => if p.chan ∈ set.chans then s.nextPass p.chan else s
    | none => s
  else s

/-- R144: the completion of an activated commit. -/
def State.completeCommit (p : PendingCommit) (g : Word32) (s : State) : State :=
  match p.owner with
  | .link k tag => s.complete k tag .success (word32Bytes g)
  | .part => s

/-- R144, R160: Staging goes to COPYBACK, and with it the phase of a repair. -/
def State.startCopyBack (set : ChanSet) (s : State) : State :=
  (s.modStaging fun n => { n with commit := none, copyList := set.chans, state := .copyBack }).modScanner
    fun n => { n with repair := n.repair.map fun r => { r with phase := .copyBack } }

/-- R143, R144: the activation of a commit. -/
def State.activate (p : PendingCommit) (s : State) : State :=
  let g := s.staging.gen + 1
  let cs := p.set.chans
  let t := (eachChan (State.activateRecord g) cs s).activateHeader g
  let t := eachChan (State.rasterChange s) cs t
  let t := t.scannerActivation p.set
  ((t.raise .activated).completeCommit p g).startCopyBack p.set

/-- R142: the activation condition; `swapped` is the Barrier's report (R97). -/
def Activation.met (kind : Activation) (swapped : Option Word32) : Bool :=
  match kind with
  | .nextTick => true
  | .atFrame n =>
    match swapped with
    | some f => newerEq f n
    | none => false

/-- R142: the pending commit is tested at a tick, after the barrier decision. -/
def State.testActivation (swapped : Option Word32) (s : State) : State :=
  match s.staging.state, s.staging.commit with
  | .commitPending, some p => if p.kind.met swapped then s.activate p else s
  | _, _ => s

/-- R55: the tick counter rises by 1, and the tick's time is kept. -/
def State.countTick (s : State) : State :=
  s.modTimebase fun t => { t with tickCount := t.tickCount + 1, lastTick := t.now, lockEdge := none }

/-- The modes of the channels. -/
def State.modes (s : State) : Vector Mode 6 := Vector.ofFn fun c : Chan => s.pipes[c].mode

/-- R55: a frame tick, at the present time. -/
def State.tick (s : State) : State :=
  let old := s.modes
  let s := s.countTick
  let s := s.applyModes s.timebase.tickCount
  let d := s.barrierDecision old
  let s := d.1.testActivation d.2
  (eachChan State.adoption (List.finRange 6) s).frameStarts

end Sys2Proof.Machine
end

