-- ==== Sys2Proof/Machine/Preset.lean ====
section
/-! DEFINITION. The Preset store: PRESET_STORE, PRESET_LOAD, PRESET_ERASE and SETUP_STORE as they are taken (R163 to
R174, R180), the landing and the end of loads, link-owned and the part's own (R141, R159, R170 to R173, R177), and the
ends of NV operations. -/

namespace Sys2Proof.Machine

/-! ### Bodies on flash (R163) -/

/-- R163: one byte of a slot body changed, by its offset in the body. -/
def Body.changeByte (p : Host.Cell) (b : Body) : Body :=
  if p.1 < Config.headerSize then { b with header := Cells.write zeroByte b.header p.1 [p.2] }
  else
    let a := p.1 - Config.headerSize
    if h : a / Config.recordSize < 6 then
      let c : Chan := ⟨a / Config.recordSize, h⟩
      { b with
        records := b.records.set c (Cells.write defaultByte b.records[c] (a % Config.recordSize) [p.2]) }
    else b

/-- Bytes of a slot body changed, in the order of the list. -/
def Body.change (changed : List Host.Cell) (b : Body) : Body := changed.foldl (fun b p => b.changeByte p) b

/-- R163: one byte of a slot body, by its offset in the body: the set header, then the six channel records; none beyond the
end of the body. -/
def Body.byteAt (b : Body) (a : Nat) : Option Byte :=
  if a < Config.headerSize then some (Cells.read zeroByte b.header a)
  else
    let r := a - Config.headerSize
    if h : r / Config.recordSize < 6 then
      some (Cells.read defaultByte (b.records[r / Config.recordSize]'h) (r % Config.recordSize))
    else none

/-- R163: the areas of the serial flash. -/
inductive FlashArea where
  /-- the area of slot `slot`, at an offset in it -/
  | slot (slot : SlotId) (offset : Nat)
  /-- the directory, at an offset in it -/
  | directory (offset : Nat)
  /-- the setup record, at an offset in it -/
  | setup (offset : Nat)
  /-- not used by the part -/
  | unused
deriving DecidableEq, Repr

/-- R163: the area that a flash address lies in. The directory has no stated length: its area is what lies between its
address and that of the setup record (notes/assumptions/37.md). -/
def flashArea (a : Nat) : FlashArea :=
  if h : a / Config.slotArea < 8 then .slot ⟨a / Config.slotArea, h⟩ (a % Config.slotArea)
  else if a < Config.setupAddress then .directory (a - Config.directoryAddress)
  else if a < Config.setupAddress + Config.setupSize then .setup (a - Config.setupAddress)
  else .unused

/-- R163: the byte at a flash address; none where the part keeps no bytes, and in the directory, whose slot records the
rules give fields and no layout on flash (notes/assumptions/37.md). -/
def Flash.byteAt (f : Flash) (a : Nat) : Option Byte :=
  match flashArea a with
  | .slot sl offset => f.bodies[sl].byteAt offset
  | .directory _ => none
  | .setup offset => some (Cells.read zeroByte f.setup offset)
  | .unused => none

/-- R168: the active set header and the six active records, as they stand. -/
def State.activeBody (s : State) : Body where
  header := s.activeHeader
  records := Vector.ofFn fun c : Chan => s.activeRecord c

/-- R165: what a slot that becomes VALID holds. -/
def Body.info (b : Body) (gen : Word32) : SlotInfo where
  name := Header.name b.header
  gen := gen
  crcs := Vector.ofFn fun c : Chan => crc32 (Rec.bytes b.records[c])

/-- The records' CRC of channel `c` in the directory's slot record, when present. -/
def State.slotCrc (s : State) (sl : SlotId) (c : Chan) : Option Word32 :=
  (s.preset.directory[sl].info).map fun i => i.crcs[c]

/-! ### Beginning an NV operation (R166) -/

/-- R166: an NV operation begins, for a request of link `k`, which is kept. -/
def State.beginNv (op : NvOp) (k : LinkId) (tag : Byte) (m : Msg) (s : State) : State :=
  (s.modPreset fun p => { p with nv := some op, requester := some { link := k, tag := tag, live := true } }).keep k m

/-- R124, R170: a load begins: staging is LOADING for its owner, and the first record is to land. -/
def State.startLoad (sl : SlotId) (owner : OpOwner) (first : Chan) (s : State) : State :=
  (s.modPreset fun p =>
    { p with nv := some (.load sl owner), progress := some { landing := first, sound := [] } }).modStaging
    fun g => { g with state := .loading, owner := some owner }

/-- R167: PRESET_STORE taken, by the first case that applies. -/
def takePresetStore (k : LinkId) (tag : Byte) (ps : List Byte) (s : State) : State :=
  match slotParam ps with
  | none => s.complete k tag .invalid []
  | some sl =>
    if s.slotState sl ≠ .empty then s.complete k tag .slotOccupied []
    else if s.staging.state = .commitPending then s.complete k tag .busy []
    else if !s.nvIdle then s.complete k tag .busy []
    else
      ((s.setSlot sl { state := .storing, info := none }).modPreset
        fun p => { p with storing := some s.activeBody }).beginNv (.store sl) k tag (.command tag 0x0A ps)

/-- R169: PRESET_LOAD taken, by the first case that applies. -/
def takePresetLoad (k : LinkId) (tag : Byte) (ps : List Byte) (s : State) : State :=
  match slotParam ps with
  | none => s.complete k tag .invalid []
  | some sl =>
    if s.scanner.lock then s.complete k tag .locked []
    else
      match s.staging.hold with
      | none => s.complete k tag .notHolder []
      | some h =>
        if h ≠ k then s.complete k tag .held []
        else if s.slotState sl = .empty then s.complete k tag .slotEmpty []
        else if s.slotState sl = .corrupt then s.complete k tag .presetCorrupt []
        else if !s.isOpen || !s.nvIdle then s.keepWaiting k tag (.command tag 0x0B ps)
        else
          ((s.unwait (.request k tag)).beginNv (.load sl (.link k)) k tag (.command tag 0x0B ps)).startLoad sl
            (.link k) 0

/-- R174: PRESET_ERASE taken, by the first case that applies. -/
def takePresetErase (k : LinkId) (tag : Byte) (ps : List Byte) (s : State) : State :=
  match slotParam ps with
  | none => s.complete k tag .invalid []
  | some sl =>
    if s.scanner.lock then s.complete k tag .locked []
    else if s.slotState sl = .empty then s.complete k tag .success []
    else if !s.nvIdle then s.complete k tag .busy []
    else (s.setSlot sl { state := .erasing, info := none }).beginNv (.erase sl) k tag (.command tag 0x0C ps)

/-- R175, R178: the share of link `k` in a setup copy. -/
def setupShare (m : Cells) (k : LinkId) : Nat := leNat (Cells.bytes zeroByte m (2 * k.val) 2)

/-- R180: the sum of the four shares of a setup copy. -/
def setupShareSum (m : Cells) : Nat := ((List.finRange 4).map (setupShare m)).sum

/-- R180: SETUP_STORE taken, by the first case that applies. -/
def takeSetupStore (k : LinkId) (tag : Byte) (ps : List Byte) (s : State) : State :=
  if 512 < setupShareSum s.preset.setup then s.complete k tag .invalid (leBytes 2 (setupShareSum s.preset.setup))
  else if !s.nvIdle then s.complete k tag .busy []
  else
    (s.modPreset fun p => { p with setupStoring := some (setupRecordBytes p.setup) }).beginNv .setupStore k tag
      (.command tag 0x0D ps)

/-! ### Links coming UP (R175, R185) -/

/-- R185: the link comes UP, and its first message is a CREDIT of the whole share and 16 counts. -/
def Link.comeUp (l : Link) : Link :=
  { l with
    up := true
    rx := []
    wait := []
    sendQ := [.creditFixed l.share 16]
    sending := none
    unitsHeld := 0
    outstanding := []
    unitsReturn := 0
    countsReturn := 0
    noticeCredit := 0 }

/-- R185: a DOWN link whose line layer sees the peer and whose share is not 0 comes UP. -/
def Link.tryUp (l : Link) : Link := if !l.up && l.peer && decide (l.share ≠ 0) then l.comeUp else l

/-- R175, R177: the boot outcome is settled, and from then on links may come UP. -/
def State.settleBoot (o : BootOutcome) (s : State) : State :=
  let s := s.modPreset fun p => { p with bootOutcome := some o }
  { s with links := Vector.ofFn fun k : LinkId => s.links[k].tryUp }

/-! ### The part's own commit (R141) -/

/-- R141: the part's own commit of a set of channels is pending. -/
def State.pendPartCommit (set : ChanSet) (s : State) : State :=
  s.modStaging fun g =>
    { g with state := .commitPending, commit := some { owner := .part, set := set, kind := .nextTick } }

/-- R159, R160: a repair has failed for its channel. -/
def State.failRepair (c : Chan) (s : State) : State :=
  (s.modScanner fun n => { n with repair := none }).report (.repairFailed c)

/-- R141, R177: the sound start-up load is committed on all six channels, or rejected. -/
def State.commitStartUp (s : State) : State :=
  match checkRecords (s.stagingSet 0x3F) with
  | none => ((s.pendPartCommit 0x3F).idleNv).settleBoot .loaded
  | some _ => (s.openStaging.idleNv).settleBoot .rejected

/-- R141, R159, R160: the sound repair load of channel `c` is committed, or the repair fails. -/
def State.commitRepair (c : Chan) (s : State) : State :=
  let set : ChanSet := 1 <<< c.val
  match checkRecords (s.stagingSet set) with
  | none =>
    ((s.pendPartCommit set).modScanner
      fun n => { n with repair := n.repair.map fun r => { r with phase := .commitPending } }).idleNv
  | some _ => (s.openStaging.idleNv).failRepair c

/-! ### Records landing (R170 to R173) -/

/-- R171: the staging set header takes the body's set name. -/
def State.takeBodyName (sl : SlotId) (s : State) : State :=
  s.setStagingHeader (Header.setName s.stagingHeader (Header.name s.flash.bodies[sl].header))

/-- R171, R177: the sixth record is sound. -/
def State.endLoad (sl : SlotId) (owner : OpOwner) (s : State) : State :=
  let s := s.takeBodyName sl
  match owner with
  | .link _ =>
    let req := s.preset.requester
    (s.idleNv.openStaging).completeFor req .success []
  | .startUp => s.commitStartUp
  | .repair => s

/-- R170: channel `c`'s record is sound: its origin becomes PRESET, and the load goes on or ends. -/
def State.recordSound (sl : SlotId) (owner : OpOwner) (p : Progress) (s : State) : State :=
  let c := p.landing
  let s := s.setStagingRecord c (Rec.setOrigin (s.stagingRecord c) originPreset (BitVec.ofNat 8 sl.val))
  if owner = .repair then s.commitRepair c
  else if c = 5 then s.endLoad sl owner
  else s.modPreset fun q => { q with progress := some { landing := c + 1, sound := p.sound ++ [c] } }

/-- R172: channel `c`'s record fails its CRC: the slot becomes CORRUPT and a restore copy begins. -/
def State.recordBad (sl : SlotId) (c : Chan) (s : State) : State :=
  let req := s.preset.requester
  (((s.setSlot sl { s.preset.directory[sl] with state := .corrupt }).raise .preset).idleNv).modStaging
    fun g => { g with restore := some { chan := c, requester := req } }

/-- R170: the bytes of a record land in channel `c`'s staging record. -/
def State.landRecord (c : Chan) (bytes : List Byte) (s : State) : State :=
  s.setStagingRecord c (applyWrite landField defaultByte (s.stagingRecord c) 0 bytes)

/-- R159, R173: a repair load copies the active set name into the staging set header. -/
def State.landName (owner : OpOwner) (s : State) : State := if owner = .repair then s.copyActiveName else s

/-- R170: the last byte of a record lands, and its CRC-32, taken over the body bytes as they are read, is compared. -/
def State.recordLanded (s : State) : State :=
  match s.preset.nv, s.preset.progress with
  | some (.load sl owner), some p =>
    let bytes := Rec.bytes s.flash.bodies[sl].records[p.landing]
    let t := (s.landRecord p.landing bytes).landName owner
    if s.slotCrc sl p.landing = some (crc32 bytes) then t.recordSound sl owner p else t.recordBad sl p.landing
  | _, _ => s

/-- Bytes of the body being loaded change on flash. -/
def State.changeLoadedBody (changed : List Host.Cell) (s : State) : State :=
  match s.preset.nv with
  | some (.load sl _) => s.modFlash fun f => { f with bodies := f.bodies.set sl (f.bodies[sl].change changed) }
  | _ => s

/-- R172, R177, R159: the restore copy ends; staging becomes OPEN, and its party learns of the corrupt record. -/
def State.restoreEnd (s : State) : State :=
  match s.staging.restore with
  | none => s
  | some r =>
    let owner := s.staging.owner
    let s := ((s.copyActive r.chan).modStaging fun g => { g with restore := none }).openStaging
    match owner with
    | some .startUp => s.settleBoot (.corrupt r.chan)
    | some .repair => s.failRepair r.chan
    | _ => s.completeFor r.requester .presetCorrupt [BitVec.ofNat 8 r.chan.val]

/-! ### The ends of NV operations -/

/-- R168: a store ends. -/
def State.storeEnd (s : State) : State :=
  match s.preset.nv, s.preset.storing with
  | some (.store sl), some body =>
    let req := s.preset.requester
    let gen := s.staging.gen
    let s := (s.modFlash fun f => { f with bodies := f.bodies.set sl body }).setSlot sl
      { state := .valid, info := some (body.info gen) }
    let s := ((s.modPreset fun p => { p with storing := none }).idleNv).raise .preset
    s.completeFor req .success (word32Bytes gen)
  | _, _ => s

/-- R174: an erase ends. -/
def State.eraseEnd (s : State) : State :=
  match s.preset.nv with
  | some (.erase sl) =>
    let req := s.preset.requester
    (((s.setSlot sl SlotDir.emptySlot).idleNv).raise .preset).completeFor req .success []
  | _ => s

/-- R180: a SETUP_STORE ends. -/
def State.setupEnd (s : State) : State :=
  match s.preset.nv, s.preset.setupStoring with
  | some .setupStore, some bytes =>
    let req := s.preset.requester
    let s := (s.modFlash fun f => { f with setup := Cells.write zeroByte f.setup 0 bytes }).modPreset
      fun p => { p with setupStoring := none }
    (s.idleNv.raise .setup).completeFor req .success []
  | _, _ => s

/-- R179: a WRITE applied to the SETUP region: it changes the staged copy alone. -/
def State.writeSetup (offset : Nat) (payload : List Byte) (s : State) : State :=
  s.modPreset fun p => { p with setup := applyWrite setupField zeroByte p.setup offset payload }

end Sys2Proof.Machine
end

