-- ==== Sys2Proof/Machine/Scanner.lean ====
section
/-! DEFINITION. The show lock, the scanner's passes and the repair queue (R149 to R160). -/

namespace Sys2Proof.Machine

/-- R150: what the Scanner holds of a channel when the lock is set. -/
def Watch.locked (w : Watch) : Watch := { w with state := .referencePending, reference := none, source := none, checks := 0 }

/-- R151: what the Scanner holds of a channel when the lock is cleared. -/
def Watch.unlocked (w : Watch) : Watch := { w with state := .idle, reference := none, source := none }

/-- R150: SHOW_LOCK taken, by the first case that applies. -/
def takeShowLock (k : LinkId) (tag : Byte) (s : State) : State :=
  if s.scanner.lock then s.complete k tag .success []
  else if s.staging.hold.isSome then s.complete k tag .held []
  else if !s.isOpen then s.complete k tag .busy []
  else
    let s := s.modScanner fun n => { n with lock := true, watch := Vector.ofFn fun c : Chan => n.watch[c].locked }
    (s.beginPass 0).complete k tag .success []

/-- R151: SHOW_UNLOCK taken, by the first case that applies. -/
def takeShowUnlock (k : LinkId) (tag : Byte) (s : State) : State :=
  if !s.scanner.lock then s.complete k tag .success []
  else if s.scanner.repair.isSome then s.complete k tag .busy []
  else
    let s := s.modScanner fun n =>
      { n with lock := false, watch := Vector.ofFn (fun c : Chan => n.watch[c].unlocked), pass := none, queue := [] }
    (s.unwait .repair).complete k tag .success []

/-- R154: the repair source that the origin fields of a record name. Origin kind PRESET with a slot byte above 7, which
only damage (R7) leaves, names no slot of the part: the model's choice is NONE (notes/assumptions/34.md). -/
def repairSourceOf (r : Cells) : RepairSource :=
  if Rec.originKind r = originPreset then
    match slotOf (Rec.originSlot r) with
    | some s => .slot s
    | none => .none
  else .none

/-- R154: a reference is taken. -/
def State.takeReference (c : Chan) (view : Cells) (s : State) : State :=
  s.modWatch c fun w =>
    { w with state := .checking, reference := some (crc32 (Rec.bytes view)), source := some (repairSourceOf view) }

/-- R157: a channel joins the repair queue at its tail; the repair at the head of the queue waits (R125), and its start is
REPAIR_BEGIN (notes/assumptions/23.md). -/
def State.queueRepair (c : Chan) (s : State) : State :=
  (s.modScanner fun n => { n with queue := n.queue ++ [c] }).await .repair

/-- R155: the slot that is the channel's repair source, when the directory shows it VALID. -/
def State.validSource (s : State) (c : Chan) : Option SlotId :=
  match s.scanner.watch[c].source with
  | some (.slot sl) => if s.slotState sl = .valid then some sl else none
  | _ => none

/-- R155: a pass finds that the record has changed. -/
def State.findFault (c : Chan) (s : State) : State :=
  let s := (s.modWatch c fun w => { w with state := .fault }).report (.fault c)
  match s.validSource c with
  | some _ => s.queueRepair c
  | none => s

/-- R155: the comparison at the end of a pass over a CHECKING channel. -/
def State.compareReference (c : Chan) (view : Cells) (s : State) : State :=
  let s := s.modWatch c fun w => { w with checks := w.checks + 1 }
  if s.scanner.watch[c].reference = some (crc32 (Rec.bytes view)) then s else s.findFault c

/-- R153 to R155: a pass ends, and the next begins. -/
def State.passEnd (s : State) : State :=
  match s.scanner.pass with
  | none => s
  | some p =>
    let s := match s.scanner.watch[p.chan].state with
      | .referencePending => s.takeReference p.chan p.view
      | .checking => s.compareReference p.chan p.view
      | .idle => s
      | .fault => s
    s.nextPass p.chan

/-- R158: a repair of channel `c` from slot `sl` begins. -/
def State.startRepair (c : Chan) (sl : SlotId) (s : State) : State :=
  (s.modScanner fun n => { n with repair := some { chan := c, slot := sl, phase := .loading } }).startLoad sl .repair c

/-- R158: the channels of the queue are tried from the head on: one whose slot is not VALID fails, the first whose slot
is VALID has its repair begun. -/
def State.tryRepairs : List Chan → State → State
  | [], s => s.modScanner fun n => { n with queue := [] }
  | c :: rest, s =>
    match s.validSource c with
    | some sl => (s.modScanner fun n => { n with queue := rest }).startRepair c sl
    | none => State.tryRepairs rest ((s.modScanner fun n => { n with queue := rest }).report (.repairFailed c))

/-- R158: a repair is due: what its start needs, all at the same moment. -/
def State.canRepair (s : State) : Bool :=
  !s.scanner.queue.isEmpty && s.scanner.repair.isNone && s.isOpen && s.nvIdle

/-- R158: the Scanner tries to begin a repair; the repair then at the head of the queue waits (R125). -/
def State.beginRepair (s : State) : State :=
  if s.canRepair then
    let s := (s.tryRepairs s.scanner.queue).unwait .repair
    if s.scanner.queue.isEmpty then s else s.await .repair
  else s

end Sys2Proof.Machine
end

