-- ==== Sys2Proof/Machine/Requests.lean ====
section
/-! DEFINITION. What Link k does with the message at the head of its receive queue (R190, R193, R194), the requests it
hands to their owners, and how the waiting requests are served (R125, R166). -/

namespace Sys2Proof.Machine

/-! ### Posted messages at the head (R193, R201, R209) -/

/-- R209: kinds leave the pending and notified sets. -/
def Link.clearKinds (set : BitVec 32) (l : Link) : Link :=
  { l with
    pending := l.pending &&& ~~~(set.setWidth 11)
    notified := l.notified &&& ~~~(set.setWidth 11) }

/-- R191, R193: the posted message at the head leaves the queue, and waits no longer if it stalled. -/
def State.leaveHead (k : LinkId) (m : Msg) (s : State) : State := (s.unwait (.write k)).modLink k (Link.leavePosted m)

/-- R201: the last refusal of the link. -/
def Link.recordRefusal (status : Status) (m : Msg) (l : Link) : Link := { l with lastRefusal := some (status, m.kindCode) }

/-- R201: a posted message is refused. -/
def State.refusePosted (k : LinkId) (m : Msg) (status : Status) (s : State) : State :=
  ((s.leaveHead k m).modLink k (Link.recordRefusal status m)).raiseOn k .refused

/-- R130, R132, R179: what the owner of a writable region answers for a WRITE. -/
def judgeOwner (k : LinkId) (r : Region) (offset : Nat) (payload : List Byte) (s : State) : WriteVerdict :=
  match r with
  | .stagingRecord c => judgeStagingWrite k (State.writeRecord c offset payload) s
  | .stagingHeader => judgeStagingWrite k (State.writeHeader offset payload) s
  | .setup => .applied (s.writeSetup offset payload)
  | .activeRecord _ => .refused .invalid
  | .activeHeader => .refused .invalid
  | .status => .refused .invalid
  | .directory => .refused .invalid

/-- R190: a WRITE judged: its code, its role, its bounds, then its owner. -/
def judgeWrite (k : LinkId) (region channel : Byte) (offset : Word32) (payload : List Byte) (s : State) : WriteVerdict :=
  match regionOf region channel with
  | none => .refused .invalid
  | some r =>
    match r.writeRole with
    | none => .refused .invalid
    | some role =>
      if !hasRole s.links[k].roles role then .refused .denied
      else if !writeInside offset.toNat payload.length r.length then .refused .invalid
      else judgeOwner k r offset.toNat payload s

/-- R193: a WRITE at the head is applied, refused or stalled. -/
def takeWrite (k : LinkId) (m : Msg) (verdict : WriteVerdict) (s : State) : State :=
  match verdict with
  | .applied t => t.leaveHead k m
  | .refused status => s.refusePosted k m status
  | .stalled => s.await (.write k)

/-! ### Non-posted requests (R190, R194) -/

/-- R208: EVENT_ENABLE taken. -/
def takeEventEnable (k : LinkId) (tag : Byte) (ps : List Byte) (s : State) : State :=
  match eventSetParam ps with
  | none => s.complete k tag .invalid []
  | some e =>
    let s := s.modLink k fun l => { l with enabled := e }
    (s.complete k tag .success (leBytes 4 s.links[k].pending.toNat)).modLink k Link.testNotice

/-- R187: a COMMAND handed to the block that owns it. -/
def takeCommand (k : LinkId) (tag code : Byte) (ps : List Byte) (s : State) : State :=
  match code.toNat with
  | 0x01 => takeHoldAcquire k tag s
  | 0x02 => takeHoldRelease k tag s
  | 0x03 => takeHoldBreak k tag s
  | 0x04 => takeCommit k tag ps s
  | 0x05 => takeCommitCancel k tag s
  | 0x06 => takeShowLock k tag s
  | 0x07 => takeShowUnlock k tag s
  | 0x08 => takeChannelMode k tag ps s
  | 0x09 => takeBarrierLimit k tag ps s
  | 0x0A => takePresetStore k tag ps s
  | 0x0B => takePresetLoad k tag ps s
  | 0x0C => takePresetErase k tag ps s
  | 0x0D => takeSetupStore k tag ps s
  | 0x0E => takeEventEnable k tag ps s
  | _ => s.complete k tag .invalid []

/-- R190: a COMMAND judged: its code, its role, then its owner. -/
def judgeCommand (k : LinkId) (tag code : Byte) (ps : List Byte) (s : State) : State :=
  match commandRoles code with
  | none => s.complete k tag .invalid []
  | some roles =>
    if !hasRole s.links[k].roles roles then s.complete k tag .denied []
    else takeCommand k tag code ps s

/-- R122, R133, R194: a READ handed to the owner of its region. -/
def takeRead (k : LinkId) (tag : Byte) (m : Msg) (r : Region) (offset : Word32) (length : Nat) (s : State) : State :=
  match r with
  | .stagingRecord _ => takeStagingRead k tag m r offset length s
  | .stagingHeader => takeStagingRead k tag m r offset length s
  | .activeRecord _ => s.completeRead k tag offset (readContent s r offset.toNat length)
  | .activeHeader => s.completeRead k tag offset (readContent s r offset.toNat length)
  | .setup => s.completeRead k tag offset (readContent s r offset.toNat length)
  | .status => s.completeRead k tag offset (readContent s r offset.toNat length)
  | .directory => s.completeRead k tag offset (readContent s r offset.toNat length)

/-- R190: a READ judged: its code, its role, its bounds, then its owner. -/
def judgeRead (k : LinkId) (tag region channel : Byte) (offset : Word32) (length : BitVec 16) (s : State) : State :=
  match regionOf region channel with
  | none => s.complete k tag .invalid []
  | some r =>
    if !hasRole s.links[k].roles roleView then s.complete k tag .denied []
    else if !readInside offset.toNat length.toNat r.length then s.complete k tag .invalid []
    else takeRead k tag (.read tag region channel offset length) r offset length.toNat s

/-- R190: a non-posted request judged; a posted message is judged by `State.judgeHead`. -/
def judgeRequest (k : LinkId) (m : Msg) (s : State) : State :=
  match m with
  | .read tag region channel offset length => judgeRead k tag region channel offset length s
  | .command tag code ps => judgeCommand k tag code ps s
  | .write _ _ _ _ => s
  | .clear _ => s

/-- R194: a non-posted request leaves the receive queue. -/
def Link.popHead (l : Link) : Link := { l with rx := l.rx.tail }

/-- R193, R194: the message at the head of link `k`'s receive queue is judged, if there is one. -/
def State.judgeHead (k : LinkId) (s : State) : State :=
  match s.links[k].rx with
  | [] => s
  | .write region channel offset payload :: _ =>
    takeWrite k (.write region channel offset payload) (judgeWrite k region channel offset payload s) s
  | .clear set :: _ => (s.modLink k (Link.clearKinds set)).leaveHead k (.clear set)
  | .read tag region channel offset length :: _ =>
    judgeRequest k (.read tag region channel offset length) (s.modLink k Link.popHead)
  | .command tag code ps :: _ => judgeRequest k (.command tag code ps) (s.modLink k Link.popHead)

/-! ### Serving the waiting requests (R125, R166) -/

/-- The request with this tag in link `k`'s wait list. -/
def State.waitingMsg (s : State) (k : LinkId) (tag : Byte) : Option Msg :=
  s.links[k].wait.find? fun m => decide (m.tag? = some tag)

/-- A READ. -/
def Msg.isRead : Msg → Bool
  | .read _ _ _ _ _ => true
  | .write _ _ _ _ => false
  | .clear _ => false
  | .command _ _ _ => false

/-- R133, R125: the staging state that a waiting request needs: OPEN, or for a READ also COMMIT_PENDING. -/
def State.mayServe (s : State) (m : Msg) : Bool :=
  s.isOpen || (m.isRead && decide (s.staging.state = .commitPending))

/-- R125: one claimant is served: judged afresh by its own rule, when staging is in the state that it needs. The start of
a repair is a step of its own, REPAIR_BEGIN (R158, notes/assumptions/23.md): here the repair is passed over. -/
def State.serve (w : Claimant) (s : State) : State :=
  match w with
  | .write k => if s.isOpen then s.judgeHead k else s
  | .request k tag =>
    match s.waitingMsg k tag with
    | some m => if s.mayServe m then judgeRequest k m s else s
    | none => s
  | .repair => s

/-- R125: who is still to be served after claimant `w`: nobody when `w` is a repair that is due (R158), since its start
moves staging out of OPEN and ends the serving; otherwise those behind it. -/
def State.servedAfter (s : State) (w : Claimant) (behind : List Claimant) : List Claimant :=
  if w = .repair ∧ s.canRepair then [] else behind

/-- R166: the claimant needs the NV controller: a waiting PRESET_LOAD, or the repair. -/
def State.needsController (s : State) (w : Claimant) : Bool :=
  match w with
  | .write _ => false
  | .request k tag =>
    match s.waitingMsg k tag with
    | some (.command _ code _) => decide (code = 0x0B)
    | _ => false
  | .repair => true

/-- The claimants that a change from `s` to `t` calls to be served, with those still to serve from before: all that
wait when staging has become OPEN or COMMIT_PENDING (R125), those that need the controller when it has become idle with
staging OPEN (R166), all that wait when the repair that stood before them was due and no longer is, with staging still
OPEN. -/
def claimants (s t : State) (before : List Claimant) : List Claimant :=
  if (t.isOpen && !s.isOpen) || (decide (t.staging.state = .commitPending) && decide (s.staging.state ≠ .commitPending)) then
    t.staging.waiting
  else if t.nvIdle && !s.nvIdle && t.isOpen then t.staging.waiting.filter t.needsController
  else if s.canRepair && !t.canRepair && t.isOpen then t.staging.waiting
  else before

/-- R131: the hold of link `k` has ended. -/
def holdEnded (s t : State) (k : LinkId) : Bool := decide (s.staging.hold = some k) && decide (t.staging.hold ≠ some k)

/-- The links whose head a change from `s` to `t` calls to be judged: a message has become the head (R193), or the hold
that a stalled WRITE relied on has ended (R131). -/
def heads (s t : State) : List LinkId :=
  (List.finRange 4).filter fun k =>
    !t.links[k].rx.isEmpty &&
      (s.links[k].rx.isEmpty || decide (t.links[k].rx.length < s.links[k].rx.length) || holdEnded s t k)

/-- R125, R193: claimants `ws` are served, oldest first, up to a repair that is due, and then the heads of the links `ks`
are judged, one at a time; what each of these changes calls for joins them. The fuel bounds the number of judgements. -/
def settle : Nat → List Claimant → List LinkId → State → State
  | 0, _, _, s => s
  | n + 1, w :: ws, ks, s =>
    settle n (claimants s (s.serve w) (s.servedAfter w ws)) (heads s (s.serve w) ++ ks) (s.serve w)
  | n + 1, [], k :: ks, s => settle n (claimants s (s.judgeHead k) []) (heads s (s.judgeHead k) ++ ks) (s.judgeHead k)
  | _ + 1, [], [], s => s

/-- The messages and claimants that a settling can judge. -/
def State.waitCount (s : State) : Nat :=
  ((List.finRange 4).map fun k : LinkId => s.links[k].rx.length + s.links[k].wait.length).sum + s.staging.waiting.length

/-- Fuel for a settling: more judgements than it can make. Each message judged anew calls at most for the service of all
claimants, and no message is added while it lasts. -/
def State.fuel (s : State) : Nat := 2 * (s.waitCount + 3) ^ 2

/-- All that the change from `s` to `t` calls for on the links and in Staging, and then every idle link begins to send
(R196). -/
def State.settled (s t : State) : State := (settle t.fuel (claimants s t []) (heads s t) t).beginSends

end Sys2Proof.Machine
end

