-- ==== Sys2Proof/Machine/Ends.lean ====
section
/-! DEFINITION. The ends of the operations that take time (R154, R168, R170, R172, R174, R180, R146), the service of the
waiting requests and the start of a repair as commands of their own (R125, R158). An end whose operation is not in
flight changes nothing (notes/assumptions/3.md). -/

namespace Sys2Proof.Machine

/-- PRESET_RECORD_LANDED (R170): the last byte of the record being loaded lands. -/
def execPresetRecordLanded (changed : List Host.Cell) (s : State) : Host.Outcome State Fault Refusal :=
  if cellsInside changed Config.bodySize then .next (s.settled (s.changeLoadedBody changed).recordLanded)
  else .fault .noSuchByte

/-- RESTORE_COPY_END (R172). -/
def execRestoreCopyEnd (s : State) : Host.Outcome State Fault Refusal := .next (s.settled s.restoreEnd)

/-- PRESET_STORE_END (R168). -/
def execPresetStoreEnd (s : State) : Host.Outcome State Fault Refusal := .next (s.settled s.storeEnd)

/-- PRESET_ERASE_END (R174). -/
def execPresetEraseEnd (s : State) : Host.Outcome State Fault Refusal := .next (s.settled s.eraseEnd)

/-- SETUP_STORE_END (R180). -/
def execSetupStoreEnd (s : State) : Host.Outcome State Fault Refusal := .next (s.settled s.setupEnd)

/-- COPY_BACK_COPY_END (R146). -/
def execCopyBackCopyEnd (s : State) : Host.Outcome State Fault Refusal :=
  .next (s.settled (if s.staging.state = .copyBack then s.copyEnd else s))

/-- SCAN_PASS_END (R154, R155). -/
def execScanPassEnd (s : State) : Host.Outcome State Fault Refusal := .next (s.settled s.passEnd)

/-- SERVE_WAITING_REQUESTS (R125): the waiting requests are served, oldest first. -/
def execServeWaitingRequests (s : State) : Host.Outcome State Fault Refusal :=
  .next (settle s.fuel s.staging.waiting [] s).beginSends

/-- REPAIR_BEGIN (R158). -/
def execRepairBegin (s : State) : Host.Outcome State Fault Refusal := .next (s.settled s.beginRepair)

end Sys2Proof.Machine
end

