-- ==== Sys2Proof/Machine/Links.lean ====
section
/-! DEFINITION. The control links: a link coming UP and going DOWN (R185, R186), the arrival of messages (R184, R188,
R191, R192, R198), and the end of the sending of a message (R196, R199). The rows that name one request are the arrival
of that request's message (notes/assumptions/10.md). -/

namespace Sys2Proof.Machine

/-! ### Arrivals -/

/-- R202: the last protocol fault of the link. -/
def Link.recordFault (reason : FaultReason) (kind : Byte) (l : Link) : Link := { l with lastFault := some (reason, kind) }

/-- R202: a message is discarded with a protocol fault. -/
def State.protocolFault (k : LinkId) (reason : FaultReason) (kind : Byte) (s : State) : State :=
  (s.modLink k (Link.recordFault reason kind)).raiseOn k .protocol

/-- R191: a posted message joins the receive queue and holds its units. -/
def Link.holdPosted (m : Msg) (l : Link) : Link := { l with rx := l.rx ++ [m], unitsHeld := l.unitsHeld + m.cost }

/-- R192: a request joins the receive queue, outstanding, with its tag in use. -/
def Link.holdRequest (tag : Byte) (m : Msg) (l : Link) : Link :=
  { l with rx := l.rx ++ [m], outstanding := l.outstanding ++ [tag] }

/-- R191, R192: the credit checks of a message of good form. -/
def State.takeIn (k : LinkId) (m : Msg) (s : State) : State :=
  let l := s.links[k]
  match m.tag? with
  | none =>
    if l.share - l.unitsHeld < m.cost then s.protocolFault k .units m.kindCode else s.modLink k (Link.holdPosted m)
  | some tag =>
    if 16 ≤ l.outstanding.length then s.protocolFault k .count m.kindCode
    else if tag ∈ l.outstanding then s.protocolFault k .tag m.kindCode
    else s.modLink k (Link.holdRequest tag m)

/-- R198: a CREDIT from the master. -/
def State.takeCredit (k : LinkId) (grant : Byte) (s : State) : State :=
  if 15 < s.links[k].noticeCredit + grant.toNat then s.protocolFault k .noticeCredit kindCredit
  else s.modLink k fun l => { l with noticeCredit := l.noticeCredit + grant.toNat }.testNotice

/-- R184, R188: what an arrival on link `k` does before any head of a queue is judged. -/
def State.arrive (k : LinkId) (a : Arrival) (s : State) : State :=
  if s.links[k].up then
    match a with
    | .lineDiscard => s.raiseOn k .line
    | .badForm reason kind => s.protocolFault k reason kind
    | .credit grant => s.takeCredit k grant
    | .msg m => s.takeIn k m
  else s

/-- R184: an arrival on link `k`, with all that it calls for. -/
def State.receive (k : LinkId) (a : Arrival) (s : State) : State := s.settled (s.arrive k a)

/-- MESSAGE_ARRIVAL (R184, R188): the bytes of one message. -/
def execMessageArrival (k : LinkId) (bytes : List Byte) (s : State) : Host.Outcome State Fault Refusal :=
  .next (s.receive k (readArrival bytes))

/-- CREDIT (R198). -/
def execCredit (k : LinkId) (grant : Byte) (s : State) : Host.Outcome State Fault Refusal :=
  .next (s.receive k (.credit grant))

/-- A WRITE of a region and channel. -/
def State.receiveWrite (k : LinkId) (region channel : Byte) (offset : Word32) (payload : List Byte) (s : State) : State :=
  s.receive k (formOf (.write region channel offset payload))

/-- STAGING_RECORD_WRITE (R130). -/
def execStagingRecordWrite (k : LinkId) (c : Chan) (offset : Word32) (payload : List Byte) (s : State) :
    Host.Outcome State Fault Refusal :=
  .next (s.receiveWrite k 0 (targetChannel (.record c)) offset payload)

/-- STAGING_HEADER_WRITE (R132). -/
def execStagingHeaderWrite (k : LinkId) (offset : Word32) (payload : List Byte) (s : State) :
    Host.Outcome State Fault Refusal :=
  .next (s.receiveWrite k 2 0 offset payload)

/-- SETUP_WRITE (R179). -/
def execSetupWrite (k : LinkId) (offset : Word32) (payload : List Byte) (s : State) : Host.Outcome State Fault Refusal :=
  .next (s.receiveWrite k 4 0 offset payload)

/-- WRITE (R190): the region code and channel as they stand in the header. -/
def execWrite (k : LinkId) (region channel : Byte) (offset : Word32) (payload : List Byte) (s : State) :
    Host.Outcome State Fault Refusal :=
  .next (s.receiveWrite k region channel offset payload)

/-- STAGING_READ (R133). -/
def execStagingRead (k : LinkId) (tag : Byte) (target : CalTarget) (offset : Word32) (length : BitVec 16) (s : State) :
    Host.Outcome State Fault Refusal :=
  .next (s.receive k (formOf (.read tag (targetRegion target) (targetChannel target) offset length)))

/-- CLEAR (R209). -/
def execClear (k : LinkId) (set : BitVec 32) (s : State) : Host.Outcome State Fault Refusal :=
  .next (s.receive k (formOf (.clear set)))

/-- A COMMAND of a code. -/
def State.receiveCommand (k : LinkId) (tag code : Byte) (params : List Byte) (s : State) : State :=
  s.receive k (formOf (.command tag code params))

/-- HOLD_ACQUIRE (R126). -/
def execHoldAcquire (k : LinkId) (tag : Byte) (params : List Byte) (s : State) : Host.Outcome State Fault Refusal :=
  .next (s.receiveCommand k tag 0x01 params)

/-- HOLD_RELEASE (R127). -/
def execHoldRelease (k : LinkId) (tag : Byte) (params : List Byte) (s : State) : Host.Outcome State Fault Refusal :=
  .next (s.receiveCommand k tag 0x02 params)

/-- HOLD_BREAK (R128). -/
def execHoldBreak (k : LinkId) (tag : Byte) (params : List Byte) (s : State) : Host.Outcome State Fault Refusal :=
  .next (s.receiveCommand k tag 0x03 params)

/-- COMMIT (R134, R135). -/
def execCommit (k : LinkId) (tag : Byte) (params : List Byte) (s : State) : Host.Outcome State Fault Refusal :=
  .next (s.receiveCommand k tag 0x04 params)

/-- COMMIT_CANCEL (R140). -/
def execCommitCancel (k : LinkId) (tag : Byte) (params : List Byte) (s : State) : Host.Outcome State Fault Refusal :=
  .next (s.receiveCommand k tag 0x05 params)

/-- SHOW_LOCK (R150). -/
def execShowLock (k : LinkId) (tag : Byte) (params : List Byte) (s : State) : Host.Outcome State Fault Refusal :=
  .next (s.receiveCommand k tag 0x06 params)

/-- SHOW_UNLOCK (R151). -/
def execShowUnlock (k : LinkId) (tag : Byte) (params : List Byte) (s : State) : Host.Outcome State Fault Refusal :=
  .next (s.receiveCommand k tag 0x07 params)

/-- CHANNEL_MODE (R112, R113). -/
def execChannelMode (k : LinkId) (tag : Byte) (params : List Byte) (s : State) : Host.Outcome State Fault Refusal :=
  .next (s.receiveCommand k tag 0x08 params)

/-- BARRIER_LIMIT (R99). -/
def execBarrierLimit (k : LinkId) (tag : Byte) (params : List Byte) (s : State) : Host.Outcome State Fault Refusal :=
  .next (s.receiveCommand k tag 0x09 params)

/-- PRESET_STORE (R167). -/
def execPresetStore (k : LinkId) (tag : Byte) (params : List Byte) (s : State) : Host.Outcome State Fault Refusal :=
  .next (s.receiveCommand k tag 0x0A params)

/-- PRESET_LOAD (R169). -/
def execPresetLoad (k : LinkId) (tag : Byte) (params : List Byte) (s : State) : Host.Outcome State Fault Refusal :=
  .next (s.receiveCommand k tag 0x0B params)

/-- PRESET_ERASE (R174). -/
def execPresetErase (k : LinkId) (tag : Byte) (params : List Byte) (s : State) : Host.Outcome State Fault Refusal :=
  .next (s.receiveCommand k tag 0x0C params)

/-- SETUP_STORE (R180). -/
def execSetupStore (k : LinkId) (tag : Byte) (params : List Byte) (s : State) : Host.Outcome State Fault Refusal :=
  .next (s.receiveCommand k tag 0x0D params)

/-- EVENT_ENABLE (R208). -/
def execEventEnable (k : LinkId) (tag : Byte) (params : List Byte) (s : State) : Host.Outcome State Fault Refusal :=
  .next (s.receiveCommand k tag 0x0E params)

/-! ### Link state -/

/-- LINK_UP (R185): the line layer sees the peer; the link comes UP when its share is not 0 and start-up has reached the
moment of R175. -/
def execLinkUp (k : LinkId) (s : State) : Host.Outcome State Fault Refusal :=
  let s := s.modLink k fun l => { l with peer := true }
  .next (if s.preset.bootOutcome.isSome then s.modLink k Link.tryUp else s).beginSends

/-- R205: the event sets become empty. -/
def Link.clearSets (l : Link) : Link := { l with pending := 0, enabled := 0, notified := 0 }

/-- R186: the link goes DOWN: its queues, places, credits and event sets are lost. -/
def Link.goDown (l : Link) : Link :=
  { l.clearSets with
    up := false
    peer := false
    rx := []
    unitsHeld := 0
    outstanding := []
    wait := []
    sendQ := []
    sending := none
    unitsReturn := 0
    countsReturn := 0
    noticeCredit := 0 }

/-- The link that a claimant waits on. -/
def Claimant.link? : Claimant → Option LinkId
  | .write k => some k
  | .request k _ => some k
  | .repair => none

/-- R125: the waiting requests of a link are discarded. -/
def State.forgetClaims (k : LinkId) (s : State) : State :=
  s.modStaging fun g => { g with waiting := g.waiting.filter fun w => w.link? ≠ some k }

/-- R129: the hold of link `k` is released; the link is DOWN, so a cancelled commit sends no completion. -/
def State.releaseDown (k : LinkId) (s : State) : State :=
  if s.staging.hold = some k then
    (if s.staging.state = .commitPending then s.cancelCommit else s).endHold
  else s

/-- R186: an operation that link `k` started will send no completion. -/
def Requester.drop (k : LinkId) (r : Requester) : Requester := if r.link = k then { r with live := false } else r

/-- R186: the completions of NV operations and restores that link `k` started are dropped. -/
def State.dropRequester (k : LinkId) (s : State) : State :=
  (s.modPreset fun p => { p with requester := p.requester.map (Requester.drop k) }).modStaging
    fun g => { g with restore := g.restore.map fun r => { r with requester := r.requester.map (Requester.drop k) } }

/-- R186: a pending CHANNEL_MODE request of link `k` becomes absent; the pending mode stays. -/
def Pipe.dropRequest (k : LinkId) (p : Pipe) : Pipe :=
  match p.pendingReq with
  | some r => if r.link = k then { p with pendingReq := none } else p
  | none => p

/-- R186: a pending BARRIER_LIMIT request of link `k` becomes absent; the pending value stays. -/
def Barrier.dropRequest (k : LinkId) (b : Barrier) : Barrier :=
  match b.pendingReq with
  | some (k', _) => if k' = k then { b with pendingReq := none } else b
  | none => b

/-- R186: the pending requests of link `k` that Pipelines and the Barrier hold. -/
def State.dropRequests (k : LinkId) (s : State) : State :=
  { s with pipes := Vector.ofFn fun c : Chan => s.pipes[c].dropRequest k }.modBarrier (Barrier.dropRequest k)

/-- R186: link `k`, UP, goes DOWN, and the loss is handed to the blocks that hold state on its behalf. -/
def State.linkDown (k : LinkId) (s : State) : State :=
  let s := ((s.modLink k Link.goDown).forgetClaims k).releaseDown k
  let s := (s.dropRequester k).dropRequests k
  if Config.setsClearedLast then s.modLink k Link.clearSets else s

/-- LINK_DOWN (R186): the line layer loses the peer. -/
def execLinkDown (k : LinkId) (s : State) : Host.Outcome State Fault Refusal :=
  .next (s.settled (if s.links[k].up then s.linkDown k else s.modLink k fun l => { l with peer := false }))

/-! ### Sending -/

/-- R196, R197, R199: the message that the link is sending has been sent. -/
def Link.sent (l : Link) : Link :=
  match l.sending with
  | some (.completion tag status offset _ rest) =>
    if rest = [] then
      { l with
        sending := none
        outstanding := l.outstanding.erase tag
        countsReturn := l.countsReturn + 1 }.returnCredit
    else
      { l with
        sending := none
        sendQ := l.sendQ ++ [.completion tag status (offset + 256) (rest.take 256) (rest.drop 256)] }
  | _ => { l with sending := none }

/-- MESSAGE_SENT (R196): the message has been sent, and the next begins. -/
def execMessageSent (k : LinkId) (s : State) : Host.Outcome State Fault Refusal := .next (s.modLink k Link.sent).beginSends

end Sys2Proof.Machine
end

