-- ==== Sys2Proof/Machine/Startup.lean ====
section
/-! DEFINITION. Start-up (R164, R175 to R177), and damage to calibration memory (R7). -/

namespace Sys2Proof.Machine

/-! ### Power-on and the reset line -/

/-- R164: every block takes its reset values; the flash keeps its contents (R163), and frame memory is not among what
the rules reset (notes/assumptions/7.md). -/
def State.startUp (s : State) : State :=
  { State.reset with pending := s.pending, flash := s.flash, frameMem := s.frameMem }

/-- START_UP (R164). -/
def execStartUp (s : State) : Host.Outcome State Fault Refusal := .next s.startUp

/-! ### The setup record (R175, R178) -/

/-- A byte of a setup copy. -/
def setupByte (m : Cells) (a : Nat) : Byte := Cells.read zeroByte m a

/-- R178: the defaults of the setup record. -/
def setupDefaults : Cells :=
  Cells.write zeroByte [] 0
    [0x80, 0x00, 0x80, 0x00, 0x80, 0x00, 0x80, 0x00, 0x07, 0x07, 0x07, 0x07, 0x05, 0x00, 0x03, 0xFF]

/-- R175: the share of a link is 0 or 32 … 480. -/
def shareOk (n : Nat) : Bool := decide (n = 0) || (decide (32 ≤ n) && decide (n ≤ 480))

/-- R175: the fields of a setup record are consistent. -/
def setupConsistent (m : Cells) : Bool :=
  (List.finRange 4).all (fun k => shareOk (setupShare m k)) && decide (setupShareSum m ≤ 512)
    && decide ((setupByte m 12).toNat ≤ 9) && decide ((setupByte m 13).toNat ≤ 1)
    && (decide ((setupByte m 15).toNat ≤ 7) || setupByte m 15 == 0xFF)

/-- R175: the setup record is sound. -/
def setupSound (m : Cells) : Bool :=
  decide (Cells.bytes zeroByte m 28 4 = word32Bytes (crc32 (setupFields m))) && setupConsistent m

/-- R178: the fields of a setup record, its ignored and read-only bytes as 0. -/
def takenFields (m : Cells) : Cells := Cells.write zeroByte [] 0 (Cells.bytes zeroByte m 0 16)

/-- R178: the reference source of a setup copy. -/
def setupSource (m : Cells) : RefSource := if setupByte m 13 = 0 then .houseSync else .none

/-- R54: the Timebase starts in FREE_RUN with the rate and source of a setup copy. -/
def startTimebase (m : Cells) : Timebase :=
  { Timebase.reset with
    running := true
    source := setupSource m
    rate := (setupByte m 12).toNat
    period := Config.nominalPeriod (setupByte m 12).toNat }

/-- R175, R183: a link takes its share and role set. -/
def Link.configure (m : Cells) (k : LinkId) (l : Link) : Link :=
  { l with share := setupShare m k, roles := (setupByte m (8 + k.val)).setWidth 3 }

/-- R175: the values of the setup copy `m` are taken and handed to their users. -/
def State.handOut (m : Cells) (o : SetupOutcome) (s : State) : State :=
  let s := s.modPreset fun p => { p with setup := m, setupOutcome := some o }
  let s := (s.modTimebase fun _ => startTimebase m).modBarrier fun b => { b with limit := (setupByte m 14).toNat }
  { s with links := Vector.ofFn fun k : LinkId => s.links[k].configure m k }

/-- R175: the setup record has been read. -/
def State.setupRead (s : State) : State :=
  if setupSound s.flash.setup then s.handOut (takenFields s.flash.setup) .sound
  else (s.handOut setupDefaults .defaults).raise .setup

/-- SETUP_RECORD_READ (R175): the first part of START_UP_READ ends. -/
def execSetupRecordRead (changed : List Host.Cell) (s : State) : Host.Outcome State Fault Refusal :=
  if cellsInside changed Config.setupSize then
    if s.preset.nv = some .startUpRead ∧ s.preset.setupOutcome = none then
      .next ((s.modFlash fun f => { f with setup := Cells.change zeroByte f.setup changed }).setupRead).beginSends
    else .next s.beginSends
  else .fault .noSuchByte

/-! ### The directory scan and the boot preset (R176, R177) -/

/-- R176: the slot was interrupted. -/
def SlotDir.interrupted (d : SlotDir) : Bool := decide (d.state = .storing) || decide (d.state = .erasing)

/-- R176: what the scan makes of a slot record. -/
def SlotDir.scanned (d : SlotDir) : SlotDir := if d.interrupted then { state := .corrupt, info := none } else d

/-- R176: the slot records read from flash into the working copy, those interrupted marked on flash and in the copy. -/
def State.scanDirectory (s : State) : State :=
  let d := Vector.ofFn fun sl : SlotId => s.flash.directory[sl].scanned
  let t := (s.modFlash fun f => { f with directory := d }).modPreset fun p => { p with directory := d }
  if (List.finRange 8).any fun sl => s.flash.directory[sl].interrupted then t.raise .preset else t

/-- R177: the boot preset of the setup copy taken is examined. -/
def State.examineBoot (s : State) : State :=
  match slotOf (setupByte s.preset.setup 15) with
  | none => s.settleBoot .none
  | some sl => if s.slotState sl = .valid then s.startLoad sl .startUp 0 else s.settleBoot .slotNotValid

/-- DIRECTORY_SCAN_END (R176): START_UP_READ ends, and the boot preset is examined. -/
def execDirectoryScanEnd (s : State) : Host.Outcome State Fault Refusal :=
  if s.preset.nv = some .startUpRead ∧ s.preset.setupOutcome.isSome then
    .next (s.scanDirectory.idleNv.examineBoot).beginSends
  else .next s.beginSends

/-! ### Damage (R7) -/

/-- What an unlisted byte of a structure reads as. -/
def targetDefault : CalTarget → Nat → Byte
  | .record _ => defaultByte
  | .header => zeroByte

/-- R5: bytes of a structure of bank `b` changed. -/
def State.changeStructure (b : Bank) (target : CalTarget) (changed : List Host.Cell) (s : State) : State :=
  match target with
  | .record c => s.setRecord b c (Cells.change defaultByte (s.record b c) changed)
  | .header => s.setHeader b (Cells.change zeroByte (s.header b) changed)

/-- The changed bytes at offset `from'` and beyond. -/
def cellsFrom (from' : Nat) (changed : List Host.Cell) : List Host.Cell := changed.filter fun p => decide (from' ≤ p.1)

/-- R153: a pass reads in increasing offset order: what changes at an offset it has not reached, it reads. -/
def State.passSees (b : Bank) (target : CalTarget) (changed : List Host.Cell) (scanned : Nat) (s : State) : State :=
  match s.scanner.pass, target with
  | some p, .record c =>
    if p.chan = c ∧ s.activeBank c = b then
      s.modScanner fun n =>
        { n with pass := some { p with view := Cells.change defaultByte p.view (cellsFrom scanned changed) } }
    else s
  | _, _ => s

/-- R163: where a structure begins in a slot body. -/
def bodyOffset : CalTarget → Nat
  | .record c => Config.headerSize + Config.recordSize * c.val
  | .header => 0

/-- R121: a structure of bank `b` is active. -/
def State.isActive (s : State) (b : Bank) : CalTarget → Bool
  | .record c => decide (s.activeBank c = b)
  | .header => decide (s.staging.setSel = b)

/-- R168: a store reads the active set in the order of the body: what changes at an offset it has not reached, it
stores. -/
def State.storeSees (b : Bank) (target : CalTarget) (changed : List Host.Cell) (stored : Nat) (s : State) : State :=
  if s.storeInFlight && s.isActive b target then
    s.modPreset fun p =>
      { p with
        storing := p.storing.map fun body =>
          body.change ((changed.map fun x => (bodyOffset target + x.1, x.2)).filter fun x => decide (stored ≤ x.1)) }
  else s

/-- MEMORY_DAMAGE (R7): stored bytes change without a request. -/
def execMemoryDamage (b : Bank) (target : CalTarget) (changed : List Host.Cell) (scanned stored : Nat) (s : State) :
    Host.Outcome State Fault Refusal :=
  if cellsInside changed target.size then
    .next (((s.passSees b target changed scanned).storeSees b target changed stored).changeStructure b target
      changed).beginSends
  else .fault .noSuchByte

end Sys2Proof.Machine
end

