-- ==== Sys2Proof/Machine/Timebase.lean ====
section
/-! DEFINITION. The dome timebase: reference edges, the four reference states, scheduled ticks and missing-edge limits
(R51 to R66). -/

namespace Sys2Proof.Machine

/-- R51: the nominal period P of the rate in use. -/
def Timebase.nominal (t : Timebase) : Nat := Config.nominalPeriod t.rate

/-- R53: the interval is good: within P ± floor(P/200). -/
def goodInterval (p interval : Nat) : Bool := decide (p - p / 200 ≤ interval) && decide (interval ≤ p + p / 200)

/-- R53: an interval appended to the history, which holds at most 8. -/
def appendInterval (history : List Nat) (interval : Nat) : List Nat :=
  (history ++ [interval]).drop (history.length + 1 - 8)

/-- R58, R59: floor(S/8) over the history. -/
def meanPeriod (history : List Nat) : Nat := history.sum / 8

/-- R55: the time at which the next scheduled tick is due, outside LOCKED. -/
def Timebase.due (t : Timebase) : Nat := t.lastTick + t.period

/-- The time count reaches `at_`; it never runs backwards (R52). -/
def State.reachTime (at_ : Nat) (s : State) : State := s.modTimebase fun t => { t with now := max t.now at_ }

/-- R57, R63: entry into FREE_RUN. -/
def State.enterFreeRun (s : State) : State :=
  (s.modTimebase fun t =>
    { t with
      state := .freeRun
      period := t.nominal
      history := []
      good := 0
      holdoverTicks := 0
      lastEdge := none
      lastInterval := none }).raise .timebase

/-- R58, R62: entry into LOCKED at an edge, with realignment of the tick; the history already holds the edge's
interval. -/
def State.enterLocked (s : State) : State :=
  let d := s.timebase.now - s.timebase.lastTick
  let e := s.timebase.period
  let s := s.modTimebase fun t =>
    { t with state := .locked, period := meanPeriod t.history, good := 0, holdoverTicks := 0 }
  let s := if e ≤ 2 * d then s.tick else s.modTimebase fun t => { t with lockEdge := some t.now }
  s.raise .timebase

/-- R60, R61: entry into HOLDOVER, with the locked period as the holdover period. -/
def Timebase.enterHoldover (t : Timebase) : Timebase := { t with state := .holdover, good := 0, holdoverTicks := 0 }

/-- R62: a holdover tick is counted and given. -/
def State.holdoverTick (s : State) : State :=
  (s.modTimebase fun t => { t with holdoverTicks := t.holdoverTicks + 1 }).tick

/-- R57: an edge in ACQUIRING, with its interval. -/
def State.edgeAcquiring (interval : Nat) (s : State) : State :=
  if goodInterval s.timebase.nominal interval then
    let s := s.modTimebase fun t => { t with history := appendInterval t.history interval, good := t.good + 1 }
    if 8 ≤ s.timebase.good then s.enterLocked else s
  else s.modTimebase fun t => { t with history := [], good := 0 }

/-- R59, R60: an edge in LOCKED, with its interval. -/
def State.edgeLocked (interval : Nat) (s : State) : State :=
  if goodInterval s.timebase.nominal interval then
    (s.modTimebase fun t =>
      let h := appendInterval t.history interval
      { t with history := h, period := meanPeriod h }).tick
  else
    let s := s.modTimebase Timebase.enterHoldover
    let s := if s.timebase.due ≤ s.timebase.now then s.holdoverTick else s
    s.raise .timebase

/-- R62: an edge in HOLDOVER, with its interval. -/
def State.edgeHoldover (interval : Nat) (s : State) : State :=
  if goodInterval s.timebase.nominal interval then
    let s := s.modTimebase fun t => { t with history := appendInterval t.history interval, good := t.good + 1 }
    if 4 ≤ s.timebase.good then s.enterLocked else s
  else s.modTimebase fun t => { t with good := 0 }

/-- R52: the edge is recorded, with its interval when it has one. -/
def State.recordEdge (interval : Option Nat) (s : State) : State :=
  s.modTimebase fun t =>
    { t with
      lastEdge := some t.now
      lastInterval := match interval with
        | some i => some i
        | none => t.lastInterval }

/-- R52: an edge with an interval, judged by the reference state it finds. -/
def State.judgeEdge (interval : Nat) (s : State) : State :=
  match s.timebase.state with
  | .freeRun => s
  | .acquiring => s.edgeAcquiring interval
  | .locked => s.edgeLocked interval
  | .holdover => s.edgeHoldover interval

/-- R52 to R62: an edge taken while the reference source is HOUSE_SYNC. In FREE_RUN it starts acquisition unjudged
(R56); otherwise it is judged by its interval, and one that has none (R52) is recorded only. -/
def State.takeEdge (s : State) : State :=
  if s.timebase.state = .freeRun then
    ((s.recordEdge none).modTimebase fun t => { t with state := .acquiring, good := 0 }).raise .timebase
  else
    match s.timebase.lastEdge with
    | some e =>
      let interval := s.timebase.now - e
      (s.recordEdge (some interval)).judgeEdge interval
    | none => s.recordEdge none

/-- REFERENCE_EDGE (R52): ignored before the Timebase starts, and with reference source NONE. -/
def execReferenceEdge (elapsed : Nat) (s : State) : Host.Outcome State Fault Refusal :=
  if s.timebase.running then
    let s := s.passTime elapsed
    .next (if s.timebase.source = .houseSync then s.takeEdge else s).beginSends
  else .next s.beginSends

/-- MISSING_EDGE_LIMIT_ACQUIRING (R57): no edge within floor(3·P/2) after the last recorded one. -/
def execMissingEdgeLimitAcquiring (s : State) : Host.Outcome State Fault Refusal :=
  match s.timebase.running, s.timebase.state, s.timebase.lastEdge with
  | true, .acquiring, some e => .next ((s.reachTime (e + 3 * s.timebase.nominal / 2)).enterFreeRun).beginSends
  | _, _, _ => .next s.beginSends

/-- R61: the time from which the missing-edge limit of LOCKED is measured. -/
def Timebase.limitFrom (t : Timebase) : Nat := t.lockEdge.getD t.lastTick

/-- MISSING_EDGE_LIMIT_LOCKED (R61): HOLDOVER is entered, and the first holdover tick is given at once. -/
def execMissingEdgeLimitLocked (s : State) : Host.Outcome State Fault Refusal :=
  if s.timebase.running ∧ s.timebase.state = .locked then
    let s := s.reachTime (s.timebase.limitFrom + 3 * s.timebase.period / 2)
    .next (((s.modTimebase Timebase.enterHoldover).holdoverTick).raise .timebase).beginSends
  else .next s.beginSends

/-- R63: after the 64th holdover tick the Timebase enters FREE_RUN. -/
def State.endHoldover (s : State) : State := if 64 ≤ s.timebase.holdoverTicks then s.enterFreeRun else s

/-- R55, R56, R57, R62: the scheduled tick, at its time. -/
def State.scheduledTick (s : State) : State :=
  let s := s.reachTime s.timebase.due
  if s.timebase.state = .holdover then s.holdoverTick.endHoldover else s.tick

/-- HOLDOVER_TICK_LIMIT (R63): the 64th holdover tick falls due. -/
def execHoldoverTickLimit (s : State) : Host.Outcome State Fault Refusal :=
  if s.timebase.running ∧ s.timebase.state = .holdover ∧ s.timebase.holdoverTicks = 63 then
    .next s.scheduledTick.beginSends
  else .next s.beginSends

/-- FRAME_TICK (R55): a scheduled tick; none is scheduled before the Timebase starts, nor in LOCKED (R58). -/
def execFrameTick (s : State) : Host.Outcome State Fault Refusal :=
  if s.timebase.running ∧ s.timebase.state ≠ .locked then .next s.scheduledTick.beginSends
  else .next s.beginSends

end Sys2Proof.Machine
end

