-- ==== Sys2Proof/Machine/Dispatch.lean ====
section
/-! DEFINITION. The dispatch of a command to its meaning: one arm per row of spec/opcode_table.json. -/

namespace Sys2Proof.Machine

/-- The effect of a command on everything but the queue of commands. -/
def exec (i : Instr) (s : State) : Host.Outcome State Fault Refusal :=
  match i with
  | .startUp => Sys2Proof.Machine.execStartUp s
  | .setupRecordRead changed => Sys2Proof.Machine.execSetupRecordRead changed s
  | .directoryScanEnd => Sys2Proof.Machine.execDirectoryScanEnd s
  | .memoryDamage bank target changed scanned stored => Sys2Proof.Machine.execMemoryDamage bank target changed scanned stored s
  | .referenceEdge elapsed => Sys2Proof.Machine.execReferenceEdge elapsed s
  | .missingEdgeLimitAcquiring => Sys2Proof.Machine.execMissingEdgeLimitAcquiring s
  | .missingEdgeLimitLocked => Sys2Proof.Machine.execMissingEdgeLimitLocked s
  | .holdoverTickLimit => Sys2Proof.Machine.execHoldoverTickLimit s
  | .frameTick => Sys2Proof.Machine.execFrameTick s
  | .frameHeader c elapsed frame channelId width height => Sys2Proof.Machine.execFrameHeader c elapsed frame channelId width height s
  | .line c elapsed pixels => Sys2Proof.Machine.execLine c elapsed pixels s
  | .endOfFrame c elapsed => Sys2Proof.Machine.execEndOfFrame c elapsed s
  | .signalPresent c elapsed => Sys2Proof.Machine.execSignalPresent c elapsed s
  | .signalLost c elapsed => Sys2Proof.Machine.execSignalLost c elapsed s
  | .signalLossLimit c => Sys2Proof.Machine.execSignalLossLimit c s
  | .linkUp k => Sys2Proof.Machine.execLinkUp k s
  | .linkDown k => Sys2Proof.Machine.execLinkDown k s
  | .messageArrival k bytes => Sys2Proof.Machine.execMessageArrival k bytes s
  | .credit k grant => Sys2Proof.Machine.execCredit k grant s
  | .stagingRecordWrite k c offset payload => Sys2Proof.Machine.execStagingRecordWrite k c offset payload s
  | .stagingHeaderWrite k offset payload => Sys2Proof.Machine.execStagingHeaderWrite k offset payload s
  | .setupWrite k offset payload => Sys2Proof.Machine.execSetupWrite k offset payload s
  | .write k region channel offset payload => Sys2Proof.Machine.execWrite k region channel offset payload s
  | .stagingRead k tag target offset length => Sys2Proof.Machine.execStagingRead k tag target offset length s
  | .clear k set => Sys2Proof.Machine.execClear k set s
  | .holdAcquire k tag params => Sys2Proof.Machine.execHoldAcquire k tag params s
  | .holdRelease k tag params => Sys2Proof.Machine.execHoldRelease k tag params s
  | .holdBreak k tag params => Sys2Proof.Machine.execHoldBreak k tag params s
  | .commit k tag params => Sys2Proof.Machine.execCommit k tag params s
  | .commitCancel k tag params => Sys2Proof.Machine.execCommitCancel k tag params s
  | .showLock k tag params => Sys2Proof.Machine.execShowLock k tag params s
  | .showUnlock k tag params => Sys2Proof.Machine.execShowUnlock k tag params s
  | .channelMode k tag params => Sys2Proof.Machine.execChannelMode k tag params s
  | .barrierLimit k tag params => Sys2Proof.Machine.execBarrierLimit k tag params s
  | .presetStore k tag params => Sys2Proof.Machine.execPresetStore k tag params s
  | .presetLoad k tag params => Sys2Proof.Machine.execPresetLoad k tag params s
  | .presetErase k tag params => Sys2Proof.Machine.execPresetErase k tag params s
  | .setupStore k tag params => Sys2Proof.Machine.execSetupStore k tag params s
  | .eventEnable k tag params => Sys2Proof.Machine.execEventEnable k tag params s
  | .messageSent k => Sys2Proof.Machine.execMessageSent k s
  | .serveWaitingRequests => Sys2Proof.Machine.execServeWaitingRequests s
  | .presetRecordLanded changed => Sys2Proof.Machine.execPresetRecordLanded changed s
  | .restoreCopyEnd => Sys2Proof.Machine.execRestoreCopyEnd s
  | .presetStoreEnd => Sys2Proof.Machine.execPresetStoreEnd s
  | .presetEraseEnd => Sys2Proof.Machine.execPresetEraseEnd s
  | .setupStoreEnd => Sys2Proof.Machine.execSetupStoreEnd s
  | .copyBackCopyEnd => Sys2Proof.Machine.execCopyBackCopyEnd s
  | .scanPassEnd => Sys2Proof.Machine.execScanPassEnd s
  | .repairBegin => Sys2Proof.Machine.execRepairBegin s

end Sys2Proof.Machine
end

