-- ==== Sys2Proof/Safety.lean ====
section
/-! DEFINITION. What a sound state of the part is: the laws that the rules state of each block's state, as predicates
that every step keeps, and the conditions on a link under which a message is taken as soon as it arrives. -/

namespace Sys2Proof.Machine

/-! ### Memories in canonical form -/

/-- A slot body in canonical form. -/
abbrev Body.wf (b : Body) : Prop := b.header.wf zeroByte ∧ ∀ c : Chan, b.records[c].wf defaultByte

/-- Every memory of the part is in canonical form: calibration memory, frame memory, the flash, the staged setup copy,
and what a pass and a store have read. -/
abbrev State.memoriesOk (s : State) : Prop :=
  (∀ b : Bank, (s.header b).wf zeroByte ∧ ∀ c : Chan, (s.record b c).wf defaultByte) ∧
  s.frameMem.wf zeroByte ∧
  s.preset.setup.wf zeroByte ∧
  (∀ sl : SlotId, s.flash.bodies[sl].wf) ∧
  s.flash.setup.wf zeroByte ∧
  (∀ p ∈ s.scanner.pass, p.view.wf defaultByte) ∧
  (∀ b ∈ s.preset.storing, b.wf)

/-! ### Links (R191, R192, R198, R205) -/

/-- R191: the units that the posted messages in the receive queue cost. -/
def Link.cost (l : Link) : Nat := (l.rx.map Msg.cost).sum

/-- The laws of one link: the units held are those of its receive queue and never exceed its share (R191); at most 16
requests are outstanding, no two with one tag (R192); the notice credit is at most 15 (R198); notified is a subset of
pending (R205); a DOWN link holds nothing (R186), an UP one has a share (R185). -/
abbrev Link.ok (l : Link) : Prop :=
  l.unitsHeld = l.cost ∧
  l.unitsHeld ≤ l.share ∧
  l.outstanding.length ≤ 16 ∧
  l.outstanding.Nodup ∧
  l.noticeCredit ≤ 15 ∧
  l.notified &&& ~~~l.pending = 0 ∧
  (l.up = false → l.rx = [] ∧ l.wait = [] ∧ l.sendQ = [] ∧ l.sending = none ∧ l.outstanding = [] ∧ l.enabled = 0
    ∧ l.notified = 0) ∧
  (l.up = true → l.share ≠ 0)

/-- The laws of the four links; no link is UP before the boot outcome is settled (R175), and none is settled during
the start-up reads. -/
abbrev State.linksOk (s : State) : Prop :=
  (∀ k : LinkId, s.links[k].ok) ∧
  (s.preset.bootOutcome = none → ∀ k : LinkId, s.links[k].up = false) ∧
  (s.preset.nv = some .startUpRead → s.preset.bootOutcome = none ∧ s.staging.restore = none)

/-! ### Staging (R121 to R126, R139) -/

/-- What a running NV operation means for Staging: a load holds it in LOADING (R124), the start-up reads leave it OPEN
(R123), and no commit is pending while a store is in flight (R124). -/
def Staging.nvOk (g : Staging) : Option NvOp → Bool
  | none => true
  | some .startUpRead => decide (g.state = .openState) && decide (g.restore = none)
  | some (.store _) => decide (g.commit = none)
  | some (.load _ o) => decide (g.state = .loading) && decide (g.owner = some o) && decide (g.restore = none)
  | some (.erase _) => true
  | some .setupStore => true

/-- R139: a link-owned commit belongs to the holder. -/
def CommitOwner.holds (hold : Option LinkId) : CommitOwner → Bool
  | .link k _ => decide (hold = some k)
  | .part => true

/-- The laws of Staging: the owner is absent exactly when it is OPEN (R123), it is COMMIT_PENDING exactly when a commit
is pending (R124), it is COPYBACK exactly when channels are left to copy, a restore is under way only in LOADING; a pending
commit names a channel, and a link-owned one belongs to the holder (R139); the holder's link is UP, and no hold exists
while the show lock is set (R126). -/
abbrev State.stagingOk (s : State) : Prop :=
  (s.staging.owner = none ↔ s.staging.state = .openState) ∧
  (s.staging.commit.isSome ↔ s.staging.state = .commitPending) ∧
  (s.staging.copyList ≠ [] ↔ s.staging.state = .copyBack) ∧
  (s.staging.restore.isSome → s.staging.state = .loading) ∧
  (∀ p ∈ s.staging.commit, p.set ≠ 0 ∧ p.owner.holds s.staging.hold = true) ∧
  (∀ k ∈ s.staging.hold, s.links[k].up = true) ∧
  (s.scanner.lock = true → s.staging.hold = none) ∧
  s.staging.nvOk s.preset.nv = true

/-! ### The scanner (R149, R157) -/

/-- The laws of one channel of the Scanner: IDLE exactly when the lock is clear; reference and repair source are present
together, in CHECKING, and otherwise only in FAULT (R149). -/
abbrev Watch.ok (lock : Bool) (w : Watch) : Prop :=
  (w.state = .idle ↔ lock = false) ∧
  (w.reference.isSome ↔ w.source.isSome) ∧
  (w.state = .checking → w.reference.isSome) ∧
  (w.reference.isSome → w.state = .checking ∨ w.state = .fault)

/-- The laws of the Scanner: the repair queue holds no channel twice and only FAULT channels (R157), and not the channel
under repair, which is FAULT too; no pass, queue or repair exists while the lock is clear (R151). -/
abbrev State.scannerOk (s : State) : Prop :=
  (∀ c : Chan, s.scanner.watch[c].ok s.scanner.lock) ∧
  s.scanner.queue.Nodup ∧
  (∀ c ∈ s.scanner.queue, s.scanner.watch[c].state = .fault) ∧
  (∀ r ∈ s.scanner.repair, s.scanner.watch[r.chan].state = .fault ∧ r.chan ∉ s.scanner.queue) ∧
  (s.scanner.lock = false → s.scanner.pass = none ∧ s.scanner.queue = [] ∧ s.scanner.repair = none)

/-! ### Frame slots and the barrier (R68, R86, R103) -/

/-- R67: the size of a frame that a slot holds. -/
abbrev frameSizeOk (w h : Nat) : Prop := (64 ≤ w ∧ w ≤ 4096) ∧ 64 ≤ h ∧ h ≤ 2160

/-- R67: the fields of a slot record lie in their ranges: lines received are at most the height. -/
def SlotRec.fieldsOk : SlotRec → Bool
  | .filling _ w h lines => decide (frameSizeOk w h ∧ lines ≤ h)
  | .free => true
  | .ready _ w h => decide (frameSizeOk w h)
  | .showing _ w h _ => decide (frameSizeOk w h)

/-- R68: at most one slot is FILLING and at most one SHOWING. -/
abbrev Slots.ok (v : Slots) : Prop :=
  v.toList.countP SlotRec.isFilling ≤ 1 ∧ v.toList.countP SlotRec.isShowing ≤ 1 ∧ v.toList.all SlotRec.fieldsOk = true

/-- R67, R68, R82: the laws of one Capture, whose channel is in mode `m`: the signal-loss limit runs exactly while the
signal is PRESENT. -/
abbrev Capture.ok (m : Mode) (cap : Capture) : Prop :=
  cap.slots.ok ∧ cap.stale ≤ 4 ∧ (m.captures = false → cap.slots = Slots.allFree) ∧
    (cap.lossLimit.isSome ↔ cap.signal = true)

/-- The slot is SHOWING, marked or not, and holds frame `n`. -/
def SlotRec.shows (n : Word32) : SlotRec → Bool
  | .showing m _ _ _ => decide (m = n)
  | _ => false

/-- B is present, and the channel's SHOWING slot holds frame B. -/
def Slots.showsB (v : Slots) : Option Word32 → Bool
  | some n => v.toList.any (SlotRec.shows n)
  | none => false

/-- R86, R89, R103: the laws of one member of the barrier, whose channel is in mode `m` and has slots `v`: its membership
is NONE exactly when it is not LIVE, it has a late count exactly when it is not NONE, only an EXCLUDED channel is a
candidate, and a JOINED channel shows frame B. -/
abbrev Member.ok (b : Option Word32) (m : Mode) (v : Slots) (x : Member) : Prop :=
  (x.membership = .none ↔ m ≠ .live) ∧
  (x.late = none ↔ x.membership = .none) ∧
  (x.candidate = true → x.membership = .excluded) ∧
  (x.membership = .joined → v.showsB b = true)

/-- The laws of Capture and of the Barrier. -/
abbrev State.framesOk (s : State) : Prop :=
  ∀ c : Chan, s.capture[c].ok s.pipes[c].mode ∧
    s.barrier.members[c].ok s.barrier.frame s.pipes[c].mode s.capture[c].slots

/-! ### The preset store (R164 to R166, R174) -/

/-- R165: the fields of a slot record that are present together: in VALID, and in CORRUPT perhaps. -/
def SlotDir.ok (d : SlotDir) : Bool :=
  match d.state with
  | .empty => d.info.isNone
  | .storing => d.info.isNone
  | .valid => d.info.isSome
  | .corrupt => true
  | .erasing => d.info.isNone

/-- The slot that an NV operation loads. -/
def NvOp.loading? : NvOp → Option SlotId
  | .load sl _ => some sl
  | _ => none

/-- The laws of the Preset store: a slot is STORING or ERASING exactly while that operation is in flight on it (R174), a
slot being loaded is VALID (R169, R158, R177); load progress is present exactly during a load (R164), and no requester
without an operation; the slot records hold the fields of their states (R165), on flash as in the working copy. -/
abbrev State.presetOk (s : State) : Prop :=
  (∀ sl : SlotId, (s.slotState sl = .storing ↔ s.preset.nv = some (.store sl)) ∧
    (s.slotState sl = .erasing ↔ s.preset.nv = some (.erase sl)) ∧
    (s.preset.nv.bind NvOp.loading? = some sl → s.slotState sl = .valid) ∧
    s.preset.directory[sl].ok = true ∧ s.flash.directory[sl].ok = true) ∧
  (s.preset.progress.isSome ↔ (s.preset.nv.bind NvOp.loading?).isSome) ∧
  (s.preset.requester.isSome → s.preset.nv.isSome) ∧
  (s.preset.nv ≠ some .startUpRead → s.preset.directory = s.flash.directory) ∧
  (s.preset.setupOutcome = none → s.preset.nv = some .startUpRead)

/-! ### The timebase (R53 to R63) -/

/-- The laws of the Timebase: every interval of the history is good, so that the locked period lies in the good interval
range (R53); outside LOCKED and HOLDOVER the period in use is P (R55), in them the history is full (R59); the counts of
good intervals and of holdover ticks stay below those that end their states (R58, R62, R63); FREE_RUN holds no history,
no recorded edge and no last interval (R57, R63, R66), and is never left with reference source NONE (R56). -/
abbrev Timebase.ok (t : Timebase) : Prop :=
  t.rate ≤ 9 ∧
  t.history.length ≤ 8 ∧
  (∀ i ∈ t.history, goodInterval t.nominal i = true) ∧
  (t.state = .freeRun ∨ t.state = .acquiring → t.period = t.nominal) ∧
  (t.state = .locked ∨ t.state = .holdover → t.history.length = 8 ∧ goodInterval t.nominal t.period = true) ∧
  (t.state = .freeRun → t.history = [] ∧ t.lastEdge = none ∧ t.lastInterval = none ∧ t.good = 0) ∧
  (t.state = .acquiring → t.good = t.history.length ∧ t.good < 8) ∧
  (t.state = .locked → t.good = 0) ∧
  (t.state = .holdover → t.good < 4) ∧
  t.holdoverTicks < 64 ∧
  (t.state ≠ .holdover → t.holdoverTicks = 0) ∧
  (t.source = .none → t.state = .freeRun)

/-! ### Links on which a message is taken at once -/

/-- Nothing waits on any link or in Staging: every message is taken as it arrives, and no request waits for another. -/
abbrev State.calm (s : State) : Prop := s.staging.waiting = [] ∧ ∀ k : LinkId, s.links[k].rx = []

/-- R192: link `k` is UP and has room for a request with this tag. -/
abbrev State.canAsk (s : State) (k : LinkId) (tag : Byte) : Prop :=
  s.links[k].up = true ∧ s.links[k].outstanding.length < 16 ∧ tag ∉ s.links[k].outstanding

/-- R191: link `k` is UP and has units for a posted message. -/
abbrev State.canPost (s : State) (k : LinkId) (m : Msg) : Prop :=
  s.links[k].up = true ∧ m.cost ≤ s.links[k].share - s.links[k].unitsHeld

/-- R187, R190, R192: a COMMAND with these parameters, which a role of `permitted` permits, is taken by its owner as soon
as it arrives on link `k`. -/
abbrev State.takes (s : State) (k : LinkId) (tag : Byte) (permitted : BitVec 3) (params : List Byte) : Prop :=
  s.calm ∧ s.canAsk k tag ∧ params.length ≤ 16 ∧ hasRole s.links[k].roles permitted = true

/-- R192: the state with a request of this tag outstanding on link `k`. -/
def State.asked (k : LinkId) (tag : Byte) (s : State) : State :=
  s.modLink k fun l => { l with outstanding := l.outstanding ++ [tag] }

/-- R195, R196: the request with this tag on link `k` completes, and every idle link sends. -/
def State.reply (k : LinkId) (tag : Byte) (status : Status) (payload : List Byte) (s : State) : State :=
  (s.complete k tag status payload).beginSends

/-- R71, R73: the state after an arrival other than signal lost at port `c`, `elapsed` after the last time-stamped step:
the signal is PRESENT, and its limit runs anew. -/
def State.seen (c : Chan) (elapsed : Nat) (s : State) : State :=
  let u := { s with timebase := { s.timebase with now := s.timebase.now + elapsed } }.modCapture c fun cap =>
    { cap with signal := true, lossLimit := some (s.timebase.now + elapsed + 2 * s.timebase.period) }
  if s.capture[c].signal then u else u.raise .input

/-- R81: the state after the fill in slot `i` of channel `c` has failed for a reason. -/
def State.fillFailed (c : Chan) (i : SlotIx) (reason : InputReason) (s : State) : State :=
  (s.modCapture c fun cap => { cap with slots := cap.slots.set i .free, lastReason := reason }).raise .input

/-- R75: the state after an input reason of channel `c` has been recorded, with its INPUT event. -/
def State.noted (c : Chan) (reason : InputReason) (s : State) : State :=
  (s.modCapture c fun cap => { cap with lastReason := reason }).raise .input

/-- R194, R196: the request is kept in the wait list of link `k`, and every idle link sends. -/
def State.kept (k : LinkId) (m : Msg) (s : State) : State := (s.keep k m).beginSends

/-- R191, R197: the state with the units of a posted message on their way back to the master of link `k`. -/
def State.returned (k : LinkId) (m : Msg) (s : State) : State :=
  s.modLink k fun l => { l with unitsReturn := l.unitsReturn + m.cost }.returnCredit

/-- R201: the state after a posted message of link `k` has been refused. -/
def State.refused (k : LinkId) (m : Msg) (status : Status) (s : State) : State :=
  ((s.returned k m).modLink k (Link.recordRefusal status m)).raiseOn k .refused

/-- The outcome is a next state, of which `P` holds. -/
def yields (o : Host.Outcome State Fault Refusal) (P : State → Prop) : Prop := ∃ t, o = .next t ∧ P t

/-- The message that a row naming one request stands for, with its link. -/
def requestOf : Instr → Option (LinkId × Msg)
  | .stagingRecordWrite k c offset payload => some (k, .write 0 (targetChannel (.record c)) offset payload)
  | .stagingHeaderWrite k offset payload => some (k, .write 2 0 offset payload)
  | .setupWrite k offset payload => some (k, .write 4 0 offset payload)
  | .write k region channel offset payload => some (k, .write region channel offset payload)
  | .stagingRead k tag target offset length =>
    some (k, .read tag (targetRegion target) (targetChannel target) offset length)
  | .clear k set => some (k, .clear set)
  | .holdAcquire k tag params => some (k, .command tag 0x01 params)
  | .holdRelease k tag params => some (k, .command tag 0x02 params)
  | .holdBreak k tag params => some (k, .command tag 0x03 params)
  | .commit k tag params => some (k, .command tag 0x04 params)
  | .commitCancel k tag params => some (k, .command tag 0x05 params)
  | .showLock k tag params => some (k, .command tag 0x06 params)
  | .showUnlock k tag params => some (k, .command tag 0x07 params)
  | .channelMode k tag params => some (k, .command tag 0x08 params)
  | .barrierLimit k tag params => some (k, .command tag 0x09 params)
  | .presetStore k tag params => some (k, .command tag 0x0A params)
  | .presetLoad k tag params => some (k, .command tag 0x0B params)
  | .presetErase k tag params => some (k, .command tag 0x0C params)
  | .setupStore k tag params => some (k, .command tag 0x0D params)
  | .eventEnable k tag params => some (k, .command tag 0x0E params)
  | .startUp | .setupRecordRead _ | .directoryScanEnd | .memoryDamage _ _ _ _ _ | .referenceEdge _
  | .missingEdgeLimitAcquiring | .missingEdgeLimitLocked | .holdoverTickLimit | .frameTick | .frameHeader _ _ _ _ _ _
  | .line _ _ _ | .endOfFrame _ _ | .signalPresent _ _ | .signalLost _ _ | .signalLossLimit _ | .linkUp _ | .linkDown _
  | .messageArrival _ _ | .credit _ _ | .messageSent _ | .serveWaitingRequests | .presetRecordLanded _ | .restoreCopyEnd
  | .presetStoreEnd | .presetEraseEnd | .setupStoreEnd | .copyBackCopyEnd | .scanPassEnd | .repairBegin => none

/-- R165: the changes of a slot's state. -/
def slotMoves : List (SlotState × SlotState) :=
  [(.empty, .storing), (.storing, .valid), (.valid, .corrupt), (.valid, .erasing), (.corrupt, .erasing),
    (.erasing, .empty)]

/-- The row of a WRITE to a structure of staging. -/
def writeCommand (k : LinkId) (offset : Word32) (payload : List Byte) : CalTarget → Instr
  | .record c => .stagingRecordWrite k c offset payload
  | .header => .stagingHeaderWrite k offset payload

/-- The message of a WRITE to a structure of staging. -/
def writeMsg (offset : Word32) (payload : List Byte) (target : CalTarget) : Msg :=
  .write (targetRegion target) (targetChannel target) offset payload

/-- R132: the effect of an applied WRITE to a structure of staging. -/
def State.writeTarget (offset : Nat) (payload : List Byte) (target : CalTarget) (s : State) : State :=
  match target with
  | .record c => s.writeRecord c offset payload
  | .header => s.writeHeader offset payload

/-- The bytes of a structure of staging. -/
def State.targetBytes (s : State) : CalTarget → List Byte
  | .record c => Rec.bytes (s.stagingRecord c)
  | .header => Cells.bytes zeroByte s.stagingHeader 0 Config.headerSize

/-- The commands at which a frame tick may be given, and those that change calibration memory without a request: the
only ones that reach the active records (R7, R26, R142). -/
def mayChangeActive : Instr → Bool
  | .startUp | .memoryDamage _ _ _ _ _ | .frameTick | .referenceEdge _ | .missingEdgeLimitLocked
  | .holdoverTickLimit => true
  | .setupRecordRead _ | .directoryScanEnd | .missingEdgeLimitAcquiring | .frameHeader _ _ _ _ _ _ | .line _ _ _
  | .endOfFrame _ _ | .signalPresent _ _ | .signalLost _ _ | .signalLossLimit _ | .linkUp _ | .linkDown _
  | .messageArrival _ _ | .credit _ _ | .stagingRecordWrite _ _ _ _ | .stagingHeaderWrite _ _ _ | .setupWrite _ _ _
  | .write _ _ _ _ _ | .stagingRead _ _ _ _ _ | .clear _ _ | .holdAcquire _ _ _ | .holdRelease _ _ _
  | .holdBreak _ _ _ | .commit _ _ _ | .commitCancel _ _ _ | .showLock _ _ _ | .showUnlock _ _ _ | .channelMode _ _ _
  | .barrierLimit _ _ _ | .presetStore _ _ _ | .presetLoad _ _ _ | .presetErase _ _ _ | .setupStore _ _ _
  | .eventEnable _ _ _ | .messageSent _ | .serveWaitingRequests | .presetRecordLanded _ | .restoreCopyEnd
  | .presetStoreEnd | .presetEraseEnd | .setupStoreEnd | .copyBackCopyEnd | .scanPassEnd | .repairBegin => false

end Sys2Proof.Machine
end

