-- ==== Sys2Proof/Certificates/Slice0/Obligations.lean ====
section
/-! DEFINITION. The statements for the provers, from the numbered rules of spec/. A request's own statement is over the
states in which it is taken as soon as it arrives (`State.takes`, `State.calm`); `s.asked k tag` is such a state with the
request outstanding (R192), `reply` its completion (R195, R196) and `kept` its entry into the wait list (R194). An
equation with a next state is also its frame: what it does not write stays as it was. Times in the statements are counted
as notes/assumptions/2.md says. -/

open Sys2Proof Sys2Proof.Machine

/-! ### The step and the commands -/

/-- A step takes the command at the front of the queue and runs it on the state with the queue's rest. -/
def Obligations.StepRunsTheFrontCommand : Prop :=
  ∀ (c : Instr) (rest : List Instr) (s : State), s.pending = c :: rest → step s = exec c { s with pending := rest }

/-- Every well-formed command runs, and changes nothing in the queue of commands; none is refused. The one fault, of a
command that names a byte outside its structure, is the model's choice (notes/assumptions/30.md). -/
def Obligations.EveryWellFormedCommandRuns : Prop :=
  ∀ (c : Instr) (s : State),
    (c.wellFormed = true → ∃ t, exec c s = .next t) ∧
    (∀ t, exec c s = .next t → t.pending = s.pending) ∧
    (∀ f, exec c s = .fault f → f = .noSuchByte ∧ c.wellFormed = false) ∧
    ∀ r, exec c s ≠ .refused r

/-! ### Reset and the laws that every step keeps -/

/-- START_UP gives every block its reset values and keeps the flash (R163) and the frame memory (notes/assumptions/7.md);
the values that the spec gives after power-on: R54 (Timebase), R67 (Capture), R86 (Barrier), R105 (Pipelines), R26 and
R121 (calibration memory and selectors), R123 (Staging), R149 (Scanner), R164 (Preset store), R183 and R205 (links). The
values before the start-up reads (notes/assumptions/5.md and 6.md) are the model's and are not listed. -/
def Obligations.ResetValues : Prop :=
  let s := State.reset
  (∀ u : State, exec .startUp u = .next { s with pending := u.pending, flash := u.flash, frameMem := u.frameMem }) ∧
  (s.timebase.running = false ∧ s.timebase.tickCount = 0 ∧ s.timebase.history = [] ∧ s.timebase.good = 0 ∧
    s.timebase.holdoverTicks = 0 ∧ s.timebase.lastEdge = none ∧ s.timebase.lastInterval = none) ∧
  (∀ c : Chan, s.capture[c].slots = #v[.free, .free, .free] ∧ s.capture[c].signal = false ∧
    s.capture[c].lossLimit = none ∧ s.capture[c].stale = 0 ∧ s.capture[c].lastReason = .none) ∧
  (∀ c : Chan, s.barrier.members[c] = { membership := .none, candidate := false, late := none }) ∧
  (s.barrier.frame = none ∧ s.barrier.pendingLimit = none ∧ s.barrier.pendingReq = none) ∧
  (∀ c : Chan, s.pipes[c].mode = .off ∧ s.pipes[c].pendingMode = none ∧ s.pipes[c].pendingReq = none ∧
    s.pipes[c].modeTick = none ∧ s.pipes[c].frame = none) ∧
  (∀ (b : Bank) (a : Nat), Cells.read zeroByte (s.header b) a = 0 ∧
    ∀ c : Chan, Cells.read defaultByte (s.record b c) a = defaultByte a) ∧
  ((∀ c : Chan, s.staging.sel[c] = 0) ∧ s.staging.setSel = 0) ∧
  (s.staging.state = .openState ∧ s.staging.owner = none ∧ s.staging.hold = none ∧ s.staging.commit = none ∧
    s.staging.copyList = [] ∧ s.staging.gen = 0) ∧
  (s.scanner.lock = false ∧ s.scanner.pass = none ∧ s.scanner.queue = [] ∧ s.scanner.repair = none ∧
    s.scanner.report = .none) ∧
  (∀ c : Chan, s.scanner.watch[c] = { state := .idle, reference := none, source := none, checks := 0 }) ∧
  (s.preset.nv = some .startUpRead ∧ s.preset.requester = none ∧ s.preset.progress = none) ∧
  (∀ k : LinkId, s.links[k].up = false ∧ s.links[k].rx = [] ∧ s.links[k].unitsHeld = 0 ∧ s.links[k].outstanding = [] ∧
    s.links[k].wait = [] ∧ s.links[k].sendQ = [] ∧ s.links[k].unitsReturn = 0 ∧ s.links[k].countsReturn = 0 ∧
    s.links[k].noticeCredit = 0 ∧ s.links[k].lastRefusal = none ∧ s.links[k].lastFault = none ∧
    s.links[k].pending = 0 ∧ s.links[k].enabled = 0 ∧ s.links[k].notified = 0)

/-- The state after reset meets every law below. -/
def Obligations.ResetMeetsTheLaws : Prop :=
  State.reset.memoriesOk ∧ State.reset.linksOk ∧ State.reset.stagingOk ∧ State.reset.scannerOk ∧
    State.reset.framesOk ∧ State.reset.presetOk ∧ State.reset.timebase.ok

/-- The memories of the part keep their canonical form. -/
def Obligations.StepKeepsMemoriesCanonical : Prop :=
  ∀ s t : State, s.memoriesOk → step s = .next t → t.memoriesOk

/-- The units held never exceed the share and are those of the receive queue (R191), at most 16 requests are outstanding
and no two with one tag (R192), the notice credit is at most 15 (R198), notified is a subset of pending (R205), a DOWN
link holds nothing (R186), and no link is UP before the boot outcome is settled (R175). -/
def Obligations.StepKeepsLinkLaws : Prop :=
  ∀ s t : State, s.linksOk → step s = .next t → t.linksOk

/-- The operation owner is absent exactly when staging is OPEN (R123); a commit is pending exactly in COMMIT_PENDING, and
no store is in flight then (R124); a link-owned commit belongs to the holder (R139); the holder's link is UP, and no hold
exists while the show lock is set (R126). The laws of the links are a premise. -/
def Obligations.StepKeepsStagingLaws : Prop :=
  ∀ s t : State, s.linksOk → s.stagingOk → step s = .next t → t.stagingOk

/-- IDLE exactly while the lock is clear (R149); the repair queue holds no channel twice and only FAULT channels (R157); no
pass, queue or repair exists while the lock is clear (R151). -/
def Obligations.StepKeepsScannerLaws : Prop :=
  ∀ s t : State, s.scannerOk → step s = .next t → t.scannerOk

/-- At most one slot of a channel is FILLING and one SHOWING (R68); an OFF or STANDBY channel has all slots FREE (R82); a
channel has a membership exactly when it is LIVE, and a JOINED channel shows frame B (R87). -/
def Obligations.StepKeepsFrameLaws : Prop :=
  ∀ s t : State, s.framesOk → step s = .next t → t.framesOk

/-- A slot is STORING or ERASING exactly while that operation is in flight on it, and a slot being loaded is VALID
(R174); the working copy of the directory and the flash agree after the start-up scan (R164). -/
def Obligations.StepKeepsPresetLaws : Prop :=
  ∀ s t : State, s.presetOk → step s = .next t → t.presetOk

/-- Every interval of the history is good and the locked period lies in the good interval range (R53); the history is
full in LOCKED and HOLDOVER (R59); with reference source NONE the Timebase stays in FREE_RUN (R56). -/
def Obligations.StepKeepsTimebaseLaws : Prop :=
  ∀ s t : State, s.timebase.ok → step s = .next t → t.timebase.ok

/-! ### Rules over all commands -/

/-- The selectors and the active structures change at no command but the ones that can give a tick (R142), damage (R7)
and start-up (R26): what staging writes, loads and copies do stays in staging (R27, R132). -/
def Obligations.OnlyTicksAndDamageChangeActiveRecords : Prop :=
  ∀ (c : Instr) (s t : State), mayChangeActive c = false → exec c s = .next t →
    t.staging.sel = s.staging.sel ∧ t.staging.setSel = s.staging.setSel ∧ t.activeHeader = s.activeHeader ∧
      ∀ x : Chan, t.activeRecord x = s.activeRecord x

/-- The set generation rises by 1 at the activation of a pending commit, and has no other cause of change but start-up
(R145). -/
def Obligations.GenerationCountsActivations : Prop :=
  ∀ (c : Instr) (s t : State), exec c s = .next t → t.staging.gen ≠ s.staging.gen →
    c = .startUp ∨
      (t.staging.gen = s.staging.gen + 1 ∧ t.staging.setSel = otherBank s.staging.setSel ∧ t.staging.state = .copyBack ∧
        ∃ p, s.staging.commit = some p ∧ ∀ x : Chan, t.staging.sel[x] ≠ s.staging.sel[x] ↔ p.set.getLsbD x.val = true)

/-- A slot's state changes only as R165's table says; the scan of START_UP_READ has its own statement. -/
def Obligations.SlotStatesFollowTheTable : Prop :=
  ∀ (c : Instr) (s t : State) (sl : SlotId), s.presetOk → c ≠ .startUp → c ≠ .directoryScanEnd → exec c s = .next t →
    t.slotState sl = s.slotState sl ∨ (s.slotState sl, t.slotState sl) ∈ slotMoves

/-- A row that names one request is the arrival of that request's message, and CREDIT that of a CREDIT from the master
(notes/assumptions/10.md). -/
def Obligations.NamedRequestsAreArrivals : Prop :=
  (∀ (c : Instr) (s : State) (k : LinkId) (m : Msg), requestOf c = some (k, m) → c.wellFormed = true →
    exec c s = exec (.messageArrival k m.bytes) s) ∧
  ∀ (k : LinkId) (grant : Byte) (s : State),
    exec (.credit k grant) s =
      exec (.messageArrival k (sealMessage [kindCredit, 0, 0, 0, grant, 0, 0, 0, 0, 0, 0, 0, 0, 0] [])) s

/-! ### Messages, credits and events -/

/-- R184, R187: what a link reads from the bytes of a message from a master is that message, every field of it. -/
def Obligations.MessagesReadBack : Prop :=
  (∀ (region channel : Byte) (offset : Word32) (payload : List Byte), payload.length ≤ 256 →
    readArrival (Msg.write region channel offset payload).bytes = .msg (.write region channel offset payload)) ∧
  (∀ set : BitVec 32, readArrival (Msg.clear set).bytes = .msg (.clear set)) ∧
  (∀ (tag region channel : Byte) (offset : Word32) (length : BitVec 16),
    readArrival (Msg.read tag region channel offset length).bytes = .msg (.read tag region channel offset length)) ∧
  (∀ (tag code : Byte) (params : List Byte), params.length ≤ 16 →
    readArrival (Msg.command tag code params).bytes = .msg (.command tag code params))

/-- Messages that enter no queue: on a DOWN link nothing is delivered; a message of wrong length or CRC-16 raises LINE
(R184); one of bad form is a protocol fault KIND or LENGTH (R188), recorded with its kind and raising PROTOCOL (R202). -/
def Obligations.DiscardedMessages : Prop :=
  ∀ (s : State) (k : LinkId) (bytes : List Byte),
    let n := field bytes 8 2
    let sound := 16 ≤ bytes.length ∧ n ≤ 256 ∧ bytes.length = 16 + n ∧
      (crc16 (bytes.take 14 ++ bytes.drop 16)).toNat = field bytes 14 2
    let fault := fun reason =>
      exec (.messageArrival k bytes) s =
        .next ((s.modLink k fun l => { l with lastFault := some (reason, byteAt bytes 0) }).raiseOn k .protocol).beginSends
    (s.links[k].up = false → exec (.messageArrival k bytes) s = .next s.beginSends) ∧
    (s.links[k].up = true → ¬ sound → exec (.messageArrival k bytes) s = .next (s.raiseOn k .line).beginSends) ∧
    (s.links[k].up = true → sound → byteAt bytes 0 ∉ ([1, 2, 3, 4, 5] : List Byte) → fault .kind) ∧
    (s.links[k].up = true → sound → byteAt bytes 0 ∈ ([2, 3, 5] : List Byte) → n ≠ 0 → fault .length) ∧
    (s.links[k].up = true → sound → byteAt bytes 0 = 4 → 16 < n → fault .length)

/-- A posted message needs units (R191), a non-posted request one of 16 places and a tag that is not in use (R192); what
fails is a protocol fault and nothing else; what passes joins the queue, holding its units or its place and tag, and
behind another message nothing more happens. A WRITE of n bytes costs 1 + ceil(n/16) units, a CLEAR one. -/
def Obligations.ArrivalsPassTheCreditChecks : Prop :=
  (∀ (region channel : Byte) (offset : Word32) (payload : List Byte) (set : BitVec 32),
    let cost := (Msg.write region channel offset payload).cost
    (1 ≤ cost ∧ payload.length ≤ 16 * (cost - 1) ∧ 16 * (cost - 1) < payload.length + 16 ∧ (Msg.clear set).cost = 1)) ∧
  ∀ (s : State) (k : LinkId) (bytes : List Byte) (m : Msg), readArrival bytes = .msg m → s.links[k].up = true →
    let l := s.links[k]
    let fault := fun reason =>
      exec (.messageArrival k bytes) s =
        .next ((s.modLink k fun l => { l with lastFault := some (reason, m.kindCode) }).raiseOn k .protocol).beginSends
    (m.tag? = none → l.share - l.unitsHeld < m.cost → fault .units) ∧
    (m.tag? = none → m.cost ≤ l.share - l.unitsHeld → l.rx ≠ [] →
      exec (.messageArrival k bytes) s =
        .next (s.modLink k fun l => { l with rx := l.rx ++ [m], unitsHeld := l.unitsHeld + m.cost }).beginSends) ∧
    ∀ tag, m.tag? = some tag →
      (16 ≤ l.outstanding.length → fault .count) ∧
      (l.outstanding.length < 16 → tag ∈ l.outstanding → fault .tag) ∧
      (l.outstanding.length < 16 → tag ∉ l.outstanding → l.rx ≠ [] →
        exec (.messageArrival k bytes) s =
          .next (s.modLink k fun l =>
            { l with rx := l.rx ++ [m], outstanding := l.outstanding ++ [tag] }).beginSends)

/-- The order of judgement of R190 for the requests that it refuses itself: the code, then the role, then the bounds. A
refused READ is one part whose offset field is 0, the model's choice (notes/assumptions/36.md). R122, R179, R199, R211,
R212: a READ that passes them and names ACTIVE_RECORD, ACTIVE_HEADER, SETUP, STATUS or DIRECTORY completes at once, in
every state of the part, with the bytes of its region from its offset, for its length, as they stand then. -/
def Obligations.RefusedRequests : Prop :=
  ∀ (s : State) (k : LinkId) (tag : Byte) (raw : List Byte), s.calm → s.canAsk k tag →
    let refused := fun status => exec (.messageArrival k raw) s = .next ((s.asked k tag).reply k tag status [])
    (∀ (code : Byte) (params : List Byte), readArrival raw = .msg (.command tag code params) →
      (code = 0 ∨ 14 < code.toNat → refused .invalid) ∧
      (code ∈ ([1, 2, 4, 5, 0x0B, 0x0C] : List Byte) → s.links[k].roles &&& roleAlign = 0 → refused .denied) ∧
      (code ∈ ([3, 6, 7, 8, 9, 0x0D] : List Byte) → s.links[k].roles &&& roleShow = 0 → refused .denied) ∧
      (code = 0x0A → s.links[k].roles &&& (roleAlign ||| roleShow) = 0 → refused .denied) ∧
      (code = 0x0E → s.links[k].roles &&& roleView = 0 → refused .denied)) ∧
    ∀ (region channel : Byte) (offset : Word32) (length : BitVec 16),
      readArrival raw = .msg (.read tag region channel offset length) →
      (regionOf region channel = none → refused .invalid) ∧
      ∀ r, regionOf region channel = some r →
        (s.links[k].roles &&& roleView = 0 → refused .denied) ∧
        (s.links[k].roles &&& roleView ≠ 0 →
          (length = 0 ∨ 4096 < length.toNat ∨ r.length < offset.toNat + length.toNat) → refused .invalid) ∧
        (s.links[k].roles &&& roleView ≠ 0 → length ≠ 0 → length.toNat ≤ 4096 →
          offset.toNat + length.toNat ≤ r.length →
          let p := s.asked k tag
          let answered := fun bytes : List Byte =>
            let content := (bytes.drop offset.toNat).take length.toNat
            exec (.messageArrival k raw) s = .next ((p.modLink k fun l =>
              { l with
                wait := l.wait.filter fun m => m.tag? ≠ some tag
                sendQ := l.sendQ ++
                  [.completion tag .success offset (content.take 256) (content.drop 256)] }).beginSends)
          let fields := Cells.bytes zeroByte s.preset.setup 0 28
          let entry := fun d : SlotDir =>
            [d.state.code, 0, 0, 0] ++
              (match d.info with
              | some i => word32Bytes i.gen ++ i.name ++ i.crcs.toList.flatMap word32Bytes
              | none => List.replicate 44 0) ++ List.replicate 16 0
          (∀ c, r = .activeRecord c → answered (Cells.bytes defaultByte (s.activeRecord c) 0 103498)) ∧
          (r = .activeHeader → answered (Cells.bytes zeroByte s.activeHeader 0 32)) ∧
          (r = .setup → answered (fields ++ word32Bytes (crc32 fields))) ∧
          (r = .directory → answered (s.preset.directory.toList.flatMap entry)) ∧
          (r = .status → answered (statusBytes p) ∧ (statusBytes p).length = 1024 ∧
            let at_ := fun a n : Nat => ((statusBytes p).drop a).take n
            at_ 0 1 = [s.timebase.state.code] ∧ at_ 8 4 = word32Bytes s.timebase.tickCount ∧
            at_ 36 4 = word32Bytes (s.barrier.frame.getD 0) ∧ at_ 48 1 = [s.staging.state.code] ∧
            at_ 68 4 = word32Bytes s.staging.gen ∧ at_ 96 1 = [if s.scanner.lock then 0 else 1] ∧
            at_ 128 1 = [(s.preset.nv.map NvOp.code).getD 0xFF] ∧
            (∀ c : Chan, at_ (256 + 64 * c.val) 1 = [s.pipes[c].mode.code] ∧
              at_ (261 + 64 * c.val) 1 = [s.barrier.members[c].membership.code] ∧
              at_ (271 + 64 * c.val) 1 = [s.scanner.watch[c].state.code]) ∧
            ∀ j : LinkId, at_ (640 + 32 * j.val) 1 = [if s.links[j].up then 1 else 0] ∧
              at_ (648 + 32 * j.val) 1 = [BitVec.ofNat 8 p.links[j].outstanding.length] ∧
              at_ (654 + 32 * j.val) 2 = leBytes 2 s.links[j].pending.toNat))

/-- R206: a shared kind raised on the four links, UP or DOWN: it becomes pending; where it was pending nothing changes;
where it was not, a notice is made exactly when R207's two conditions hold. -/
def Obligations.RaisesAndNotices : Prop :=
  ∀ (s : State) (e : EventKind) (j : LinkId),
    let l := s.links[j]
    let list := l.enabled &&& (l.pending ||| e.bit)
    (s.raise e).links[j] =
      (if l.pending &&& e.bit = e.bit then l
      else if l.up = true ∧ list &&& ~~~l.notified ≠ 0 ∧ 1 ≤ l.noticeCredit then
        { l with
          pending := l.pending ||| e.bit
          notified := l.notified ||| list
          noticeCredit := l.noticeCredit - 1
          sendQ := l.sendQ ++ [.notice list] }
      else { l with pending := l.pending ||| e.bit }) ∧
    (s.raiseOn j e).links[j] = (s.raise e).links[j] ∧
    (∀ i : LinkId, i ≠ j → (s.raiseOn j e).links[i] = s.links[i]) ∧
    s.raise e = { s with links := (s.raise e).links } ∧ s.raiseOn j e = { s with links := (s.raiseOn j e).links }

/-- R198: a CREDIT adds its notice credit, and may bring a notice (R207); one that would exceed 15 is a protocol fault. -/
def Obligations.CreditAddsNoticeCredit : Prop :=
  ∀ (s : State) (k : LinkId) (grant : Byte), s.links[k].up = true →
    (15 < s.links[k].noticeCredit + grant.toNat →
      exec (.credit k grant) s =
        .next ((s.modLink k fun l => { l with lastFault := some (.noticeCredit, 5) }).raiseOn k .protocol).beginSends) ∧
    (s.links[k].noticeCredit + grant.toNat ≤ 15 →
      let l := s.links[k]
      let l' := { l with noticeCredit := l.noticeCredit + grant.toNat }
      exec (.credit k grant) s =
        .next (s.modLink k fun _ =>
          if l.enabled &&& l.pending &&& ~~~l.notified ≠ 0 ∧ 1 ≤ l'.noticeCredit then
            { l' with
              notified := l.notified ||| (l.enabled &&& l.pending)
              noticeCredit := l'.noticeCredit - 1
              sendQ := l.sendQ ++ [.notice (l.enabled &&& l.pending)] }
          else l').beginSends)

/-- R209: a CLEAR taken: its kinds leave the pending and notified sets of its own link, and its unit is returned. R208:
EVENT_ENABLE taken: fewer than four parameter bytes complete INVALID; otherwise the enabled set is replaced whole, the
completion carries the pending set, and a notice that the change calls for stands behind it. -/
def Obligations.ClearAndEventEnableChangeTheSets : Prop :=
  (∀ (s : State) (k : LinkId) (set : BitVec 32), s.calm → s.canPost k (.clear set) →
    exec (.clear k set) s =
      .next ((s.modLink k fun l =>
        { l with
          pending := l.pending &&& ~~~(set.setWidth 11)
          notified := l.notified &&& ~~~(set.setWidth 11) }).returned k (.clear set)).beginSends) ∧
  ∀ (s : State) (k : LinkId) (tag : Byte) (ps : List Byte), s.takes k tag roleView ps →
    (ps.length < 4 → exec (.eventEnable k tag ps) s = .next ((s.asked k tag).reply k tag .invalid [])) ∧
    ∀ (b0 b1 b2 b3 : Byte) (rest : List Byte), ps = b0 :: b1 :: b2 :: b3 :: rest →
      let l := s.links[k]
      let on : KindSet := BitVec.ofNat 11 (b0.toNat + 256 * b1.toNat)
      let l' := { l with
        outstanding := l.outstanding ++ [tag]
        enabled := on
        wait := l.wait.filter fun m => m.tag? ≠ some tag
        sendQ := l.sendQ ++ [.completion tag .success 0 (leBytes 4 l.pending.toNat) []] }
      exec (.eventEnable k tag ps) s =
        .next (s.modLink k fun _ =>
          if on &&& l.pending &&& ~~~l.notified ≠ 0 ∧ 1 ≤ l.noticeCredit then
            { l' with
              notified := l.notified ||| (on &&& l.pending)
              noticeCredit := l.noticeCredit - 1
              sendQ := l'.sendQ ++ [.notice (on &&& l.pending)] }
          else l').beginSends

/-- The completions and credits of a link (R195 to R197, R199): a completion made on an UP link leaves the wait list and
joins the send queue, its content in parts of at most 256 bytes; units on their way back append one open CREDIT.
MESSAGE_SENT: after a part that is not the last the next part joins the send queue, 256 bytes on; after the last the
request's place and tag are free and a count is on its way back; the next message then begins. -/
def Obligations.CompletionsAreSent : Prop :=
  (∀ (l : Link) (tag : Byte) (status : Status) (offset : Word32) (content : List Byte), l.up = true →
    l.complete tag status offset content =
      { l with
        wait := l.wait.filter fun m => m.tag? ≠ some tag
        sendQ := l.sendQ ++ [.completion tag status offset (content.take 256) (content.drop 256)] } ∧
    l.returnCredit.sendQ =
      (if l.unitsReturn + l.countsReturn = 0 ∨ .creditOpen ∈ l.sendQ then l.sendQ else l.sendQ ++ [.creditOpen]) ∧
    (l.sending = none → ∀ m rest, l.sendQ = m :: rest →
      (m ≠ .creditOpen → l.beginSend = { l with sendQ := rest, sending := some m }) ∧
      (m = .creditOpen → l.beginSend =
        { l with
          sendQ := rest
          sending := some (.creditFixed l.unitsReturn l.countsReturn)
          unitsReturn := 0
          countsReturn := 0 })) ∧
    (l.sending ≠ none ∨ l.sendQ = [] → l.beginSend = l)) ∧
  ∀ (s : State) (k : LinkId),
    (∀ tag status offset payload rest, s.links[k].sending = some (.completion tag status offset payload rest) → rest ≠ [] →
      exec (.messageSent k) s =
        .next (s.modLink k fun l =>
          { l with
            sending := none
            sendQ := l.sendQ ++ [.completion tag status (offset + 256) (rest.take 256) (rest.drop 256)] }).beginSends) ∧
    (∀ tag status offset payload, s.links[k].sending = some (.completion tag status offset payload []) →
      exec (.messageSent k) s =
        .next (s.modLink k fun l =>
          { l with
            sending := none
            outstanding := l.outstanding.erase tag
            countsReturn := l.countsReturn + 1
            sendQ := if .creditOpen ∈ l.sendQ then l.sendQ else l.sendQ ++ [.creditOpen] }).beginSends) ∧
    (∀ m, s.links[k].sending = some m → (∀ tag status offset payload rest, m ≠ .completion tag status offset payload rest) →
      exec (.messageSent k) s = .next (s.modLink k fun l => { l with sending := none }).beginSends)

/-! ### Links coming UP and going DOWN -/

/-- R185: LINK_UP after the boot outcome is settled: a DOWN link with a share comes UP empty, with the CREDIT of its whole
share and 16 counts first; before that moment (R175), without a share or when it is UP, it only sees its peer. -/
def Obligations.LinkUpStartsEmpty : Prop :=
  ∀ (s : State) (k : LinkId),
    let l := s.links[k]
    (s.preset.bootOutcome.isSome ∧ l.up = false ∧ l.share ≠ 0 →
      exec (.linkUp k) s =
        .next (s.modLink k fun l =>
          { l with
            up := true
            peer := true
            rx := []
            wait := []
            sendQ := [.creditFixed l.share 16]
            sending := none
            unitsHeld := 0
            outstanding := []
            unitsReturn := 0
            countsReturn := 0
            noticeCredit := 0 }).beginSends) ∧
    (¬ (s.preset.bootOutcome.isSome ∧ l.up = false ∧ l.share ≠ 0) →
      exec (.linkUp k) s = .next (s.modLink k fun l => { l with peer := true }).beginSends)

/-- R186: LINK_DOWN, with nothing waiting but on the link itself: the link is empty and its event sets are cleared, but
for the HOLD_OWNER of R129 where the two orders differ (notes/assumptions/9.md); its hold is released and its commit
cancelled with no completion; the requests that other blocks hold for it are dropped, and the pending modes, the pending
limit and the NV operation go on. -/
def Obligations.LinkDownHandsOnTheLoss : Prop :=
  ∀ (s : State) (k : LinkId), s.stagingOk → s.links[k].up = true → (∀ j : LinkId, j ≠ k → s.links[j].rx = []) →
    (∀ w ∈ s.staging.waiting, w.link? = some k) →
    yields (exec (.linkDown k) s) fun t =>
      let held := s.staging.hold = some k
      (∃ p : KindSet, t.links[k] =
          { s.links[k] with
            up := false, peer := false, rx := [], unitsHeld := 0, outstanding := [], wait := [], sendQ := []
            sending := none, unitsReturn := 0, countsReturn := 0, noticeCredit := 0
            pending := p, enabled := 0, notified := 0 } ∧
        (p = 0 ∨ held ∧ p = EventKind.holdOwner.bit)) ∧
      (∀ j : LinkId, j ≠ k →
        t.links[j] = (if held then s.links[j].raise .holdOwner else s.links[j]).beginSend) ∧
      t.staging =
        { s.staging with
          hold := if held then none else s.staging.hold
          commit := if held then none else s.staging.commit
          state := if held ∧ s.staging.state = .commitPending then .openState else s.staging.state
          owner := if held ∧ s.staging.state = .commitPending then none else s.staging.owner
          waiting := []
          restore := s.staging.restore.map fun r => { r with requester := r.requester.map (Requester.drop k) } } ∧
      (∀ c : Chan, t.pipes[c] =
        { s.pipes[c] with
          pendingReq := if s.pipes[c].pendingReq.any (fun r => r.link = k) then none else s.pipes[c].pendingReq }) ∧
      t.barrier =
        { s.barrier with
          pendingReq := if s.barrier.pendingReq.any (fun r => r.1 = k) then none else s.barrier.pendingReq } ∧
      t.preset = { s.preset with requester := s.preset.requester.map (Requester.drop k) } ∧
      t = { s with links := t.links, staging := t.staging, pipes := t.pipes, barrier := t.barrier, preset := t.preset }

/-! ### Start-up and damage -/

/-- R175: the setup record read: a sound one is taken as it stands, the defaults otherwise with a SETUP event; the rate
and source go to the Timebase, which starts (R54), the late limit to the Barrier, share and roles to each link. That bytes
of the record may have changed on flash, which the operand gives and the flash then holds, is the model's choice
(notes/assumptions/19.md). -/
def Obligations.SetupRecordReadHandsOut : Prop :=
  ∀ (s : State) (changed : List Host.Cell), s.preset.nv = some .startUpRead → s.preset.setupOutcome = none →
    (∀ p ∈ changed, p.1 < 32) →
    let flash := Cells.change zeroByte s.flash.setup changed
    let byte := Cells.read zeroByte flash
    let share := fun k : Nat => (byte (2 * k)).toNat + 256 * (byte (2 * k + 1)).toNat
    let sound := Cells.bytes zeroByte flash 28 4 = word32Bytes (crc32 (Cells.bytes zeroByte flash 0 28)) ∧
      (∀ k < 4, share k = 0 ∨ 32 ≤ share k ∧ share k ≤ 480) ∧ share 0 + share 1 + share 2 + share 3 ≤ 512 ∧
      (byte 12).toNat ≤ 9 ∧ (byte 13).toNat ≤ 1 ∧ ((byte 15).toNat ≤ 7 ∨ byte 15 = 0xFF)
    yields (exec (.setupRecordRead changed) s) fun t =>
      t.timebase.running = true ∧ t.timebase.state = .freeRun ∧ t.timebase.tickCount = 0 ∧ t.timebase.now = 0 ∧
      t.timebase.period = Config.nominalPeriod t.timebase.rate ∧ t.flash = { s.flash with setup := flash } ∧
      (sound → t.preset.setupOutcome = some .sound ∧ (∀ a < 16, setupByte t.preset.setup a = byte a) ∧
        t.timebase.rate = (byte 12).toNat ∧ (t.timebase.source = .none ↔ byte 13 = 1) ∧
        t.barrier.limit = (byte 14).toNat ∧
        ∀ k : LinkId, t.links[k] =
          { s.links[k] with share := share k.val, roles := (byte (8 + k.val)).setWidth 3 }.beginSend) ∧
      (¬ sound → t.preset.setupOutcome = some .defaults ∧
        Cells.bytes zeroByte t.preset.setup 0 28 =
          [128, 0, 128, 0, 128, 0, 128, 0, 7, 7, 7, 7, 5, 0, 3, 0xFF] ++ List.replicate 12 0 ∧
        t.timebase.rate = 5 ∧ t.timebase.source = .houseSync ∧ t.barrier.limit = 3 ∧
        ∀ k : LinkId, t.links[k] = ({ s.links[k] with share := 128, roles := 7 }.raise .setup).beginSend) ∧
      t = { s with
        timebase := t.timebase
        barrier := { s.barrier with limit := t.barrier.limit }
        preset := { s.preset with setup := t.preset.setup, setupOutcome := t.preset.setupOutcome }
        flash := t.flash
        links := t.links }

/-- R176, R177: the directory scan ends: slots found STORING or ERASING are CORRUPT on flash and in the copy, with a
PRESET event; then the boot preset: none, or not VALID, settles the outcome and lets links come UP; a VALID one begins
the start-up load. -/
def Obligations.DirectoryScanExaminesTheBootPreset : Prop :=
  ∀ s : State, s.preset.nv = some .startUpRead → s.preset.setupOutcome.isSome →
    yields (exec .directoryScanEnd s) fun t =>
      let found := fun sl : SlotId => s.flash.directory[sl]
      let broken := fun sl : SlotId => (found sl).state = .storing ∨ (found sl).state = .erasing
      let boot := setupByte s.preset.setup 15
      let told := fun k : LinkId => if ∃ sl, broken sl then s.links[k].raise .preset else s.links[k]
      (∀ sl : SlotId, t.preset.directory[sl] = (if broken sl then { state := .corrupt, info := none } else found sl)) ∧
      t.flash = { s.flash with directory := t.preset.directory } ∧
      (8 ≤ boot.toNat → t.preset.bootOutcome = some .none ∧ t.preset.nv = none ∧ t.staging = s.staging ∧
        ∀ k : LinkId, t.links[k] = ((told k).tryUp).beginSend) ∧
      (∀ sl : SlotId, sl.val = boot.toNat →
        ((found sl).state ≠ .valid → t.preset.bootOutcome = some .slotNotValid ∧ t.preset.nv = none ∧
          t.staging = s.staging ∧ ∀ k : LinkId, t.links[k] = ((told k).tryUp).beginSend) ∧
        ((found sl).state = .valid → t.preset.bootOutcome = s.preset.bootOutcome ∧
          t.preset.nv = some (.load sl .startUp) ∧ t.preset.progress = some { landing := 0, sound := [] } ∧
          t.staging = { s.staging with state := .loading, owner := some .startUp } ∧
          ∀ k : LinkId, t.links[k] = (told k).beginSend)) ∧
      t.preset.requester = none ∧
      t = { s with preset := t.preset, flash := t.flash, staging := t.staging, links := t.links }

/-- R7: damage changes the stored bytes that it names, in the structure that it names, the last one given for an offset,
and makes no event. A pass over that record (R153) reads the new bytes at the offsets that it has not reached, and so does
a store of the active set (R168); how far they have read is an operand, the model's choice (notes/assumptions/18.md). No
pass begins or ends, and nothing else changes. -/
def Obligations.MemoryDamageChangesStoredBytes : Prop :=
  ∀ (s : State) (b : Bank) (target : CalTarget) (changed : List Host.Cell) (scanned stored : Nat),
    changed.all (fun p => decide (p.1 < target.size)) = true →
    yields (exec (.memoryDamage b target changed scanned stored) s) fun t =>
      let damaged := fun (seen : Nat → Bool) (i : Nat) (old : Byte) =>
        changed.foldl (fun v p => if p.1 = i ∧ seen p.1 = true then p.2 else v) old
      let all := fun _ : Nat => true
      (∀ (x : Bank) (c : Chan) (i : Nat), Cells.read defaultByte (t.record x c) i =
        if x = b ∧ target = .record c then damaged all i (Cells.read defaultByte (s.record x c) i)
        else Cells.read defaultByte (s.record x c) i) ∧
      (∀ (x : Bank) (i : Nat), Cells.read zeroByte (t.header x) i =
        if x = b ∧ target = .header then damaged all i (Cells.read zeroByte (s.header x) i)
        else Cells.read zeroByte (s.header x) i) ∧
      (∀ k : LinkId, t.links[k] = s.links[k].beginSend) ∧
      (s.scanner.pass = none → t.scanner.pass = none) ∧
      (∀ p, s.scanner.pass = some p → ∃ q, t.scanner.pass = some q ∧ q.chan = p.chan ∧
        ∀ i, Cells.read defaultByte q.view i =
          if target = .record p.chan ∧ b = s.activeBank p.chan then
            damaged (fun a => decide (scanned ≤ a)) i (Cells.read defaultByte p.view i)
          else Cells.read defaultByte p.view i) ∧
      (s.storeInFlight = false ∨ s.preset.storing = none → t.preset = s.preset) ∧
      (∀ body, s.storeInFlight = true → s.preset.storing = some body → ∃ body', t.preset.storing = some body' ∧
        (∀ i, Cells.read zeroByte body'.header i =
          if target = .header ∧ b = s.staging.setSel then
            damaged (fun a => decide (stored ≤ a)) i (Cells.read zeroByte body.header i)
          else Cells.read zeroByte body.header i) ∧
        ∀ (c : Chan) (i : Nat), Cells.read defaultByte body'.records[c] i =
          if target = .record c ∧ b = s.activeBank c then
            damaged (fun a => decide (stored ≤ 32 + 103498 * c.val + a)) i (Cells.read defaultByte body.records[c] i)
          else Cells.read defaultByte body.records[c] i) ∧
      t = { s with
        banks := t.banks
        links := t.links
        scanner := { s.scanner with pass := t.scanner.pass }
        preset := { s.preset with storing := t.preset.storing } }

/-! ### The dome timebase -/

/-- R52, R56: a reference edge before the start is ignored; with reference source NONE only time passes; in FREE_RUN an
edge moves the Timebase to ACQUIRING unjudged, with a TIMEBASE event and no tick. R57, R62: an edge judged in ACQUIRING or
HOLDOVER that does not complete a run of good intervals gives no tick: a good interval, within P ± floor(P/200) (R53),
joins the history, of which the newest 8 are kept, and the count; a bad one sets the count to 0, and in ACQUIRING empties
the history. -/
def Obligations.ReferenceEdgesAreJudged : Prop :=
  (∀ (s : State) (elapsed : Nat),
    let now := s.timebase.now + elapsed
    (s.timebase.running = false → exec (.referenceEdge elapsed) s = .next s.beginSends) ∧
    (s.timebase.running = true → s.timebase.source = .none →
      exec (.referenceEdge elapsed) s = .next { s with timebase := { s.timebase with now := now } }.beginSends) ∧
    (s.timebase.running = true → s.timebase.source = .houseSync → s.timebase.state = .freeRun →
      exec (.referenceEdge elapsed) s =
        .next (({ s with timebase :=
          { s.timebase with now := now, lastEdge := some now, state := .acquiring, good := 0 } } : State).raise
            .timebase).beginSends)) ∧
  ∀ (s : State) (elapsed e : Nat), s.timebase.running = true → s.timebase.source = .houseSync →
    s.timebase.lastEdge = some e →
    let now := s.timebase.now + elapsed
    let p := Config.nominalPeriod s.timebase.rate
    let good := p - p / 200 ≤ now - e ∧ now - e ≤ p + p / 200
    let t := { s.timebase with now := now, lastEdge := some now, lastInterval := some (now - e) }
    let h := (s.timebase.history ++ [now - e]).drop (s.timebase.history.length - 7)
    (s.timebase.state = .acquiring → good → s.timebase.good < 7 →
      exec (.referenceEdge elapsed) s =
        .next { s with timebase := { t with history := h, good := t.good + 1 } }.beginSends) ∧
    (s.timebase.state = .acquiring → ¬ good →
      exec (.referenceEdge elapsed) s = .next { s with timebase := { t with history := [], good := 0 } }.beginSends) ∧
    (s.timebase.state = .holdover → good → s.timebase.good < 3 →
      exec (.referenceEdge elapsed) s =
        .next { s with timebase := { t with history := h, good := t.good + 1 } }.beginSends) ∧
    (s.timebase.state = .holdover → ¬ good →
      exec (.referenceEdge elapsed) s = .next { s with timebase := { t with good := 0 } }.beginSends)

/-- R58, R62: the edge that completes the 8th consecutive good interval in ACQUIRING, or the 4th in HOLDOVER, enters
LOCKED with the locked period floor(S/8) and a TIMEBASE event; it gives a tick exactly when 2·d ≥ E, where d is the time
since the previous tick and E the period in use before the edge. That TIMEBASE is raised after the events of a tick given
in the same step is the model's choice (notes/assumptions/4.md). -/
def Obligations.GoodIntervalsLock : Prop :=
  ∀ (s : State) (elapsed e : Nat), s.timebase.running = true → s.timebase.source = .houseSync →
    s.timebase.lastEdge = some e →
    (s.timebase.state = .acquiring ∧ s.timebase.good = 7 ∨ s.timebase.state = .holdover ∧ s.timebase.good = 3) →
    let now := s.timebase.now + elapsed
    let p := Config.nominalPeriod s.timebase.rate
    p - p / 200 ≤ now - e → now - e ≤ p + p / 200 →
    let h := (s.timebase.history ++ [now - e]).drop (s.timebase.history.length - 7)
    let u : State := { s with timebase :=
      { s.timebase with
        now := now, lastEdge := some now, lastInterval := some (now - e), history := h, state := .locked
        period := h.sum / 8, good := 0, holdoverTicks := 0 } }
    let d := now - s.timebase.lastTick
    (s.timebase.period ≤ 2 * d → exec (.referenceEdge elapsed) s = .next (u.tick.raise .timebase).beginSends) ∧
    (2 * d < s.timebase.period → exec (.referenceEdge elapsed) s =
      .next (({ u with timebase := { u.timebase with lockEdge := some now } } : State).raise .timebase).beginSends)

/-- R59, R60: an edge in LOCKED: a good interval gives a tick at the edge and a new locked period; a bad one enters
HOLDOVER, with a tick, the first holdover tick, exactly when it comes at or after the last tick plus the holdover period.
That TIMEBASE is raised after the events of a tick given in the same step is the model's choice (notes/assumptions/4.md).
-/
def Obligations.LockedEdgesTick : Prop :=
  ∀ (s : State) (elapsed e : Nat), s.timebase.running = true → s.timebase.source = .houseSync →
    s.timebase.lastEdge = some e → s.timebase.state = .locked →
    let now := s.timebase.now + elapsed
    let p := Config.nominalPeriod s.timebase.rate
    let good := p - p / 200 ≤ now - e ∧ now - e ≤ p + p / 200
    let t := { s.timebase with now := now, lastEdge := some now, lastInterval := some (now - e) }
    let h := (s.timebase.history ++ [now - e]).drop (s.timebase.history.length - 7)
    (good → exec (.referenceEdge elapsed) s =
      .next (State.tick { s with timebase := { t with history := h, period := h.sum / 8 } }).beginSends) ∧
    (¬ good → now < s.timebase.lastTick + s.timebase.period →
      exec (.referenceEdge elapsed) s =
        .next (({ s with timebase := { t with state := .holdover, good := 0, holdoverTicks := 0 } } : State).raise
          .timebase).beginSends) ∧
    (¬ good → s.timebase.lastTick + s.timebase.period ≤ now →
      exec (.referenceEdge elapsed) s =
        .next ((State.tick { s with timebase :=
          { t with state := .holdover, good := 0, holdoverTicks := 1 } }).raise .timebase).beginSends)

/-- R57, R61: the missing-edge limits. In ACQUIRING the Timebase returns to FREE_RUN, floor(3·P/2) after the last recorded
edge, with history and recorded edge discarded and no tick; in LOCKED it enters HOLDOVER, floor(3·L/2) after the last tick
or after the locking edge that gave none, with a tick at once. Each raises TIMEBASE. That TIMEBASE is raised after the
events of a tick given in the same step is the model's choice (notes/assumptions/4.md). -/
def Obligations.MissingEdgesLeaveTheReference : Prop :=
  ∀ (s : State), s.timebase.running = true →
    let p := Config.nominalPeriod s.timebase.rate
    (∀ e, s.timebase.state = .acquiring → s.timebase.lastEdge = some e →
      exec .missingEdgeLimitAcquiring s =
        .next (({ s with timebase :=
          { s.timebase with
            now := max s.timebase.now (e + 3 * p / 2), state := .freeRun, period := p, history := [], good := 0
            holdoverTicks := 0, lastEdge := none, lastInterval := none } } : State).raise .timebase).beginSends) ∧
    (s.timebase.state = .locked →
      let from' := s.timebase.lockEdge.getD s.timebase.lastTick
      exec .missingEdgeLimitLocked s =
        .next ((State.tick { s with timebase :=
          { s.timebase with
            now := max s.timebase.now (from' + 3 * s.timebase.period / 2), state := .holdover, good := 0
            holdoverTicks := 1 } }).raise .timebase).beginSends)

/-- R55, R56, R57: in FREE_RUN and ACQUIRING a scheduled tick falls one period in use after the tick before it; before the
start none does. R62, R63: HOLDOVER counts its ticks, one holdover period apart; at the 64th the Timebase gives that tick
and enters FREE_RUN at P, with history and recorded edge discarded and a TIMEBASE event. -/
def Obligations.ScheduledTicks : Prop :=
  (∀ s : State,
    (s.timebase.running = false → exec .frameTick s = .next s.beginSends) ∧
    (s.timebase.running = true → s.timebase.state = .freeRun ∨ s.timebase.state = .acquiring →
      exec .frameTick s =
        .next (State.tick { s with timebase :=
          { s.timebase with now := max s.timebase.now (s.timebase.lastTick + s.timebase.period) } }).beginSends)) ∧
  ∀ s : State, s.timebase.running = true → s.timebase.state = .holdover →
    let u := State.tick { s with timebase :=
      { s.timebase with
        now := max s.timebase.now (s.timebase.lastTick + s.timebase.period)
        holdoverTicks := s.timebase.holdoverTicks + 1 } }
    (s.timebase.holdoverTicks < 63 → exec .frameTick s = .next u.beginSends) ∧
    (s.timebase.holdoverTicks = 63 →
      exec .frameTick s = exec .holdoverTickLimit s ∧
      exec .holdoverTickLimit s =
        .next (({ u with timebase :=
          { u.timebase with
            state := .freeRun, period := Config.nominalPeriod s.timebase.rate, history := [], good := 0
            holdoverTicks := 0, lastEdge := none, lastInterval := none } } : State).raise .timebase).beginSends)

/-! ### Frame capture -/

/-- R2: the order of frame numbers, and the newest and oldest of frame numbers that lie in one half of the number
circle. -/
def Obligations.FrameNumbersAreOrdered : Prop :=
  ∀ n m : Word32,
    (newer n m = true ↔ 1 ≤ (n.toNat + 2 ^ 32 - m.toNat) % 2 ^ 32 ∧ (n.toNat + 2 ^ 32 - m.toNat) % 2 ^ 32 ≤ 2 ^ 31 - 1) ∧
    (newerEq n m = true ↔ newer n m = true ∨ n = m) ∧
    ∀ (base : Word32) (l : List Word32), (∀ x ∈ l, (x - base).toNat < 2 ^ 31) →
      (newestOf l = none ↔ l = []) ∧ (oldestOf l = none ↔ l = []) ∧
      (∀ x, newestOf l = some x → x ∈ l ∧ ∀ y ∈ l, newerEq x y = true) ∧
      ∀ x, oldestOf l = some x → x ∈ l ∧ ∀ y ∈ l, newerEq y x = true

/-- R71, R73: before the Timebase starts no arrival is taken; from then on every arrival other than signal lost makes the
signal PRESENT and sets its limit two periods on; a signal-present arrival does no more, and neither does a header, a
line or an end of frame in OFF and STANDBY, or a line or an end of frame while no slot is FILLING. R72: the loss of the
signal, by a signal-lost arrival or when the limit expires: INPUT, no limit runs, and a fill in progress fails with
reason LOST; a signal-lost arrival while the signal is LOST only passes time. -/
def Obligations.TheSignalIsTracked : Prop :=
  (∀ (s : State) (c : Chan) (elapsed : Nat) (n : Word32) (id w h : Nat) (ps : List Pixel),
    let arrivals := [Instr.frameHeader c elapsed n id w h, .line c elapsed ps, .endOfFrame c elapsed]
    (s.timebase.running = false → ∀ i ∈ Instr.signalPresent c elapsed :: .signalLost c elapsed :: arrivals,
      exec i s = .next s.beginSends) ∧
    (s.timebase.running = true →
      exec (.signalPresent c elapsed) s = .next (s.seen c elapsed).beginSends ∧
      (s.pipes[c].mode = .off ∨ s.pipes[c].mode = .standby → ∀ i ∈ arrivals, exec i s = .next (s.seen c elapsed).beginSends) ∧
      ((∀ i : SlotIx, s.capture[c].slots[i].isFilling = false) → ∀ i ∈ arrivals.tail,
        exec i s = .next (s.seen c elapsed).beginSends))) ∧
  ∀ (s : State) (c : Chan) (elapsed : Nat), s.timebase.running = true →
    let at_ := fun now : Nat => { s with timebase := { s.timebase with now := now } }
    let lost := fun u : State => (u.modCapture c fun cap => { cap with signal := false, lossLimit := none }).raise .input
    let next := fun (now : Nat) (o : Host.Outcome State Fault Refusal) =>
      ((∀ i : SlotIx, s.capture[c].slots[i].isFilling = false) → o = .next (lost (at_ now)).beginSends) ∧
      ∀ i : SlotIx, s.capture[c].slots.ok → s.capture[c].slots[i].isFilling = true →
        o = .next ((lost (at_ now)).fillFailed c i .lost).beginSends
    (s.capture[c].signal = false →
      exec (.signalLost c elapsed) s = .next (at_ (s.timebase.now + elapsed)).beginSends) ∧
    (s.capture[c].signal = true → next (s.timebase.now + elapsed) (exec (.signalLost c elapsed) s)) ∧
    ∀ limit, s.capture[c].lossLimit = some limit → next (max s.timebase.now limit) (exec (.signalLossLimit c) s)

/-- R74 to R76: a frame header in a capturing mode. One that comes during a fill ends it with SHORT. Then it is refused
MISROUTE, SIZE or STALE, in that order, by R75's checks, of which the third counts towards the resync; or it is accepted,
or with a count of 4 it resynchronises: READY slots are freed and the SHOWING slot is marked. A size that no slot can hold
is refused SIZE (notes/assumptions/17.md). R76, R77, R78: the slot that an accepted header claims: the lowest FREE slot,
or with none the READY slot with the oldest frame; and what a resync does to the slots. -/
def Obligations.FrameHeadersAreJudged : Prop :=
  (∀ (s : State) (c : Chan) (elapsed : Nat) (n : Word32) (id w h : Nat), s.timebase.running = true →
    s.pipes[c].mode ≠ .off → s.pipes[c].mode ≠ .standby →
    let o := exec (.frameHeader c elapsed n id w h) s
    let next := fun u : State =>
      let r := s.activeRecord c
      let cap := s.capture[c]
      let sized := w = Rec.wIn r ∧ h = Rec.hIn r ∧ frameSizeOk w h
      let older := ∀ i : SlotIx, ∀ m, (u.capture[c].slots[i].ready? = some m ∨ u.capture[c].slots[i].shown? = some m) →
        newer n m = true
      (id ≠ c.val → o = .next (u.noted c .misroute).beginSends) ∧
      (id = c.val → ¬ sized → o = .next (u.noted c .size).beginSends) ∧
      (id = c.val → sized → cap.stale = 4 →
        o = .next (((u.modCapture c fun cap =>
          { cap with slots := cap.slots.freeReady.mark, stale := 0 }).noted c .resync).modSlots c
            (Slots.claim n w h)).beginSends) ∧
      (id = c.val → sized → cap.stale < 4 → older →
        o = .next (u.modCapture c fun cap => { cap with stale := 0, slots := cap.slots.claim n w h }).beginSends) ∧
      (id = c.val → sized → cap.stale < 4 → (∃ m, u.capture[c].slots.newestHeld = some m ∧ newer n m = false) →
        o = .next ((u.modCapture c fun cap => { cap with stale := cap.stale + 1 }).noted c .stale).beginSends)
    ((∀ i : SlotIx, s.capture[c].slots[i].isFilling = false) → next (s.seen c elapsed)) ∧
    ∀ i : SlotIx, s.capture[c].slots.ok → s.capture[c].slots[i].isFilling = true →
      next ((s.seen c elapsed).fillFailed c i .short)) ∧
  ∀ (v : Slots) (n : Word32) (w h : Nat), (∀ i : SlotIx, v[i].isFilling = false) → v.ok →
    (∃ i : SlotIx, v.claim n w h = v.set i (.filling n w h 0) ∧
      (v[i] = .free ∧ (∀ j : SlotIx, j < i → v[j] ≠ .free) ∨
        (∀ j : SlotIx, v[j] ≠ .free) ∧ v[i].ready?.isSome ∧ v[i].ready? = oldestOf v.readyFrames)) ∧
    ∀ i : SlotIx, v.freeReady.mark[i] =
      match v[i] with
      | .ready _ _ _ => .free
      | .showing m w' h' _ => .showing m w' h' true
      | r => r

/-- R69, R79: a line during a fill: LONG after the last row and BADLINE for a wrong pixel count fail the fill; otherwise
its pixels are written to row "lines received" of the slot, four bytes each, and no other byte of frame memory changes.
R80: an end of frame during a fill: SHORT before the last line; SIZE when the slot's size is no longer the active
record's; otherwise the slot is READY, with no reason and no event. -/
def Obligations.FillsTakeLinesAndEnd : Prop :=
  (∀ (s : State) (c : Chan) (elapsed : Nat) (ps : List Pixel) (i : SlotIx) (n : Word32) (w h lines : Nat),
    s.timebase.running = true → s.pipes[c].mode ≠ .off → s.pipes[c].mode ≠ .standby → s.capture[c].slots.ok →
    s.capture[c].slots[i] = .filling n w h lines →
    let o := exec (.line c elapsed ps) s
    (h ≤ lines → o = .next ((s.seen c elapsed).fillFailed c i .long).beginSends) ∧
    (lines < h → ps.length ≠ w → o = .next ((s.seen c elapsed).fillFailed c i .badLine).beginSends) ∧
    (lines < h → ps.length = w → yields o fun t =>
      let base := (3 * c.val + i.val) * 35389440 + 16384 * lines
      (∀ a, Cells.read zeroByte t.frameMem a =
        if base ≤ a ∧ a < base + 4 * w then
          match ps[(a - base) / 4]? with
          | some p => BitVec.ofNat 8 ((p.r.toNat + 2 ^ 10 * p.g.toNat + 2 ^ 20 * p.b.toNat) / 256 ^ ((a - base) % 4))
          | none => 0
        else Cells.read zeroByte s.frameMem a) ∧
      t = { (s.seen c elapsed).modCapture c (fun cap =>
        { cap with slots := cap.slots.set i (.filling n w h (lines + 1)) }) with frameMem := t.frameMem }.beginSends)) ∧
  ∀ (s : State) (c : Chan) (elapsed : Nat) (i : SlotIx) (n : Word32) (w h lines : Nat),
    s.timebase.running = true → s.pipes[c].mode ≠ .off → s.pipes[c].mode ≠ .standby → s.capture[c].slots.ok →
    s.capture[c].slots[i] = .filling n w h lines →
    let o := exec (.endOfFrame c elapsed) s
    let sized := w = Rec.wIn (s.activeRecord c) ∧ h = Rec.hIn (s.activeRecord c)
    (lines < h → o = .next ((s.seen c elapsed).fillFailed c i .short).beginSends) ∧
    (h ≤ lines → ¬ sized → o = .next ((s.seen c elapsed).fillFailed c i .size).beginSends) ∧
    (h ≤ lines → sized →
      o = .next ((s.seen c elapsed).modCapture c fun cap => { cap with slots := cap.slots.set i (.ready n w h) }).beginSends)

/-! ### The correction computation -/

/-- R25, R40, "The default record carried through": on the default record, with a 1920 × 1200 frame showing, every pixel
of LIVE and HOLD takes its source pixel's codes, and every pixel of FLAT is 512 whatever is showing. R37, R41: with no
showing slot every pixel of LIVE and HOLD is 0, and GRID, with a showing frame of that size or with none, is 1023 on every
64th column and row and 0 elsewhere. -/
def Obligations.DefaultRecordReproducesItsSource : Prop :=
  ∀ (mem : Cells) (c : Chan) (i : SlotIx) (src : Option SourceFrame) (x y : Nat), x < 1920 → y < 1200 →
    (∀ mode : Mode, mode = .live ∨ mode = .hold →
      outputPixel mem [] c mode (some { slot := i, width := 1920, height := 1200 }) x y =
        let code := fetchCode mem (pixelAddress c i x y)
        ⟨code 0, code 1, code 2⟩) ∧
    outputPixel mem [] c .flat src x y = ⟨512, 512, 512⟩ ∧
    outputPixel mem [] c .live none x y = ⟨0, 0, 0⟩ ∧ outputPixel mem [] c .hold none x y = ⟨0, 0, 0⟩ ∧
    ∀ shown : Option SourceFrame, shown = none ∨ shown = some { slot := i, width := 1920, height := 1200 } →
      outputPixel mem [] c .grid shown x y =
        if x % 64 = 0 ∨ y % 64 = 0 then ⟨1023, 1023, 1023⟩ else ⟨0, 0, 0⟩

/-- R33, R38, R45, R46, R48: an interpolated value lies between its corners, and a filtered one between its four fetched
values; the gain and the lift keep their ends; an output code is at most 1023 whatever bytes the record holds. R30, R31,
R32, R35, R49: a pixel is masked when one of its four corner nodes is, or has no entry, and u and v are interpolated,
rounding half up; a masked pixel, one outside the source in LIVE, HOLD and GRID, and every pixel of STANDBY is black. R36
to R39, R41 to R47, R69: stages 4 to 7, written out, are applied to the values that an inside pixel of LIVE or HOLD
fetches from its showing slot, with indices clamped to the frame, and filters; to 0 when there is no showing slot; to the
flat colour for every unmasked pixel of FLAT; and for an inside pixel of GRID to 1023 where its whole source column or row
is a multiple of 2^k, k the record's grid exponent, and to 0 elsewhere, whatever frame memory holds. The header fields,
nodes and table entries are read as R49 reads them. -/
def Obligations.PixelStagesKeepTheirRanges : Prop :=
  (∀ (cell : Cell) (a b c d lo hi : Int), cell.fx < cell.cx → cell.fy < cell.cy → (∀ v ∈ [a, b, c, d], lo ≤ v ∧ v ≤ hi) →
    lo ≤ interpolate cell a b c d ∧ interpolate cell a b c d ≤ hi) ∧
  (∀ p00 p10 p01 p11 au av lo hi : Nat, au < 64 → av < 64 → (∀ p ∈ [p00, p10, p01, p11], lo ≤ p ∧ p ≤ hi) →
    lo ≤ filterValue p00 p10 p01 p11 au av ∧ filterValue p00 p10 p01 p11 au av ≤ hi) ∧
  (∀ l g lift : Nat, l ≤ 65535 → g ≤ 4096 → lift ≤ 4095 →
    applyGain l g ≤ l ∧ applyGain l 4096 = l ∧ applyGain l 0 = 0 ∧
    lift ≤ applyLift l lift ∧ applyLift l lift ≤ 65535 ∧ applyLift 0 lift = lift ∧ applyLift 65535 lift = 65535 ∧
    applyLift l 0 = l) ∧
  ∀ (mem r : Cells) (c : Chan) (mode : Mode) (src : Option SourceFrame) (x y : Nat),
    let p := outputPixel mem r c mode src x y
    let masked := pixelMasked r x y
    let u := (pixelUV r x y).1
    let v := (pixelUV r x y).2
    let wOut := Rec.clampedNat r 4
    (p.r ≤ 1023 ∧ p.g ≤ 1023 ∧ p.b ≤ 1023) ∧
    (mode = .standby ∨ masked = true → p = ⟨0, 0, 0⟩) ∧
    (mode ≠ .flat → outside u v (sourceSize r src).1 (sourceSize r src).2 = true → p = ⟨0, 0, 0⟩) ∧
    -- stage 1: the geometry cell, its corner nodes, the mask, u and v
    (let cx := 2 ^ Rec.clampedNat r 8
     let cy := 2 ^ Rec.clampedNat r 9
     let gx := (wOut - 1) / cx + 2
     let a := y / cy * gx + x / cx
     let node := fun e : Nat => 64 + 8 * e
     let between := fun field : Nat =>
       let at_ := fun e : Nat => Rec.clampedInt r (node e + field)
       let fx : Int := (x % cx : Nat)
       let fy : Int := (y % cy : Nat)
       let top := at_ a * (cx - fx) + at_ (a + 1) * fx
       let bottom := at_ (a + gx) * (cx - fx) + at_ (a + gx + 1) * fx
       (top * (cy - fy) + bottom * fy + cx * cy / 2) / (cx * cy)
     (masked = true ↔ ∃ e ∈ [a, a + 1, a + gx, a + gx + 1],
       4225 ≤ e ∨ (Cells.read defaultByte r (node e + 6)).getLsbD 0 = true) ∧
     u = between 0 ∧ v = between 3) ∧
    -- stages 4 to 7
    (let degamma := fun val : Nat => Rec.clampedNat r (99400 + 2 * val)
     let regamma := fun q : Nat => Rec.clampedNat r (101448 + 2 * q)
     let m := fun k n : Nat => Rec.clampedInt r (12 + 2 * (3 * k + n))
     let bx := 2 ^ Rec.clampedNat r 10
     let by_ := 2 ^ Rec.clampedNat r 11
     let hx := (wOut - 1) / bx + 2
     let a := y / by_ * hx + x / bx
     let blend := fun field : Nat =>
       let at_ := fun e : Nat => Rec.clampedNat r (33864 + 4 * e + field)
       let top := at_ a * (bx - x % bx) + at_ (a + 1) * (x % bx)
       let bottom := at_ (a + hx) * (bx - x % bx) + at_ (a + hx + 1) * (x % bx)
       (top * (by_ - y % by_) + bottom * (y % by_) + bx * by_ / 2) / (bx * by_)
     let code := fun (vals : Nat × Nat × Nat) (k : Nat) =>
       let sum := (m k 0 * degamma vals.1 + m k 1 * degamma vals.2.1 + m k 2 * degamma vals.2.2 + 2048) / 4096
       let light := (max 0 (min 65535 sum)).toNat
       let faded := (light * blend 0 + 2048) / 4096
       let lifted := blend 2 + (faded * (65535 - blend 2) + 32767) / 65535
       (regamma (lifted / 64) * (64 - lifted % 64) + regamma (lifted / 64 + 1) * (lifted % 64) + 32) / 64
     let finished := fun vals : Nat × Nat × Nat => (⟨code vals 0, code vals 1, code vals 2⟩ : Codes)
     let inside := fun (ws hs : Nat) => -64 ≤ u ∧ u < 64 * (ws : Int) ∧ -64 ≤ v ∧ v < 64 * (hs : Int)
     let filtered := fun (f : SourceFrame) (component : Nat) =>
       let fetch := fun di dj : Int =>
         let i := (max 0 (min ((f.width : Int) - 1) (u / 64 + di))).toNat
         let j := (max 0 (min ((f.height : Int) - 1) (v / 64 + dj))).toNat
         let word := leNat (Cells.bytes zeroByte mem ((3 * c.val + f.slot.val) * 35389440 + 16384 * j + 4 * i) 4)
         word / 1024 ^ component % 1024
       let au := (u - 64 * (u / 64)).toNat
       let av := (v - 64 * (v / 64)).toNat
       let t := fetch 0 0 * (64 - au) + fetch 1 0 * au
       let b := fetch 0 1 * (64 - au) + fetch 1 1 * au
       (t * (64 - av) + b * av + 2048) / 4096
     masked = false →
       outputPixel mem r c .flat src x y =
         finished (Rec.clampedNat r 30, Rec.clampedNat r 32, Rec.clampedNat r 34) ∧
       (∀ f : SourceFrame, inside f.width f.height →
         outputPixel mem r c .live (some f) x y = finished (filtered f 0, filtered f 1, filtered f 2) ∧
         outputPixel mem r c .hold (some f) x y = finished (filtered f 0, filtered f 1, filtered f 2)) ∧
       (inside (Rec.clampedNat r 0) (Rec.clampedNat r 2) →
         outputPixel mem r c .live none x y = finished (0, 0, 0) ∧
         outputPixel mem r c .hold none x y = finished (0, 0, 0)) ∧
       (src = none ∧ inside (Rec.clampedNat r 0) (Rec.clampedNat r 2) ∨
           (∃ f, src = some f ∧ inside f.width f.height) →
         let k := Rec.clampedNat r 36
         let g := if (u / 64) % (2 ^ k : Nat) = 0 ∨ (v / 64) % (2 ^ k : Nat) = 0 then 1023 else 0
         (3 ≤ k ∧ k ≤ 8) ∧ outputPixel mem r c .grid src x y = finished (g, g, g)))

/-! ### The swap barrier -/

/-- R88: the common frame of a set of channels is the newest frame number newer than B that all of them hold READY, and
the lead number the newest one that at least one holds, for numbers that lie in one half of the number circle; for others,
to which R2 gives no newest, the pick is the model's choice (notes/assumptions/33.md). R91, R92: with a common frame every
JOINED channel swaps to it: its READY slot shows, the slot that showed and the READY slots with older frames are freed,
its late count is 0, and B is that frame. With none nothing swaps, and each member that lacks the lead number is late by
one more, stops at 255, and is EXCLUDED when its count reaches the limit. R93: a readmission round does the same with the
candidates, but that with a common frame each becomes JOINED with late count 0, with MEMBERSHIP, and that a count that
reaches the limit ends the candidacy, with no event. -/
def Obligations.TheJoinedSetSwapsOrCountsLateness : Prop :=
  ∀ (s : State) (cs : List Chan), cs.Nodup →
    let d := s.joinedStage cs
    let later := fun n : Word32 => ∀ b, s.barrier.frame = some b → newer n b = true
    let common := fun n : Word32 => later n ∧ ∀ c ∈ cs, (s.slots c).holdsReady n = true
    let held := fun n : Word32 => later n ∧ ∃ c ∈ cs, (s.slots c).holdsReady n = true
    let newestIn := fun (n : Word32) (among : Word32 → Prop) =>
      among n ∧ ∀ base : Word32, (∀ m, among m → (m - base).toNat < 2 ^ 31) → ∀ m, among m → m = n ∨ newer n m = true
    (∀ n, s.commonFrame cs = some n → newestIn n common) ∧
    (∀ n, s.leadNumber cs = some n → newestIn n held) ∧ (s.leadNumber cs = none → ∀ n, ¬ held n) ∧
    (∀ n, s.commonFrame cs = some n →
      cs ≠ [] ∧ later n ∧ (∀ c ∈ cs, (s.slots c).holdsReady n = true) ∧ d.2 = some n ∧ d.1.barrier.frame = some n ∧
      (∀ c ∈ cs, d.1.barrier.members[c] = { s.barrier.members[c] with late := some 0 } ∧
        ∃ i w h, (s.slots c)[i] = .ready n w h ∧ (d.1.slots c)[i] = .showing n w h false ∧
          ∀ j : SlotIx, j ≠ i → (d.1.slots c)[j] =
            match (s.slots c)[j] with
            | .ready m w' h' => if newer n m then .free else .ready m w' h'
            | .showing _ _ _ _ => .free
            | r => r) ∧
      (∀ c, c ∉ cs → d.1.capture[c] = s.capture[c] ∧ d.1.barrier.members[c] = s.barrier.members[c]) ∧
      d.1 = { s with capture := d.1.capture, barrier := d.1.barrier }) ∧
    (s.commonFrame cs = none →
      (∀ c rest n, cs = c :: rest → later n → ¬ ∀ x ∈ cs, (s.slots x).holdsReady n = true) ∧
      d.2 = none ∧ d.1.capture = s.capture ∧ d.1.barrier.frame = s.barrier.frame ∧
      ∀ c : Chan,
        let late := min 255 ((s.barrier.members[c].late).getD 0 + 1)
        let behind := c ∈ cs ∧ ∃ n, s.leadNumber cs = some n ∧ (s.slots c).holdsReady n = false
        (¬ behind → d.1.barrier.members[c] = s.barrier.members[c]) ∧
        (behind → s.barrier.limit = 0 ∨ late < s.barrier.limit →
          d.1.barrier.members[c] = { s.barrier.members[c] with late := some late }) ∧
        (behind → s.barrier.limit ≠ 0 → s.barrier.limit ≤ late →
          d.1.barrier.members[c] = { membership := .excluded, candidate := false, late := some late } ∧
          ∀ k : LinkId, d.1.links[k] = s.links[k].raise .membership)) ∧
    let e := s.readmissionRound cs
    (∀ n, s.commonFrame cs = some n →
      e.2 = some n ∧ e.1.barrier.frame = some n ∧ e.1.capture = d.1.capture ∧
      (∀ c : Chan, e.1.barrier.members[c] =
        if c ∈ cs then { membership := .joined, candidate := false, late := some 0 } else s.barrier.members[c]) ∧
      (∀ k : LinkId, e.1.links[k] = s.links[k].raise .membership) ∧
      e.1 = { s with capture := e.1.capture, barrier := { s.barrier with members := e.1.barrier.members, frame := some n }
                     links := e.1.links }) ∧
    (s.commonFrame cs = none →
      e.2 = none ∧ e.1 = { s with barrier := { s.barrier with members := e.1.barrier.members } } ∧
      ∀ c : Chan,
        let late := min 255 ((s.barrier.members[c].late).getD 0 + 1)
        let behind := c ∈ cs ∧ ∃ n, s.leadNumber cs = some n ∧ (s.slots c).holdsReady n = false
        (¬ behind → e.1.barrier.members[c] = s.barrier.members[c]) ∧
        (behind → e.1.barrier.members[c] =
          { s.barrier.members[c] with
            late := some late
            candidate :=
              if s.barrier.limit ≠ 0 ∧ s.barrier.limit ≤ late then false else s.barrier.members[c].candidate }))

/-- R89, R90: the opening of a decision: a channel that enters LIVE is EXCLUDED with late count 0, one that leaves it has
no membership, the pending late limit is applied and its request completes, and a JOINED channel is EXCLUDED for a resync
mark or for its late count; with no LIVE channel B becomes absent and no slot moves. R91, R93: then the JOINED channels, or
the candidates where none is JOINED, take their stage. R94, R95: an EXCLUDED channel that this decision did not exclude and
that holds B READY rejoins, or has just been reached by the joined set, or runs free to a READY frame newer than the one it
shows, or else stays as it is. R96: with no JOINED channel and no candidate every EXCLUDED channel becomes a candidate. -/
def Obligations.ExcludedChannelsRejoinOrRunFree : Prop :=
  ∀ (s : State),
    (∀ old : Vector Mode 6,
      let t := eachChan (State.enterExit old) (List.finRange 6) s
      let enters := fun c : Chan => s.isLive c = true ∧ old[c] ≠ .live
      let leaves := fun c : Chan => s.isLive c = false ∧ old[c] = .live
      (∀ c : Chan, t.barrier.members[c] =
        if enters c then { membership := .excluded, candidate := false, late := some 0 }
        else if leaves c then { membership := .none, candidate := false, late := none }
        else s.barrier.members[c]) ∧
      (∀ k : LinkId, t.links[k] =
        if ∃ c : Chan, enters c ∨ leaves c then s.links[k].raise .membership else s.links[k]) ∧
      t = { s with barrier := { s.barrier with members := t.barrier.members }, links := t.links } ∧
      (s.barrier.pendingLimit = none → t.applyLimit = t) ∧
      (∀ v, s.barrier.pendingLimit = some v →
        let b := { t.barrier with limit := v, pendingLimit := none, pendingReq := none }
        (s.barrier.pendingReq = none → t.applyLimit = { t with barrier := b }) ∧
        ∀ k tag, s.barrier.pendingReq = some (k, tag) →
          t.applyLimit = State.complete k tag .success [] { t with barrier := b }) ∧
      ((∀ c : Chan, s.isLive c = false) → s.barrierDecision old =
        ({ t.applyLimit with barrier := { t.applyLimit.barrier with frame := none } }, none)) ∧
      ((∃ c : Chan, s.isLive c = true) →
        let joined := (List.finRange 6).filter fun c => t.isJoined c
        let o := eachChan State.openingTest joined t.applyLimit
        let still := (List.finRange 6).filter fun c => o.isJoined c
        let candidates := (List.finRange 6).filter fun c => o.isCandidate c
        let d := if still ≠ [] then o.joinedStage still
          else if candidates ≠ [] then o.readmissionRound candidates else (o, none)
        let skip := joined.filter fun c => d.1.isExcluded c
        let anyJoined := (List.finRange 6).any fun c => d.1.isJoined c
        s.barrierDecision old =
          ((eachChan (State.excludedStage anyJoined d.2 skip) (List.finRange 6) d.1).emptySet, d.2))) ∧
    (∀ joined : List Chan,
      let t := eachChan State.openingTest joined s
      let out := fun c : Chan => c ∈ joined ∧ s.isJoined c = true ∧
        ((s.slots c).marked = true ∨
          s.barrier.limit ≠ 0 ∧ s.barrier.limit ≤ (s.barrier.members[c].late).getD 0)
      (∀ c : Chan, t.barrier.members[c] =
        if out c then { s.barrier.members[c] with membership := .excluded, candidate := false }
        else s.barrier.members[c]) ∧
      (∀ k : LinkId, t.links[k] = if ∃ c : Chan, out c then s.links[k].raise .membership else s.links[k]) ∧
      t = { s with barrier := { s.barrier with members := t.barrier.members }, links := t.links }) ∧
    (∀ (c : Chan) (anyJoined : Bool) (swapped : Option Word32) (skip : List Chan),
      let t := State.excludedStage anyJoined swapped skip c s
      let rejoined : Member := { membership := .joined, candidate := false, late := some 0 }
      let holds := ∃ b, s.barrier.frame = some b ∧ (s.slots c).holdsReady b = true
      let reached := ∃ b, s.barrier.frame = some b ∧ swapped = some b ∧ (s.slots c).shown = some b
      let newest := newestOf (s.slots c).readyFrames
      (s.isExcluded c = false ∨ c ∈ skip → t = s) ∧
      (s.isExcluded c = true → c ∉ skip →
        (anyJoined = true → ∀ b, s.barrier.frame = some b → (s.slots c).holdsReady b = true →
          t.slots c = (s.slots c).swapTo b ∧ t.barrier.members[c] = rejoined ∧
          (∀ k : LinkId, t.links[k] = s.links[k].raise .membership) ∧
          (∀ x : Chan, x ≠ c → t.capture[x] = s.capture[x] ∧ t.barrier.members[x] = s.barrier.members[x]) ∧
          t.barrier.frame = s.barrier.frame) ∧
        (anyJoined = true → ¬ holds → reached →
          t.capture = s.capture ∧ t.barrier.members[c] = rejoined ∧
          ∀ k : LinkId, t.links[k] = s.links[k].raise .membership) ∧
        (anyJoined = false ∨ ¬ holds ∧ ¬ reached →
          (∀ n, newest = some n → (∀ m, (s.slots c).shown = some m → newer n m = true) →
            (∃ i w h, (s.slots c)[i] = .ready n w h ∧ (t.slots c)[i] = .showing n w h false ∧
              ∀ j : SlotIx, j ≠ i → (t.slots c)[j] =
                match (s.slots c)[j] with
                | .filling n' w' h' l => .filling n' w' h' l
                | _ => .free) ∧
            t = s.modCapture c fun cap => { cap with slots := t.slots c }) ∧
          (newest = none → t = s) ∧
          ∀ n m, newest = some n → (s.slots c).shown = some m → newer n m = false → t = s))) ∧
    ((∃ c : Chan, s.isJoined c = true ∨ s.isCandidate c = true) → s.emptySet = s) ∧
    ((∀ c : Chan, s.isJoined c = false ∧ s.isCandidate c = false) →
      (∀ c : Chan, s.emptySet.barrier.members[c] =
        if s.isExcluded c then { s.barrier.members[c] with candidate := true, late := some 0 }
        else s.barrier.members[c]) ∧
      s.emptySet = { s with barrier := { s.barrier with members := s.emptySet.barrier.members } })

/-! ### Channel modes and output frames -/

/-- R99, R112, R113: CHANNEL_MODE and BARRIER_LIMIT taken: bad parameters complete INVALID; otherwise the pending mode of
every channel of the set, or the pending limit, is replaced, the request is kept, and an earlier one that it overlaps
completes SUPERSEDED, on every one of its channels. -/
def Obligations.PendingRequestsReplaceEarlierOnes : Prop :=
  ∀ (s : State) (k : LinkId) (tag : Byte) (ps : List Byte), s.takes k tag roleShow ps →
    let p := s.asked k tag
    (chanSetOf (byteAt ps 0) = none ∨ modeOfCode (byteAt ps 1) = none ∨ ps.length < 2 →
      exec (.channelMode k tag ps) s = .next (p.reply k tag .invalid [])) ∧
    (∀ (b0 b1 : Byte) (rest : List Byte) (mode : Mode), ps = b0 :: b1 :: rest → b0 ≠ 0 → b0.toNat < 64 →
      modeOfCode b1 = some mode →
      let set : ChanSet := b0.setWidth 6
      let overlaps := fun r : ModeReq => r.set &&& set ≠ 0
      let pipes : Vector Pipe 6 := Vector.ofFn fun c : Chan =>
        if set.getLsbD c.val then { s.pipes[c] with pendingMode := some mode, pendingReq := some ⟨k, tag, set⟩ }
        else if s.pipes[c].pendingReq.any (fun r => overlaps r) then
          { s.pipes[c] with pendingMode := none, pendingReq := none }
        else s.pipes[c]
      ((∀ c : Chan, ∀ r, s.pipes[c].pendingReq = some r → ¬ overlaps r) →
        exec (.channelMode k tag ps) s = .next (State.kept k (.command tag 8 ps) { p with pipes := pipes })) ∧
      ∀ r, overlaps r → (∃ c : Chan, s.pipes[c].pendingReq = some r) →
        (∀ c : Chan, ∀ r', s.pipes[c].pendingReq = some r' → overlaps r' → r' = r) →
        exec (.channelMode k tag ps) s =
          .next (State.kept k (.command tag 8 ps)
            { p.complete r.link r.tag .superseded [] with pipes := pipes })) ∧
    (ps = [] → exec (.barrierLimit k tag ps) s = .next (p.reply k tag .invalid [])) ∧
    ∀ (v : Byte) (rest : List Byte), ps = v :: rest →
      let barrier := { s.barrier with pendingLimit := some v.toNat, pendingReq := some (k, tag) }
      (s.barrier.pendingReq = none →
        exec (.barrierLimit k tag ps) s = .next (State.kept k (.command tag 9 ps) { p with barrier := barrier })) ∧
      ∀ j t, s.barrier.pendingReq = some (j, t) →
        exec (.barrierLimit k tag ps) s =
          .next (State.kept k (.command tag 9 ps) { p.complete j t .superseded [] with barrier := barrier })

/-- R55, R82, R109, R114 to R118: at a tick the counter rises by 1; each pending mode is applied with the tick's count,
and its request completes SUCCESS with that count; a channel that enters OFF or STANDBY loses its frames; an output frame
ends, cut short when its rows are not all sent, and the next begins from the mode, record and slot as they then stand,
unless the channel is OFF. R55, R97, R142: what a tick does to every other block is the application of the modes, the
barrier decision, the test of the pending commit on the decision's report, and the adoptions, in that order; a request
that the modes complete would wait for Staging no longer, but with distinct tags (R192) none waits, and the modes leave
Staging as it is. R27, R28, R115: the new frame's pixels are computed from those, and leave the port row by row, each row
from column 0 on. -/
def Obligations.TicksApplyModesAndStartFrames : Prop :=
  ∀ (s : State),
    let t := s.tick
    let count := s.timebase.tickCount + 1
    t.timebase = { s.timebase with tickCount := count, lastTick := s.timebase.now, lockEdge := none } ∧
    (let counted := { s with timebase := t.timebase }
     let moded := counted.applyModes count
     let decided := moded.barrierDecision (Vector.ofFn fun c : Chan => s.pipes[c].mode)
     let activated := decided.1.testActivation decided.2
     let adopted := eachChan State.adoption (List.finRange 6) activated
     t = { adopted with pipes := t.pipes } ∧ moded.barrier = s.barrier ∧
       moded.staging = { s.staging with waiting := moded.staging.waiting } ∧
       (∀ w, w ∈ moded.staging.waiting ↔ w ∈ s.staging.waiting ∧
         ∀ c : Chan, ∀ q, s.pipes[c].pendingReq = some q → w ≠ .request q.link q.tag) ∧
       ((∀ c : Chan, ∀ q, s.pipes[c].pendingReq = some q → .request q.link q.tag ∉ s.staging.waiting) →
         moded.staging = s.staging) ∧
       (∀ c : Chan, s.pipes[c].pendingMode = none → moded.capture[c] = s.capture[c]) ∧
       ∀ c : Chan, adopted.slots c =
         match newestOf (activated.slots c).readyFrames with
         | some n =>
           if (activated.pipes[c].mode).frozen = true ∧ (activated.slots c).hasShowing = false then
             (activated.slots c).adopt n
           else activated.slots c
         | none => activated.slots c) ∧
    ∀ c : Chan,
      let new := s.pipes[c].pendingMode.getD s.pipes[c].mode
      let r := t.activeRecord c
      t.pipes[c] =
        { mode := new
          pendingMode := none
          pendingReq := if s.pipes[c].pendingMode.isSome then none else s.pipes[c].pendingReq
          modeTick := if s.pipes[c].pendingMode.isSome then some count else s.pipes[c].modeTick
          frame :=
            if new = .off then none
            else some
              { start := s.timebase.now, mode := new, bank := t.activeBank c, source := (t.slots c).source
                width := Rec.clampedNat r 4, height := Rec.clampedNat r 6
                rowTime := Config.nominalPeriod s.timebase.rate / (Rec.clampedNat r 6 + 40) }
          lastEnd := s.pipes[c].frame.map fun f =>
            let d := s.timebase.now - f.start
            if f.height * f.rowTime ≤ d then
              { length := d, rowsWhole := f.height, cut := 0, blanking := d - f.height * f.rowTime }
            else { length := d, rowsWhole := d / f.rowTime, cut := d % f.rowTime, blanking := 0 } } ∧
      (new ≠ s.pipes[c].mode → new = .off ∨ new = .standby →
        t.slots c = #v[.free, .free, .free] ∧ t.capture[c].stale = 0) ∧
      (∀ q, s.pipes[c].pendingReq = some q → s.links[q.link].up = true →
        .completion q.tag .success 0 (word32Bytes count) [] ∈ t.links[q.link].sendQ) ∧
      (new = .hold ∨ new = .flat ∨ new = .grid → (t.slots c).hasShowing = false → (t.slots c).readyFrames = []) ∧
      t.portFrameCodes c =
        (if new = .off then none
        else some ((List.range (Rec.clampedNat r 6)).map fun y => (List.range (Rec.clampedNat r 4)).map fun x =>
          outputPixel t.frameMem r c new (t.slots c).source x y)) ∧
      ∀ (later : Nat) (f : OutFrame), t.pipes[c].frame = some f →
        let u := { t with timebase := { t.timebase with now := f.start + later } }
        let y := later / f.rowTime
        u.portSends c =
          if y < f.height then
            some ((List.range f.width).map fun x => outputPixel t.frameMem r c new (t.slots c).source x y)
          else none

/-! ### Staging -/

/-- R126: HOLD_ACQUIRE, by the first case that applies. -/
def Obligations.HoldAcquireIsJudgedInOrder : Prop :=
  ∀ (s : State) (k : LinkId) (tag : Byte) (ps : List Byte), s.takes k tag roleAlign ps →
    let p := s.asked k tag
    exec (.holdAcquire k tag ps) s = .next
      (if s.staging.hold = some k then p.reply k tag .success []
      else if s.scanner.lock = true then p.reply k tag .locked []
      else if s.staging.hold ≠ none then p.reply k tag .held []
      else if s.staging.state ≠ .openState then p.reply k tag .busy []
      else (({ p with staging := { p.staging with hold := some k } } : State).raise .holdOwner).reply k tag .success [])

/-- R127, R128, R140: HOLD_RELEASE and COMMIT_CANCEL from a link that does not hold complete NOT_HOLDER, HOLD_BREAK with no
hold SUCCESS; otherwise each cancels a pending commit of the holder, which completes CANCELLED and leaves staging OPEN,
and the first two end the hold, with HOLD_OWNER. -/
def Obligations.HoldsEndAndCommitsAreCancelled : Prop :=
  ∀ (s : State) (k : LinkId) (tag : Byte) (ps : List Byte), s.stagingOk → s.calm → s.canAsk k tag → ps.length ≤ 16 →
    let p := s.asked k tag
    let ended := fun u : State => ({ u with staging := { u.staging with hold := none } } : State).raise .holdOwner
    let freed := fun (j : LinkId) (t : Byte) =>
      ({ p.complete j t .cancelled [] with
        staging := { s.staging with commit := none, state := .openState, owner := none } } : State)
    (hasRole s.links[k].roles roleAlign = true →
      (s.staging.hold ≠ some k →
        exec (.holdRelease k tag ps) s = .next (p.reply k tag .notHolder []) ∧
        exec (.commitCancel k tag ps) s = .next (p.reply k tag .notHolder [])) ∧
      (s.staging.hold = some k → s.staging.state ≠ .commitPending →
        exec (.holdRelease k tag ps) s = .next ((ended p).reply k tag .success []) ∧
        exec (.commitCancel k tag ps) s = .next (p.reply k tag .success [])) ∧
      (s.staging.hold = some k → ∀ c t, s.staging.commit = some c → c.owner = .link k t →
        exec (.holdRelease k tag ps) s = .next ((ended (freed k t)).reply k tag .success []) ∧
        exec (.commitCancel k tag ps) s = .next ((freed k t).reply k tag .success []))) ∧
    (hasRole s.links[k].roles roleShow = true →
      (s.staging.hold = none → exec (.holdBreak k tag ps) s = .next (p.reply k tag .success [])) ∧
      (s.staging.hold ≠ none → s.staging.state ≠ .commitPending →
        exec (.holdBreak k tag ps) s = .next ((ended p).reply k tag .success [])) ∧
      ∀ j, s.staging.hold = some j → ∀ c t, s.staging.commit = some c → c.owner = .link j t →
        exec (.holdBreak k tag ps) s = .next ((ended (freed j t)).reply k tag .success []))

/-- R130 to R132: a WRITE to a staging record or header, by the first case that applies: refused with REFUSED and its
status as the last refusal (R201), applied, or stalled at the head of its queue with its units held. -/
def Obligations.StagingWritesAreJudgedInOrder : Prop :=
  ∀ (s : State) (k : LinkId) (offset : Word32) (payload : List Byte) (target : CalTarget),
    let m := writeMsg offset payload target
    s.calm → s.canPost k m → payload.length ≤ 256 →
    exec (writeCommand k offset payload target) s = .next
      (if s.links[k].roles &&& roleAlign = 0 then (s.refused k m .denied).beginSends
      else if ¬ (offset.toNat < target.size ∧ offset.toNat + payload.length ≤ target.size) then
        (s.refused k m .invalid).beginSends
      else if s.scanner.lock = true then (s.refused k m .locked).beginSends
      else if s.staging.hold = none then (s.refused k m .notHolder).beginSends
      else if s.staging.hold ≠ some k then (s.refused k m .held).beginSends
      else if s.staging.state = .openState then
        ((s.writeTarget offset.toNat payload target).returned k m).beginSends
      else
        State.beginSends
          { s.modLink k (fun l => { l with rx := [m], unitsHeld := l.unitsHeld + m.cost }) with
            staging := { s.staging with waiting := [.write k] } })

/-- R14, R15, R21, R22, R132: what an applied WRITE stores in a staging record: every field it touches composed and
clamped whole, read-only and ignored bytes kept, the origin EDITED; every other byte of calibration memory is kept, and
an empty payload changes nothing. The limits of each field are those of R8's tables. R24, R132: an applied WRITE to the
staging set header stores the bytes of the set name as written; the generation and the ignored bytes are kept, and so is
all else. -/
def Obligations.WrittenFieldsAreComposedAndClamped : Prop :=
  (∀ (s : State) (offset : Nat) (payload : List Byte), offset + payload.length ≤ 32 →
    let t := s.writeTarget offset payload .header
    (payload = [] → t = s) ∧
    (∀ a < 32, Cells.read zeroByte t.stagingHeader a =
      if a < 16 ∧ offset ≤ a ∧ a < offset + payload.length then (payload[a - offset]?).getD 0
      else Cells.read zeroByte s.stagingHeader a) ∧
    t.activeHeader = s.activeHeader ∧ (∀ (b : Bank) (c : Chan), t.record b c = s.record b c) ∧
    t = { s with banks := t.banks }) ∧
  ∀ (s : State) (c : Chan) (offset : Nat) (payload : List Byte) (a : Nat), offset + payload.length ≤ 103498 →
    let t := s.writeTarget offset payload (.record c)
    let r := s.stagingRecord c
    let f := recordField a
    let composed := fun start size : Nat => (List.range size).map fun j =>
      if offset ≤ start + j then (payload[start + j - offset]?).getD (Cells.read defaultByte r (start + j))
      else Cells.read defaultByte r (start + j)
    (payload = [] → t = s) ∧
    (payload ≠ [] → a < 103498 → Cells.read defaultByte (t.stagingRecord c) a =
      if a = 44 then 2 else if a = 45 then 0
      else if f.treat ≠ .fixed ∧ f.start < offset + payload.length ∧ offset < f.start + f.size then
        ((f.treat.store (composed f.start f.size))[a - f.start]?).getD 0
      else Cells.read defaultByte r a) ∧
    (let stored := fun start size : Nat => Cells.bytes defaultByte (t.stagingRecord c) start size
     let touched := fun start size : Nat =>
       payload ≠ [] ∧ start < offset + payload.length ∧ offset < start + size
     let unsigned := fun start size lo hi : Nat =>
       touched start size → leNat (stored start size) = clampNat lo hi (leNat (composed start size))
     let signed := fun (start size : Nat) (lo hi : Int) =>
       touched start size → leInt (stored start size) = clampInt lo hi (leInt (composed start size))
     (unsigned 0 2 64 4096 ∧ unsigned 2 2 64 2160 ∧ unsigned 4 2 640 2560 ∧ unsigned 6 2 480 1600) ∧
     (unsigned 8 1 4 7 ∧ unsigned 9 1 4 7 ∧ unsigned 10 1 4 8 ∧ unsigned 11 1 4 8) ∧
     (∀ i < 9, signed (12 + 2 * i) 2 (-8192) 8191) ∧
     (unsigned 30 2 0 1023 ∧ unsigned 32 2 0 1023 ∧ unsigned 34 2 0 1023 ∧ unsigned 36 1 3 8) ∧
     (∀ i < 4225, signed (64 + 8 * i) 3 (-524288) 524287 ∧ signed (67 + 8 * i) 3 (-524288) 524287 ∧
       (touched (70 + 8 * i) 1 → stored (70 + 8 * i) 1 = (composed (70 + 8 * i) 1).map fun b => b &&& 1) ∧
       stored (71 + 8 * i) 1 = Cells.bytes defaultByte r (71 + 8 * i) 1) ∧
     (∀ i < 16384, unsigned (33864 + 4 * i) 2 0 4096 ∧ unsigned (33866 + 4 * i) 2 0 4095) ∧
     (∀ i < 1024, touched (99400 + 2 * i) 2 → stored (99400 + 2 * i) 2 = composed (99400 + 2 * i) 2) ∧
     (∀ i < 1025, unsigned (101448 + 2 * i) 2 0 1023) ∧
     stored 37 7 = Cells.bytes defaultByte r 37 7 ∧ stored 46 18 = Cells.bytes defaultByte r 46 18) ∧
    t.activeRecord c = s.activeRecord c ∧ t.activeHeader = s.activeHeader ∧ t.stagingHeader = s.stagingHeader ∧
    (∀ x : Chan, x ≠ c → t.stagingRecord x = s.stagingRecord x ∧ t.activeRecord x = s.activeRecord x) ∧
    t = { s with banks := t.banks }

/-- R179, R190, R201: a WRITE to SETUP is refused DENIED without SHOW and INVALID outside the 32 bytes; applied, it changes
the staged copy alone, each field as R178 treats it: a share is 0 or clamped to 32 … 480, a role byte keeps its bits 0 … 2,
rate code and reference source are clamped, the late limit is stored as written, a boot preset above 7 is stored as FFh,
and the bytes from 16 on are kept. A WRITE that names no region or a read-only one is refused INVALID. -/
def Obligations.OtherWritesAreJudged : Prop :=
  ∀ (s : State) (k : LinkId) (region channel : Byte) (offset : Word32) (payload : List Byte), s.calm →
    payload.length ≤ 256 →
    let m4 := Msg.write 4 0 offset payload
    let m := Msg.write region channel offset payload
    (s.canPost k m4 →
      exec (.setupWrite k offset payload) s = .next
        (if s.links[k].roles &&& roleShow = 0 then (s.refused k m4 .denied).beginSends
        else if ¬ (offset.toNat < 32 ∧ offset.toNat + payload.length ≤ 32) then (s.refused k m4 .invalid).beginSends
        else
          (({ s with preset := { s.preset with
            setup := applyWrite setupField zeroByte s.preset.setup offset.toNat payload } } : State).returned k
              m4).beginSends)) ∧
    (offset.toNat + payload.length ≤ 32 →
      let old := s.preset.setup
      let new := applyWrite setupField zeroByte old offset.toNat payload
      let byte := fun a : Nat => Cells.read zeroByte new a
      let touched := fun start size : Nat =>
        payload ≠ [] ∧ start < offset.toNat + payload.length ∧ offset.toNat < start + size
      let composed := fun a : Nat =>
        if offset.toNat ≤ a then (payload[a - offset.toNat]?).getD (Cells.read zeroByte old a)
        else Cells.read zeroByte old a
      (∀ i < 4, touched (2 * i) 2 →
        let v := (composed (2 * i)).toNat + 256 * (composed (2 * i + 1)).toNat
        (byte (2 * i)).toNat + 256 * (byte (2 * i + 1)).toNat =
          if v = 0 then 0 else if v < 32 then 32 else if 480 < v then 480 else v) ∧
      (∀ i < 4, touched (8 + i) 1 → byte (8 + i) = composed (8 + i) &&& 7) ∧
      (touched 12 1 → (byte 12).toNat = min 9 (composed 12).toNat) ∧
      (touched 13 1 → (byte 13).toNat = min 1 (composed 13).toNat) ∧
      (touched 14 1 → byte 14 = composed 14) ∧
      (touched 15 1 → byte 15 = if (composed 15).toNat ≤ 7 then composed 15 else 0xFF) ∧
      (∀ i < 4, ¬ touched (2 * i) 2 → byte (2 * i) = Cells.read zeroByte old (2 * i) ∧
        byte (2 * i + 1) = Cells.read zeroByte old (2 * i + 1)) ∧
      ∀ a : Nat, (8 ≤ a ∧ a < 16 ∧ ¬ touched a 1) ∨ 16 ≤ a → byte a = Cells.read zeroByte old a) ∧
    (s.canPost k m → (4 < region.toNat ∨ region = 1 ∨ region = 3 ∨ region = 0 ∧ 5 < channel.toNat) →
      exec (.write k region channel offset payload) s = .next (s.refused k m .invalid).beginSends)

/-- R125, R133, R199: a READ of staging is completed at once with the bytes of the record or header in OPEN and
COMMIT_PENDING, and otherwise waits in the wait list; served, it completes in the same way, and a stalled WRITE of the
holder is applied when staging is OPEN. R125, R166: of two that wait, the older is served first; a PRESET_LOAD that takes
staging ends the serving, and those behind it go on waiting; so does a repair that is due, whose start is REPAIR_BEGIN
(notes/assumptions/23.md); a COMMIT or PRESET_LOAD that is served is judged as though it had just arrived. -/
def Obligations.StagingReadsWaitAndAreServed : Prop :=
  (∀ (s : State) (k : LinkId) (tag : Byte) (target : CalTarget) (offset : Word32) (length : BitVec 16),
    hasRole s.links[k].roles roleView = true → length.toNat ≠ 0 → length.toNat ≤ 4096 →
    offset.toNat + length.toNat ≤ target.size → s.links[k].up = true →
    let m := Msg.read tag (targetRegion target) (targetChannel target) offset length
    let content := ((s.targetBytes target).drop offset.toNat).take length.toNat
    let able := s.staging.state = .openState ∨ s.staging.state = .commitPending
    let answered := fun u : State => (u.modLink k fun l =>
      { l with
        wait := l.wait.filter fun x => x.tag? ≠ some tag
        sendQ := l.sendQ ++ [.completion tag .success offset (content.take 256) (content.drop 256)] }).beginSends
    (s.calm → s.canAsk k tag →
      (able → exec (.stagingRead k tag target offset length) s = .next (answered (s.asked k tag))) ∧
      (¬ able → m ∉ s.links[k].wait → exec (.stagingRead k tag target offset length) s =
        .next (State.beginSends
          { s.modLink k (fun l => { l with outstanding := l.outstanding ++ [tag], wait := l.wait ++ [m] }) with
            staging := { s.staging with waiting := [.request k tag] } }))) ∧
    (s.staging.waiting = [.request k tag] → s.waitingMsg k tag = some m → able →
      exec .serveWaitingRequests s = .next (answered { s with staging := { s.staging with waiting := [] } })) ∧
    ∀ (o : Word32) (payload : List Byte), hasRole s.links[k].roles roleAlign = true → s.scanner.lock = false →
      o.toNat < target.size → o.toNat + payload.length ≤ target.size → s.staging.hold = some k →
      s.staging.state = .openState → s.links[k].rx = [writeMsg o payload target] → s.staging.waiting = [.write k] →
      exec .serveWaitingRequests s =
        .next ((({ s.writeTarget o.toNat payload target with staging := { s.staging with waiting := [] } } : State).modLink
          k (Link.leavePosted (writeMsg o payload target))).beginSends)) ∧
  (∀ (s : State) (k j : LinkId) (tag tag' : Byte) (target target' : CalTarget) (offset offset' : Word32)
      (length length' : BitVec 16),
    let reads := fun (k : LinkId) (tag : Byte) (target : CalTarget) (offset : Word32) (length : BitVec 16) =>
      s.waitingMsg k tag = some (.read tag (targetRegion target) (targetChannel target) offset length) ∧
      hasRole s.links[k].roles roleView = true ∧ length.toNat ≠ 0 ∧ length.toNat ≤ 4096 ∧
      offset.toNat + length.toNat ≤ target.size ∧ s.links[k].up = true
    let answer := fun (k : LinkId) (tag : Byte) (target : CalTarget) (offset : Word32) (length : BitVec 16) (u : State) =>
      let content := ((s.targetBytes target).drop offset.toNat).take length.toNat
      u.modLink k fun l =>
        { l with
          wait := l.wait.filter fun x => x.tag? ≠ some tag
          sendQ := l.sendQ ++ [.completion tag .success offset (content.take 256) (content.drop 256)] }
    s.staging.waiting = [.request k tag, .request j tag'] → ¬ (k = j ∧ tag = tag') →
    s.staging.state = .openState ∨ s.staging.state = .commitPending →
    reads k tag target offset length → reads j tag' target' offset' length' →
    exec .serveWaitingRequests s =
      .next (answer j tag' target' offset' length' (answer k tag target offset length
        { s with staging := { s.staging with waiting := [] } })).beginSends) ∧
  (∀ (s : State) (k : LinkId) (tag : Byte) (ps : List Byte) (sl : SlotId) (behind : List Claimant),
    s.staging.waiting = .request k tag :: behind → .request k tag ∉ behind →
    s.waitingMsg k tag = some (.command tag 0x0B ps) → hasRole s.links[k].roles roleAlign = true →
    s.scanner.lock = false → s.staging.hold = some k → slotParam ps = some sl → s.slotState sl ≠ .empty →
    s.slotState sl ≠ .corrupt → s.staging.state = .openState → s.preset.nv = none →
    exec .serveWaitingRequests s = .next (State.beginSends
      { s with
        preset := { s.preset with
          nv := some (.load sl (.link k)), requester := some { link := k, tag := tag, live := true }
          progress := some { landing := 0, sound := [] } }
        staging := { s.staging with state := .loading, owner := some (.link k), waiting := behind } })) ∧
  (∀ (s : State) (behind : List Claimant), s.staging.waiting = .repair :: behind → s.scanner.queue ≠ [] →
    s.scanner.repair = none → s.staging.state = .openState → s.preset.nv = none →
    exec .serveWaitingRequests s = .next s.beginSends) ∧
  ∀ (u : State) (k : LinkId) (tag : Byte) (ps : List Byte), u.calm → u.canAsk k tag → ps.length ≤ 16 →
    u.staging.state = .openState → (∀ m ∈ u.links[k].wait, m.tag? ≠ some tag) →
    let waits := fun m : Msg =>
      ({ u.modLink k (fun l => { l with outstanding := l.outstanding ++ [tag], wait := l.wait ++ [m] }) with
        staging := { u.staging with waiting := [.request k tag] } } : State)
    exec .serveWaitingRequests (waits (.command tag 0x04 ps)) = exec (.commit k tag ps) u ∧
    exec .serveWaitingRequests (waits (.command tag 0x0B ps)) = exec (.presetLoad k tag ps) u

/-- R134 to R139: COMMIT: its parameters, the hold, the staging state, a store in flight, the checksum over the staging
records of the set with header bytes 37 … 63 as zero, and the grid and span checks, in that order; accepted, it is
pending for its link and kept. -/
def Obligations.CommitIsJudgedInOrder : Prop :=
  ∀ (s : State) (k : LinkId) (tag : Byte) (ps : List Byte), s.takes k tag roleAlign ps →
    let p := s.asked k tag
    let bad := ps.length < 10 ∨ byteAt ps 0 = 0 ∨ 63 < (byteAt ps 0).toNat ∨ 1 < (byteAt ps 1).toNat
    (bad → exec (.commit k tag ps) s = .next (p.reply k tag .invalid [])) ∧
    (¬ bad →
      let set : ChanSet := (byteAt ps 0).setWidth 6
      let kind : Activation := if byteAt ps 1 = 0 then .nextTick else .atFrame (BitVec.ofNat 32 (field ps 2 4))
      let records := s.stagingSet set
      let crc := crc32 (records.flatMap fun q =>
        Cells.bytes defaultByte q.2 0 37 ++ List.replicate 27 0 ++ Cells.bytes defaultByte q.2 64 103434)
      exec (.commit k tag ps) s = .next
        (if s.staging.hold = none then p.reply k tag .notHolder []
        else if s.staging.hold ≠ some k then p.reply k tag .held []
        else if s.staging.state ≠ .openState then
          State.kept k (.command tag 4 ps) { p with staging := { s.staging with waiting := [.request k tag] } }
        else if s.storeInFlight = true then p.reply k tag .busy []
        else if crc.toNat ≠ field ps 6 4 then p.reply k tag .checkMismatch (word32Bytes crc)
        else
          match checkRecords records with
          | some (.grid c) => p.reply k tag .validationFailed [0, BitVec.ofNat 8 c.val, 0]
          | some (.span c j) => p.reply k tag .validationFailed [1, BitVec.ofNat 8 c.val, BitVec.ofNat 8 j]
          | none =>
            State.kept k (.command tag 4 ps)
              { p with
                staging := { s.staging with
                  state := .commitPending
                  owner := some (.link k)
                  commit := some { owner := .link k tag, set := set, kind := kind } } }))

/-- R137, R138: the checks pass exactly when every grid is at most 65 × 65 and, in every band of node rows, any two
unmasked nodes' v lie within the span limit. A failure names the first channel that fails the grid check; with every grid
in bounds, the first channel that fails the span check, with its first band that fails. A COMMIT checks the staging records
of its set in increasing channel order. -/
def Obligations.CommitChecksPassExactlyWhen : Prop :=
  let gridPasses := fun q : Chan × Cells => Rec.gx q.2 ≤ 65 ∧ Rec.gy q.2 ≤ 65
  let bandPasses := fun (q : Chan × Cells) (j : Nat) =>
    let r := q.2
    ∀ i i' k k' : Nat, i < Rec.gx r → i' < Rec.gx r → (k = j ∨ k = j + 1) → (k' = j ∨ k' = j + 1) →
      let a := 64 + 8 * (k * Rec.gx r + i)
      let a' := 64 + 8 * (k' * Rec.gx r + i')
      (Cells.read defaultByte r (a + 6)).getLsbD 0 = false → (Cells.read defaultByte r (a' + 6)).getLsbD 0 = false →
      Rec.int r (a + 3) 3 / 64 - Rec.int r (a' + 3) 3 / 64 + 2 ≤ 256
  let spanPasses := fun q : Chan × Cells => ∀ j < Rec.gy q.2 - 1, bandPasses q j
  (∀ rs : List (Chan × Cells), checkRecords rs = none ↔ ∀ q ∈ rs, gridPasses q ∧ spanPasses q) ∧
  (∀ (rs : List (Chan × Cells)) (c : Chan), checkRecords rs = some (.grid c) ↔
    ∃ before r after, rs = before ++ (c, r) :: after ∧ (∀ q ∈ before, gridPasses q) ∧ ¬ gridPasses (c, r)) ∧
  (∀ (rs : List (Chan × Cells)) (c : Chan) (j : Nat), checkRecords rs = some (.span c j) ↔
    (∀ q ∈ rs, gridPasses q) ∧
      ∃ before r after, rs = before ++ (c, r) :: after ∧ (∀ q ∈ before, spanPasses q) ∧
        j < Rec.gy r - 1 ∧ ¬ bandPasses (c, r) j ∧ ∀ j' < j, bandPasses (c, r) j') ∧
  ∀ (s : State) (set : ChanSet),
    (∀ q, q ∈ s.stagingSet set ↔ set.getLsbD q.1.val = true ∧ q.2 = s.stagingRecord q.1) ∧
    (s.stagingSet set).Pairwise fun q q' => q.1 < q'.1

/-- R13, R14, R83, R142 to R144, R156, R160: a pending commit is activated when its condition is met, and only then. The
generation rises by 1; the selectors of the set and of the header flip; each newly active structure has its staging bytes
with the new generation, and the one that was active becomes staging unchanged; READY frames of the old size are freed;
ACTIVATED is pending on every link; staging is in COPYBACK, and so is a repair. Under the show lock the channels of the set
drop their references and repair sources, and a pass over one of them is abandoned: the next begins at the next channel
that is not FAULT. -/
def Obligations.ActivationSwitchesTheSet : Prop :=
  ∀ (s : State) (p : PendingCommit) (swapped : Option Word32), s.staging.state = .commitPending →
    s.staging.commit = some p →
    let t := s.testActivation swapped
    let g := s.staging.gen + 1
    let inSet := fun c : Chan => p.set.getLsbD c.val = true
    let met := p.kind = .nextTick ∨ ∃ n f, p.kind = .atFrame n ∧ swapped = some f ∧ (f = n ∨ newer f n = true)
    (¬ met → t = s) ∧
    (met →
      (t.staging.gen = g ∧ t.staging.state = .copyBack ∧ t.staging.commit = none ∧ t.staging.hold = s.staging.hold ∧
        t.staging.owner = s.staging.owner ∧ t.staging.copyList = (List.finRange 6).filter (fun c => inSet c) ∧
        t.staging.setSel = otherBank s.staging.setSel) ∧
      (∀ c : Chan, inSet c → t.staging.sel[c] = otherBank s.staging.sel[c] ∧
        t.activeRecord c = Cells.write defaultByte (s.stagingRecord c) 40 (word32Bytes g) ∧
        t.stagingRecord c = s.activeRecord c ∧
        t.slots c =
          if Rec.wIn (t.activeRecord c) = Rec.wIn (s.activeRecord c) ∧ Rec.hIn (t.activeRecord c) = Rec.hIn (s.activeRecord c)
          then s.slots c else (s.slots c).freeReady) ∧
      (∀ c : Chan, ¬ inSet c → t.staging.sel[c] = s.staging.sel[c] ∧ t.activeRecord c = s.activeRecord c ∧
        t.stagingRecord c = s.stagingRecord c ∧ t.slots c = s.slots c ∧ t.scanner.watch[c] = s.scanner.watch[c]) ∧
      t.activeHeader = Cells.write zeroByte s.stagingHeader 16 (word32Bytes g) ∧ t.stagingHeader = s.activeHeader ∧
      (∀ k : LinkId, t.links[k].pending = s.links[k].pending ||| EventKind.activated.bit) ∧
      (∀ k tag, p.owner = .link k tag → s.links[k].up = true →
        .completion tag .success 0 (word32Bytes g) [] ∈ t.links[k].sendQ) ∧
      (∀ c : Chan, inSet c → s.scanner.lock = true → t.scanner.watch[c] =
        { s.scanner.watch[c] with
          reference := none, source := none
          state := if s.scanner.watch[c].state = .fault then .fault else .referencePending }) ∧
      (s.scanner.lock = false → t.scanner.watch = s.scanner.watch ∧ t.scanner.pass = s.scanner.pass) ∧
      (∀ q, s.scanner.pass = some q → ¬ inSet q.chan → t.scanner.pass = some q) ∧
      (s.scanner.lock = true → ∀ q, s.scanner.pass = some q → inSet q.chan → t.scanner.pass =
        (([q.chan + 1, q.chan + 2, q.chan + 3, q.chan + 4, q.chan + 5, q.chan].find? fun x : Chan =>
          decide (s.scanner.watch[x].state ≠ .fault)).map fun x => { chan := x, view := t.activeRecord x })) ∧
      (s.scanner.pass = none → t.scanner.pass = none) ∧
      t.scanner = { s.scanner with
        watch := t.scanner.watch
        pass := t.scanner.pass
        repair := s.scanner.repair.map fun r => { r with phase := .copyBack } })

/-- R13, R14, R24, R146, R160: a copy of copy-back ends: the staging record equals the active one but for origin
ACTIVE_COPY; with the last, the set name is copied and staging is OPEN, and a repair ends with REPAIRED and its channel
REFERENCE_PENDING. -/
def Obligations.CopyBackEndsChannelByChannel : Prop :=
  ∀ (s : State) (c : Chan) (rest : List Chan), s.staging.state = .copyBack → s.staging.copyList = c :: rest →
    let u := s.setStagingRecord c (Cells.write defaultByte (s.activeRecord c) 44 [3, 0])
    let name := Cells.bytes zeroByte s.activeHeader 0 16
    let v : State :=
      { u.setStagingHeader (Cells.write zeroByte s.stagingHeader 0 name) with
        staging := { s.staging with copyList := [], state := .openState, owner := none } }
    (rest ≠ [] → exec .copyBackCopyEnd s =
      .next (State.beginSends { u with staging := { s.staging with copyList := rest } })) ∧
    (rest = [] → s.staging.waiting = [] → s.scanner.repair = none → exec .copyBackCopyEnd s = .next v.beginSends) ∧
    (rest = [] → s.staging.waiting = [] → ∀ r, s.scanner.repair = some r →
      exec .copyBackCopyEnd s =
        .next ((({ v with scanner := { s.scanner with
          repair := none
          report := .repaired r.chan
          watch := s.scanner.watch.set r.chan
            { s.scanner.watch[r.chan] with state := .referencePending, reference := none, source := none }
          pass := if s.scanner.lock = true ∧ s.scanner.pass = none then
            some { chan := r.chan, view := s.activeRecord r.chan } else s.scanner.pass } } :
              State).raise .integrity).beginSends))

/-! ### The show lock and the scanner -/

/-- R150, R151: SHOW_LOCK and SHOW_UNLOCK, by the first case that applies; neither raises an event. -/
def Obligations.ShowLockAndUnlock : Prop :=
  ∀ (s : State) (k : LinkId) (tag : Byte) (ps : List Byte), s.takes k tag roleShow ps →
    let p := s.asked k tag
    exec (.showLock k tag ps) s = .next
      (if s.scanner.lock = true then p.reply k tag .success []
      else if s.staging.hold ≠ none then p.reply k tag .held []
      else if s.staging.state ≠ .openState then p.reply k tag .busy []
      else
        State.reply k tag .success []
          { p with scanner := { s.scanner with
            lock := true
            watch := Vector.ofFn fun c : Chan =>
              { state := .referencePending, reference := none, source := none, checks := 0 }
            pass := some { chan := 0, view := s.activeRecord 0 } } }) ∧
    exec (.showUnlock k tag ps) s = .next
      (if s.scanner.lock = false then p.reply k tag .success []
      else if s.scanner.repair ≠ none then p.reply k tag .busy []
      else
        State.reply k tag .success []
          { p with scanner := { s.scanner with
            lock := false
            watch := Vector.ofFn fun c : Chan =>
              { s.scanner.watch[c] with state := .idle, reference := none, source := none }
            pass := none
            queue := [] } })

/-- R153 to R155, R157: a pass ends. A REFERENCE_PENDING channel takes its CRC-32 and its repair source; a CHECKING one
counts a check, and when the CRC differs it is FAULT, reported with INTEGRITY, and queued when its source slot is VALID,
whatever Staging and the NV controller are doing. That the pass's end begins no repair, which REPAIR_BEGIN alone does, and
that the repair takes its place at the end of the waiting order, is the model's choice (notes/assumptions/23.md). The next
pass begins at the next channel that is not FAULT. An origin slot above 7 gives repair source NONE, the model's choice
(notes/assumptions/34.md). -/
def Obligations.ScannerPassesEnd : Prop :=
  ∀ (s : State) (p : Pass), s.scanner.pass = some p →
    let c := p.chan
    let w := s.scanner.watch[c]
    let crc := crc32 (Cells.bytes defaultByte p.view 0 103498)
    let origin := (Cells.read defaultByte p.view 44, Cells.read defaultByte p.view 45)
    let source : RepairSource :=
      if origin.1 = 1 then (match slotOf origin.2 with | some sl => .slot sl | none => .none) else .none
    let after := fun (w' : Watch) (u : State) =>
      let watch := s.scanner.watch.set c w'
      ({ u with scanner := { u.scanner with
        watch := watch
        pass := ([c + 1, c + 2, c + 3, c + 4, c + 5, c].find? fun x : Chan => decide (watch[x].state ≠ .fault)).map
          fun x => { chan := x, view := s.activeRecord x } } } : State)
    let valid := ∃ sl, w.source = some (.slot sl) ∧ s.slotState sl = .valid
    let faulty := { w with state := .fault, checks := w.checks + 1 }
    let told := ({ s with scanner := { s.scanner with report := .fault c } } : State).raise .integrity
    (w.state = .referencePending → exec .scanPassEnd s =
      .next (after { w with state := .checking, reference := some crc, source := some source } s).beginSends) ∧
    (w.state = .checking → w.reference = some crc → exec .scanPassEnd s =
      .next (after { w with checks := w.checks + 1 } s).beginSends) ∧
    (w.state = .checking → w.reference ≠ some crc → ¬ valid →
      exec .scanPassEnd s = .next (after faulty told).beginSends) ∧
    (w.state = .checking → w.reference ≠ some crc → valid →
      exec .scanPassEnd s = .next (after faulty
        { told with
          scanner := { told.scanner with queue := s.scanner.queue ++ [c] }
          staging := { s.staging with
            waiting := if .repair ∈ s.staging.waiting then s.staging.waiting else s.staging.waiting ++ [.repair] } }).beginSends)

/-- R158: REPAIR_BEGIN, with staging OPEN, the NV controller idle and no repair in progress: channels leave the queue from
its head. One whose slot is not VALID is not repaired, which is reported with INTEGRITY, and the next is tried; for the
first whose slot is VALID the repair begins, staging is LOADING for it, the slot is being read, and the rest of the queue
stays. That the repair next in the queue then waits behind the other claimants is the model's choice
(notes/assumptions/23.md). With no channel queued, or when one of the conditions fails, nothing begins. -/
def Obligations.RepairsBegin : Prop :=
  ∀ s : State,
    let able := s.scanner.queue ≠ [] ∧ s.scanner.repair = none ∧ s.staging.state = .openState ∧ s.preset.nv = none
    let fails := fun c : Chan => ∀ sl, s.scanner.watch[c].source = some (.slot sl) → s.slotState sl ≠ .valid
    let told := fun failed : List Chan =>
      match failed.getLast? with
      | some c =>
        ({ s with scanner := { s.scanner with report := .repairFailed c } } : State).raise .integrity
      | none => s
    (¬ able → exec .repairBegin s = .next s.beginSends) ∧
    (∀ (failed : List Chan) (c : Chan) (rest : List Chan) (sl : SlotId), s.scanner.queue = failed ++ c :: rest → able →
      (∀ x ∈ failed, fails x) → s.scanner.watch[c].source = some (.slot sl) → s.slotState sl = .valid →
      let u := told failed
      exec .repairBegin s = .next (State.beginSends
        { u with
          scanner := { u.scanner with queue := rest, repair := some { chan := c, slot := sl, phase := .loading } }
          preset := { s.preset with
            nv := some (.load sl .repair), progress := some { landing := c, sound := [] } }
          staging := { s.staging with
            state := .loading
            owner := some .repair
            waiting := (s.staging.waiting.filter fun w => w ≠ .repair) ++ (if rest = [] then [] else [.repair]) } })) ∧
    (able → (∀ x ∈ s.scanner.queue, fails x) → (∀ w ∈ s.staging.waiting, w = .repair) →
      let u := told s.scanner.queue
      exec .repairBegin s = .next (State.beginSends
        { u with
          scanner := { u.scanner with queue := [] }
          staging := { s.staging with waiting := [] } }))

/-! ### The preset store -/

/-- R163, R165 to R168, R174: PRESET_STORE and PRESET_ERASE, by the first case that applies, and their ends: a slot goes
from EMPTY through STORING to VALID with the active set as it was read, its name, generation and CRCs, and from VALID or
CORRUPT through ERASING to EMPTY, in the working copy and on flash alike; each end raises PRESET. That an erase leaves the
body of its slot on flash is the model's choice (notes/assumptions/25.md). -/
def Obligations.PresetsAreStoredAndErased : Prop :=
  ∀ (s : State) (k : LinkId) (tag : Byte) (ps : List Byte), s.calm →
    let p := s.asked k tag
    let put := fun (sl : SlotId) (d : SlotDir) (u : State) =>
      ({ u with
        preset := { u.preset with directory := u.preset.directory.set sl d }
        flash := { u.flash with directory := u.flash.directory.set sl d } } : State)
    let begun := fun (op : NvOp) (storing : Option Body) (u : State) =>
      ({ u with preset := { u.preset with
        nv := some op, requester := some { link := k, tag := tag, live := true }, storing := storing } } : State)
    let told := fun (q : Option Requester) (payload : List Byte) (u : State) =>
      let u := ({ u with preset := { u.preset with nv := none, requester := none, progress := none } } : State).raise .preset
      match q with
      | some r => if r.live then u.reply r.link r.tag .success payload else u.beginSends
      | none => u.beginSends
    let active : Body := { header := s.activeHeader, records := Vector.ofFn fun c : Chan => s.activeRecord c }
    (s.takes k tag (roleAlign ||| roleShow) ps →
      (slotParam ps = none → exec (.presetStore k tag ps) s = .next (p.reply k tag .invalid [])) ∧
      ∀ sl, slotParam ps = some sl → exec (.presetStore k tag ps) s = .next
        (if s.slotState sl ≠ .empty then p.reply k tag .slotOccupied []
        else if s.staging.state = .commitPending ∨ s.preset.nv ≠ none then p.reply k tag .busy []
        else State.kept k (.command tag 0x0A ps)
          (begun (.store sl) (some active) (put sl { state := .storing, info := none } p)))) ∧
    (s.takes k tag roleAlign ps →
      (slotParam ps = none → exec (.presetErase k tag ps) s = .next (p.reply k tag .invalid [])) ∧
      ∀ sl, slotParam ps = some sl → exec (.presetErase k tag ps) s = .next
        (if s.scanner.lock = true then p.reply k tag .locked []
        else if s.slotState sl = .empty then p.reply k tag .success []
        else if s.preset.nv ≠ none then p.reply k tag .busy []
        else State.kept k (.command tag 0x0C ps)
          (begun (.erase sl) s.preset.storing (put sl { state := .erasing, info := none } p)))) ∧
    (∀ sl body, s.preset.nv = some (.store sl) → s.preset.storing = some body →
      let info : SlotInfo :=
        { name := Cells.bytes zeroByte body.header 0 16
          gen := s.staging.gen
          crcs := Vector.ofFn fun c : Chan => crc32 (Cells.bytes defaultByte body.records[c] 0 103498) }
      exec .presetStoreEnd s = .next (told s.preset.requester (word32Bytes s.staging.gen)
        (put sl { state := .valid, info := some info }
          { s with
            preset := { s.preset with storing := none }
            flash := { s.flash with bodies := s.flash.bodies.set sl body } }))) ∧
    ∀ sl, s.preset.nv = some (.erase sl) →
      exec .presetEraseEnd s = .next (told s.preset.requester [] (put sl { state := .empty, info := none } s))

/-- R180: SETUP_STORE: INVALID with the sum when the staged shares exceed 512, BUSY with the controller busy; otherwise it
writes the 28 field bytes as they stand and their CRC-32, and at its end the record is on flash, with a SETUP event. -/
def Obligations.SetupStoreWritesTheStagedCopy : Prop :=
  ∀ (s : State) (k : LinkId) (tag : Byte) (ps : List Byte), s.calm →
    let p := s.asked k tag
    let byte := fun a : Nat => (Cells.read zeroByte s.preset.setup a).toNat
    let sum := byte 0 + byte 2 + byte 4 + byte 6 + 256 * (byte 1 + byte 3 + byte 5 + byte 7)
    let fields := Cells.bytes zeroByte s.preset.setup 0 28
    (s.takes k tag roleShow ps → exec (.setupStore k tag ps) s = .next
      (if 512 < sum then p.reply k tag .invalid (leBytes 2 sum)
      else if s.preset.nv ≠ none then p.reply k tag .busy []
      else State.kept k (.command tag 0x0D ps)
        { p with preset := { p.preset with
          nv := some .setupStore, requester := some { link := k, tag := tag, live := true }
          setupStoring := some (fields ++ word32Bytes (crc32 fields)) } })) ∧
    ∀ bytes, s.preset.nv = some .setupStore → s.preset.setupStoring = some bytes →
      let u := ({ s with
        preset := { s.preset with nv := none, requester := none, progress := none, setupStoring := none }
        flash := { s.flash with setup := Cells.write zeroByte s.flash.setup 0 bytes } } : State).raise .setup
      exec .setupStoreEnd s = .next
        (match s.preset.requester with
        | some r => if r.live then u.reply r.link r.tag .success [] else u.beginSends
        | none => u.beginSends)

/-- R169, R170: PRESET_LOAD, by the first case that applies; a load that begins takes staging and the controller, and the
record of channel 0 is the first to land. -/
def Obligations.PresetLoadIsJudgedInOrder : Prop :=
  ∀ (s : State) (k : LinkId) (tag : Byte) (ps : List Byte), s.takes k tag roleAlign ps →
    let p := s.asked k tag
    (slotParam ps = none → exec (.presetLoad k tag ps) s = .next (p.reply k tag .invalid [])) ∧
    ∀ sl, slotParam ps = some sl → exec (.presetLoad k tag ps) s = .next
      (if s.scanner.lock = true then p.reply k tag .locked []
      else if s.staging.hold = none then p.reply k tag .notHolder []
      else if s.staging.hold ≠ some k then p.reply k tag .held []
      else if s.slotState sl = .empty then p.reply k tag .slotEmpty []
      else if s.slotState sl = .corrupt then p.reply k tag .presetCorrupt []
      else if s.staging.state ≠ .openState ∨ s.preset.nv ≠ none then
        State.kept k (.command tag 0x0B ps) { p with staging := { s.staging with waiting := [.request k tag] } }
      else State.kept k (.command tag 0x0B ps)
        { p with
          preset := { s.preset with
            nv := some (.load sl (.link k)), requester := some { link := k, tag := tag, live := true }
            progress := some { landing := 0, sound := [] } }
          staging := { s.staging with state := .loading, owner := some (.link k) } })

/-- R141, R159, R160, R170 to R173, R177: a record lands clamped in its staging record, and its CRC-32 over the body bytes
is compared with the directory's. Sound, its origin is PRESET with the slot, and the load goes on, or ends: for a link with
SUCCESS and staging OPEN, for start-up and a repair with the part's own commit when its checks pass. Not sound, the slot is
CORRUPT with a PRESET event, and staging stays LOADING until the restore copy ends. Readings of the model's own: the boot
outcome is LOADED from the step in which the commit becomes pending (notes/assumptions/13.md), a repair writes the set name
also when its CRC fails (notes/assumptions/14.md), bytes of the body that have changed on flash are an operand
(notes/assumptions/19.md), and landing keeps the ignored bytes of the staging record (notes/assumptions/31.md). R159,
R172, R177: the restore copy ends: the staging record equals the active one with origin ACTIVE_COPY, staging is OPEN, and a
link's load completes PRESET_CORRUPT with the channel, the boot outcome is CORRUPT with it, or the repair fails. -/
def Obligations.RecordsLandAndRestoreCopiesEnd : Prop :=
  (∀ (s : State) (sl : SlotId) (owner : OpOwner) (g : Progress) (info : SlotInfo), s.staging.waiting = [] →
    s.preset.nv = some (.load sl owner) → s.preset.progress = some g → s.preset.directory[sl].info = some info →
    let c := g.landing
    let bytes := Cells.bytes defaultByte s.flash.bodies[sl].records[c] 0 103498
    let landed := applyWrite landField defaultByte (s.stagingRecord c) 0 bytes
    let record := Cells.write defaultByte landed 44 [1, BitVec.ofNat 8 sl.val]
    let u := s.setStagingRecord c record
    let named := fun v : State =>
      v.setStagingHeader (Cells.write zeroByte s.stagingHeader 0
        (Cells.bytes zeroByte (if owner = .repair then s.activeHeader else s.flash.bodies[sl].header) 0 16))
    let idle := { s.preset with nv := none, requester := none, progress := none }
    let pending := fun set : ChanSet => { s.staging with
      state := .commitPending, commit := some { owner := .part, set := set, kind := .nextTick } }
    (crc32 bytes = info.crcs[c] →
      (owner ≠ .repair → c ≠ 5 → exec (.presetRecordLanded []) s =
        .next (State.beginSends
          { u with preset := { s.preset with progress := some { landing := c + 1, sound := g.sound ++ [c] } } })) ∧
      (∀ k, owner = .link k → c = 5 →
        let v : State := { named u with preset := idle, staging := { s.staging with state := .openState, owner := none } }
        exec (.presetRecordLanded []) s = .next
          (match s.preset.requester with
          | some r => if r.live then v.reply r.link r.tag .success [] else v.beginSends
          | none => v.beginSends)) ∧
      (owner = .startUp → c = 5 → exec (.presetRecordLanded []) s = .next
        (match checkRecords (u.stagingSet 63) with
        | none => State.beginSends
          { named u with
            preset := { idle with bootOutcome := some .loaded }
            staging := pending 63
            links := Vector.ofFn fun k : LinkId => s.links[k].tryUp }
        | some _ => State.beginSends
          { named u with
            preset := { idle with bootOutcome := some .rejected }
            staging := { s.staging with state := .openState, owner := none }
            links := Vector.ofFn fun k : LinkId => s.links[k].tryUp })) ∧
      (owner = .repair → exec (.presetRecordLanded []) s = .next
        (match checkRecords [(c, record)] with
        | none => State.beginSends
          { named u with
            preset := idle
            staging := pending (1 <<< c.val)
            scanner := { s.scanner with
              repair := s.scanner.repair.map fun r => { r with phase := .commitPending } } }
        | some _ => (({ named u with
          preset := idle
          staging := { s.staging with state := .openState, owner := none }
          scanner := { s.scanner with repair := none, report := .repairFailed c } } : State).raise .integrity).beginSends))) ∧
    (crc32 bytes ≠ info.crcs[c] → exec (.presetRecordLanded []) s =
      .next ((({ (if owner = .repair then named (s.setStagingRecord c landed) else s.setStagingRecord c landed) with
        preset := { idle with directory := s.preset.directory.set sl { state := .corrupt, info := some info } }
        flash := { s.flash with directory := s.flash.directory.set sl { state := .corrupt, info := some info } }
        staging := { s.staging with restore := some { chan := c, requester := s.preset.requester } } } : State).raise
          .preset).beginSends)) ∧
    ∀ changed : List Host.Cell, cellsInside changed Config.bodySize = true →
      exec (.presetRecordLanded changed) s =
        exec (.presetRecordLanded [])
          { s with flash := { s.flash with bodies := s.flash.bodies.set sl (s.flash.bodies[sl].change changed) } }) ∧
  ∀ (s : State) (r : Restore), s.staging.restore = some r → s.staging.waiting = [] →
    let v : State :=
      { s.setStagingRecord r.chan (Cells.write defaultByte (s.activeRecord r.chan) 44 [3, 0]) with
        staging := { s.staging with restore := none, state := .openState, owner := none } }
    (∀ k, s.staging.owner = some (.link k) → exec .restoreCopyEnd s = .next
      (match r.requester with
      | some q =>
        if q.live then v.reply q.link q.tag .presetCorrupt [BitVec.ofNat 8 r.chan.val] else v.beginSends
      | none => v.beginSends)) ∧
    (s.staging.owner = some .startUp → exec .restoreCopyEnd s = .next (State.beginSends
      { v with
        preset := { s.preset with bootOutcome := some (.corrupt r.chan) }
        links := Vector.ofFn fun k : LinkId => s.links[k].tryUp })) ∧
    (s.staging.owner = some .repair → exec .restoreCopyEnd s = .next
      ((({ v with scanner := { s.scanner with repair := none, report := .repairFailed r.chan } } : State).raise
        .integrity).beginSends))
end

