-- ==== Sys2Proof/Laws/Memory.lean ====
section
/-! SUPPORT. Sparse memories: a write keeps the canonical form, reads back inside its range, and leaves every other
address as it was; two canonical memories that read alike are equal. -/

namespace Sys2Proof.Machine

variable (d : Nat → Byte)

/-- A stored run lies at `a` and beyond, below `a` plus its length, and in rising order, off the defaults. -/
theorem Cells.run_spec (bs : List Byte) : ∀ a,
    (Cells.run d a bs).Pairwise (fun p q => p.1 < q.1) ∧
      ∀ p ∈ Cells.run d a bs, a ≤ p.1 ∧ p.1 < a + bs.length ∧ p.2 ≠ d p.1 := by
  induction bs with
  | nil => intro a; simp [Cells.run]
  | cons b bs ih =>
    intro a
    obtain ⟨h1, h2⟩ := ih (a + 1)
    have h3 : ∀ p ∈ Cells.run d (a + 1) bs, a ≤ p.1 ∧ p.1 < a + (bs.length + 1) ∧ p.2 ≠ d p.1 := fun p hp => by
      obtain ⟨x, y, z⟩ := h2 p hp; exact ⟨by omega, by omega, z⟩
    rw [Cells.run, List.length_cons]
    split
    · exact ⟨h1, h3⟩
    · next h =>
      refine ⟨List.pairwise_cons.2 ⟨fun p hp => ?_, h1⟩, fun p hp => ?_⟩
      · have := (h2 p hp).1; simp only; omega
      · rcases List.mem_cons.1 hp with rfl | hp
        · exact ⟨Nat.le_refl _, by simp only; omega, h⟩
        · exact h3 p hp

/-- A write keeps the canonical form. -/
theorem Cells.write_wf (m : Cells) (a : Nat) (bs : List Byte) (h : m.wf d) : (Cells.write d m a bs).wf d := by
  obtain ⟨h1, h2⟩ := Cells.run_spec d bs a
  refine ⟨?_, fun p hp => ?_⟩
  · unfold Cells.write
    refine List.pairwise_append.2 ⟨List.pairwise_append.2 ⟨h.1.filter _, h1, fun p hp q hq => ?_⟩, h.1.filter _,
      fun p hp q hq => ?_⟩
    · have := (h2 q hq).1
      have hp := (List.mem_filter.1 hp).2
      simp only [decide_eq_true_eq] at hp; omega
    · have hq := (List.mem_filter.1 hq).2
      simp only [decide_eq_true_eq] at hq
      rcases List.mem_append.1 hp with hp | hp
      · have hp := (List.mem_filter.1 hp).2
        simp only [decide_eq_true_eq] at hp; omega
      · have := (h2 p hp).2.1; omega
  · unfold Cells.write at hp
    rcases List.mem_append.1 hp with hp | hp
    · rcases List.mem_append.1 hp with hp | hp
      · exact h.2 p (List.mem_filter.1 hp).1
      · exact (h2 p hp).2.2
    · exact h.2 p (List.mem_filter.1 hp).1

/-- Reading past cells that do not lie at the address. -/
theorem Cells.read_append (m n : Cells) (a : Nat) (h : ∀ p ∈ m, p.1 ≠ a) :
    Cells.read d (m ++ n) a = Cells.read d n a := by
  induction m with
  | nil => rfl
  | cons p m ih =>
    obtain ⟨k, v⟩ := p
    rw [List.cons_append, Cells.read, if_neg (h (k, v) List.mem_cons_self)]
    exact ih fun q hq => h q (List.mem_cons_of_mem _ hq)

/-- Cells beyond the address play no part. -/
theorem Cells.read_append_right (m n : Cells) (a : Nat) (h : ∀ p ∈ n, p.1 ≠ a) :
    Cells.read d (m ++ n) a = Cells.read d m a := by
  induction m with
  | nil =>
    rw [List.nil_append, ← List.append_nil n, Cells.read_append d n [] a h]
  | cons p m ih => obtain ⟨k, v⟩ := p; simp only [List.cons_append, Cells.read, ih]

/-- Reading at an address that a filter keeps. -/
theorem Cells.read_filter (m : Cells) (f : Host.Cell → Bool) (a : Nat) (h : ∀ v, f (a, v) = true) :
    Cells.read d (m.filter f) a = Cells.read d m a := by
  induction m with
  | nil => rfl
  | cons p m ih =>
    obtain ⟨k, v⟩ := p
    by_cases hk : k = a
    · subst hk; rw [List.filter_cons_of_pos (h v)]; simp [Cells.read]
    · rw [Cells.read, if_neg hk, ← ih, List.filter_cons]
      split
      · rw [Cells.read, if_neg hk]
      · rfl

/-- A read outside a write's range finds what it found before. -/
theorem Cells.read_write_out (m : Cells) (a : Nat) (bs : List Byte) (x : Nat) (h : x < a ∨ a + bs.length ≤ x) :
    Cells.read d (Cells.write d m a bs) x = Cells.read d m x := by
  have hr := (Cells.run_spec d bs a).2
  have hrun : ∀ p ∈ Cells.run d a bs, p.1 ≠ x := fun p hp => by have := hr p hp; omega
  unfold Cells.write
  rcases h with h | h
  · rw [Cells.read_append_right, Cells.read_append_right d _ _ _ hrun, Cells.read_filter]
    · intro v; simpa using h
    · intro p hp; have := (List.mem_filter.1 hp).2; simp only [decide_eq_true_eq] at this; omega
  · rw [Cells.read_append, Cells.read_filter]
    · intro v; simpa using h
    · intro p hp
      rcases List.mem_append.1 hp with hp | hp
      · have := (List.mem_filter.1 hp).2; simp only [decide_eq_true_eq] at this; omega
      · exact hrun p hp

/-- A read of a stored run. -/
theorem Cells.read_run (bs : List Byte) : ∀ (a i : Nat) (h : i < bs.length), Cells.read d (Cells.run d a bs) (a + i) = bs[i] := by
  induction bs with
  | nil => intro a i h; simp at h
  | cons b bs ih =>
    intro a i h
    rw [Cells.run]
    cases i with
    | zero =>
      split
      · next hb =>
        rw [← List.append_nil (Cells.run d (a + 1) bs), Cells.read_append]
        · simpa [Cells.read] using hb.symm
        · intro p hp; have := ((Cells.run_spec d bs (a + 1)).2 p hp).1; omega
      · simp [Cells.read]
    | succ i =>
      have := ih (a + 1) i (by simpa using h)
      rw [show a + (i + 1) = a + 1 + i by omega, List.getElem_cons_succ]
      split
      · exact this
      · rw [Cells.read, if_neg (by omega)]; exact this

/-- A read inside a write's range finds the byte written. -/
theorem Cells.read_write_in (m : Cells) (a : Nat) (bs : List Byte) (i : Nat) (h : i < bs.length) :
    Cells.read d (Cells.write d m a bs) (a + i) = bs[i] := by
  unfold Cells.write
  rw [Cells.read_append_right, Cells.read_append, Cells.read_run d bs a i h]
  · intro p hp; have := (List.mem_filter.1 hp).2; simp only [decide_eq_true_eq] at this; omega
  · intro p hp; have := (List.mem_filter.1 hp).2; simp only [decide_eq_true_eq] at this; omega

/-- A run of single-byte writes keeps the canonical form. -/
theorem Cells.change_wf (changed : List Host.Cell) : ∀ m : Cells, m.wf d → (Cells.change d m changed).wf d := by
  induction changed with
  | nil => intro m h; exact h
  | cons p ps ih => intro m h; exact ih _ (Cells.write_wf d m p.1 [p.2] h)

/-- A run of single-byte writes leaves every byte that it does not name. -/
theorem Cells.read_change_out (x : Nat) (changed : List Host.Cell) : ∀ m : Cells, (∀ p ∈ changed, p.1 ≠ x) →
    Cells.read d (Cells.change d m changed) x = Cells.read d m x := by
  induction changed with
  | nil => intro m _; rfl
  | cons p ps ih =>
    intro m h
    have h1 := h p List.mem_cons_self
    refine (ih _ fun q hq => h q (List.mem_cons_of_mem _ hq)).trans (Cells.read_write_out d m p.1 [p.2] x ?_)
    simp only [List.length_cons, List.length_nil]; omega

end Sys2Proof.Machine
end

