-- ==== Sys2Proof/Laws/State.lean ====
section
/-! SUPPORT. One lemma per field per update of State, each true by rfl: what an update changes, and that it leaves every
other block as it was. Later proofs rewrite with these and unfold no update. -/

namespace Sys2Proof.Machine

variable (s : State)

/-! ### modTimebase -/

@[simp] theorem State.modTimebase_pending (f : Timebase → Timebase) : (s.modTimebase f).pending = s.pending := rfl
@[simp] theorem State.modTimebase_timebase (f : Timebase → Timebase) :
    (s.modTimebase f).timebase = f s.timebase := rfl
@[simp] theorem State.modTimebase_capture (f : Timebase → Timebase) : (s.modTimebase f).capture = s.capture := rfl
@[simp] theorem State.modTimebase_barrier (f : Timebase → Timebase) : (s.modTimebase f).barrier = s.barrier := rfl
@[simp] theorem State.modTimebase_pipes (f : Timebase → Timebase) : (s.modTimebase f).pipes = s.pipes := rfl
@[simp] theorem State.modTimebase_banks (f : Timebase → Timebase) : (s.modTimebase f).banks = s.banks := rfl
@[simp] theorem State.modTimebase_frameMem (f : Timebase → Timebase) : (s.modTimebase f).frameMem = s.frameMem := rfl
@[simp] theorem State.modTimebase_staging (f : Timebase → Timebase) : (s.modTimebase f).staging = s.staging := rfl
@[simp] theorem State.modTimebase_scanner (f : Timebase → Timebase) : (s.modTimebase f).scanner = s.scanner := rfl
@[simp] theorem State.modTimebase_preset (f : Timebase → Timebase) : (s.modTimebase f).preset = s.preset := rfl
@[simp] theorem State.modTimebase_flash (f : Timebase → Timebase) : (s.modTimebase f).flash = s.flash := rfl
@[simp] theorem State.modTimebase_links (f : Timebase → Timebase) : (s.modTimebase f).links = s.links := rfl

/-! ### modCapture -/

@[simp] theorem State.modCapture_pending (c : Chan) (f : Capture → Capture) :
    (s.modCapture c f).pending = s.pending := rfl
@[simp] theorem State.modCapture_timebase (c : Chan) (f : Capture → Capture) :
    (s.modCapture c f).timebase = s.timebase := rfl
@[simp] theorem State.modCapture_capture (c : Chan) (f : Capture → Capture) :
    (s.modCapture c f).capture = s.capture.set c (f s.capture[c]) := rfl
@[simp] theorem State.modCapture_barrier (c : Chan) (f : Capture → Capture) :
    (s.modCapture c f).barrier = s.barrier := rfl
@[simp] theorem State.modCapture_pipes (c : Chan) (f : Capture → Capture) : (s.modCapture c f).pipes = s.pipes := rfl
@[simp] theorem State.modCapture_banks (c : Chan) (f : Capture → Capture) : (s.modCapture c f).banks = s.banks := rfl
@[simp] theorem State.modCapture_frameMem (c : Chan) (f : Capture → Capture) :
    (s.modCapture c f).frameMem = s.frameMem := rfl
@[simp] theorem State.modCapture_staging (c : Chan) (f : Capture → Capture) :
    (s.modCapture c f).staging = s.staging := rfl
@[simp] theorem State.modCapture_scanner (c : Chan) (f : Capture → Capture) :
    (s.modCapture c f).scanner = s.scanner := rfl
@[simp] theorem State.modCapture_preset (c : Chan) (f : Capture → Capture) :
    (s.modCapture c f).preset = s.preset := rfl
@[simp] theorem State.modCapture_flash (c : Chan) (f : Capture → Capture) : (s.modCapture c f).flash = s.flash := rfl
@[simp] theorem State.modCapture_links (c : Chan) (f : Capture → Capture) : (s.modCapture c f).links = s.links := rfl

/-! ### modMember -/

@[simp] theorem State.modMember_pending (c : Chan) (f : Member → Member) :
    (s.modMember c f).pending = s.pending := rfl
@[simp] theorem State.modMember_timebase (c : Chan) (f : Member → Member) :
    (s.modMember c f).timebase = s.timebase := rfl
@[simp] theorem State.modMember_capture (c : Chan) (f : Member → Member) :
    (s.modMember c f).capture = s.capture := rfl
@[simp] theorem State.modMember_barrier (c : Chan) (f : Member → Member) :
    (s.modMember c f).barrier = { s.barrier with members := s.barrier.members.set c (f s.barrier.members[c]) } := rfl
@[simp] theorem State.modMember_pipes (c : Chan) (f : Member → Member) : (s.modMember c f).pipes = s.pipes := rfl
@[simp] theorem State.modMember_banks (c : Chan) (f : Member → Member) : (s.modMember c f).banks = s.banks := rfl
@[simp] theorem State.modMember_frameMem (c : Chan) (f : Member → Member) :
    (s.modMember c f).frameMem = s.frameMem := rfl
@[simp] theorem State.modMember_staging (c : Chan) (f : Member → Member) :
    (s.modMember c f).staging = s.staging := rfl
@[simp] theorem State.modMember_scanner (c : Chan) (f : Member → Member) :
    (s.modMember c f).scanner = s.scanner := rfl
@[simp] theorem State.modMember_preset (c : Chan) (f : Member → Member) : (s.modMember c f).preset = s.preset := rfl
@[simp] theorem State.modMember_flash (c : Chan) (f : Member → Member) : (s.modMember c f).flash = s.flash := rfl
@[simp] theorem State.modMember_links (c : Chan) (f : Member → Member) : (s.modMember c f).links = s.links := rfl

/-! ### modBarrier -/

@[simp] theorem State.modBarrier_pending (f : Barrier → Barrier) : (s.modBarrier f).pending = s.pending := rfl
@[simp] theorem State.modBarrier_timebase (f : Barrier → Barrier) : (s.modBarrier f).timebase = s.timebase := rfl
@[simp] theorem State.modBarrier_capture (f : Barrier → Barrier) : (s.modBarrier f).capture = s.capture := rfl
@[simp] theorem State.modBarrier_barrier (f : Barrier → Barrier) : (s.modBarrier f).barrier = f s.barrier := rfl
@[simp] theorem State.modBarrier_pipes (f : Barrier → Barrier) : (s.modBarrier f).pipes = s.pipes := rfl
@[simp] theorem State.modBarrier_banks (f : Barrier → Barrier) : (s.modBarrier f).banks = s.banks := rfl
@[simp] theorem State.modBarrier_frameMem (f : Barrier → Barrier) : (s.modBarrier f).frameMem = s.frameMem := rfl
@[simp] theorem State.modBarrier_staging (f : Barrier → Barrier) : (s.modBarrier f).staging = s.staging := rfl
@[simp] theorem State.modBarrier_scanner (f : Barrier → Barrier) : (s.modBarrier f).scanner = s.scanner := rfl
@[simp] theorem State.modBarrier_preset (f : Barrier → Barrier) : (s.modBarrier f).preset = s.preset := rfl
@[simp] theorem State.modBarrier_flash (f : Barrier → Barrier) : (s.modBarrier f).flash = s.flash := rfl
@[simp] theorem State.modBarrier_links (f : Barrier → Barrier) : (s.modBarrier f).links = s.links := rfl

/-! ### modPipe -/

@[simp] theorem State.modPipe_pending (c : Chan) (f : Pipe → Pipe) : (s.modPipe c f).pending = s.pending := rfl
@[simp] theorem State.modPipe_timebase (c : Chan) (f : Pipe → Pipe) : (s.modPipe c f).timebase = s.timebase := rfl
@[simp] theorem State.modPipe_capture (c : Chan) (f : Pipe → Pipe) : (s.modPipe c f).capture = s.capture := rfl
@[simp] theorem State.modPipe_barrier (c : Chan) (f : Pipe → Pipe) : (s.modPipe c f).barrier = s.barrier := rfl
@[simp] theorem State.modPipe_pipes (c : Chan) (f : Pipe → Pipe) :
    (s.modPipe c f).pipes = s.pipes.set c (f s.pipes[c]) := rfl
@[simp] theorem State.modPipe_banks (c : Chan) (f : Pipe → Pipe) : (s.modPipe c f).banks = s.banks := rfl
@[simp] theorem State.modPipe_frameMem (c : Chan) (f : Pipe → Pipe) : (s.modPipe c f).frameMem = s.frameMem := rfl
@[simp] theorem State.modPipe_staging (c : Chan) (f : Pipe → Pipe) : (s.modPipe c f).staging = s.staging := rfl
@[simp] theorem State.modPipe_scanner (c : Chan) (f : Pipe → Pipe) : (s.modPipe c f).scanner = s.scanner := rfl
@[simp] theorem State.modPipe_preset (c : Chan) (f : Pipe → Pipe) : (s.modPipe c f).preset = s.preset := rfl
@[simp] theorem State.modPipe_flash (c : Chan) (f : Pipe → Pipe) : (s.modPipe c f).flash = s.flash := rfl
@[simp] theorem State.modPipe_links (c : Chan) (f : Pipe → Pipe) : (s.modPipe c f).links = s.links := rfl

/-! ### modStaging -/

@[simp] theorem State.modStaging_pending (f : Staging → Staging) : (s.modStaging f).pending = s.pending := rfl
@[simp] theorem State.modStaging_timebase (f : Staging → Staging) : (s.modStaging f).timebase = s.timebase := rfl
@[simp] theorem State.modStaging_capture (f : Staging → Staging) : (s.modStaging f).capture = s.capture := rfl
@[simp] theorem State.modStaging_barrier (f : Staging → Staging) : (s.modStaging f).barrier = s.barrier := rfl
@[simp] theorem State.modStaging_pipes (f : Staging → Staging) : (s.modStaging f).pipes = s.pipes := rfl
@[simp] theorem State.modStaging_banks (f : Staging → Staging) : (s.modStaging f).banks = s.banks := rfl
@[simp] theorem State.modStaging_frameMem (f : Staging → Staging) : (s.modStaging f).frameMem = s.frameMem := rfl
@[simp] theorem State.modStaging_staging (f : Staging → Staging) : (s.modStaging f).staging = f s.staging := rfl
@[simp] theorem State.modStaging_scanner (f : Staging → Staging) : (s.modStaging f).scanner = s.scanner := rfl
@[simp] theorem State.modStaging_preset (f : Staging → Staging) : (s.modStaging f).preset = s.preset := rfl
@[simp] theorem State.modStaging_flash (f : Staging → Staging) : (s.modStaging f).flash = s.flash := rfl
@[simp] theorem State.modStaging_links (f : Staging → Staging) : (s.modStaging f).links = s.links := rfl

/-! ### modScanner -/

@[simp] theorem State.modScanner_pending (f : Scanner → Scanner) : (s.modScanner f).pending = s.pending := rfl
@[simp] theorem State.modScanner_timebase (f : Scanner → Scanner) : (s.modScanner f).timebase = s.timebase := rfl
@[simp] theorem State.modScanner_capture (f : Scanner → Scanner) : (s.modScanner f).capture = s.capture := rfl
@[simp] theorem State.modScanner_barrier (f : Scanner → Scanner) : (s.modScanner f).barrier = s.barrier := rfl
@[simp] theorem State.modScanner_pipes (f : Scanner → Scanner) : (s.modScanner f).pipes = s.pipes := rfl
@[simp] theorem State.modScanner_banks (f : Scanner → Scanner) : (s.modScanner f).banks = s.banks := rfl
@[simp] theorem State.modScanner_frameMem (f : Scanner → Scanner) : (s.modScanner f).frameMem = s.frameMem := rfl
@[simp] theorem State.modScanner_staging (f : Scanner → Scanner) : (s.modScanner f).staging = s.staging := rfl
@[simp] theorem State.modScanner_scanner (f : Scanner → Scanner) : (s.modScanner f).scanner = f s.scanner := rfl
@[simp] theorem State.modScanner_preset (f : Scanner → Scanner) : (s.modScanner f).preset = s.preset := rfl
@[simp] theorem State.modScanner_flash (f : Scanner → Scanner) : (s.modScanner f).flash = s.flash := rfl
@[simp] theorem State.modScanner_links (f : Scanner → Scanner) : (s.modScanner f).links = s.links := rfl

/-! ### modWatch -/

@[simp] theorem State.modWatch_pending (c : Chan) (f : Watch → Watch) : (s.modWatch c f).pending = s.pending := rfl
@[simp] theorem State.modWatch_timebase (c : Chan) (f : Watch → Watch) : (s.modWatch c f).timebase = s.timebase := rfl
@[simp] theorem State.modWatch_capture (c : Chan) (f : Watch → Watch) : (s.modWatch c f).capture = s.capture := rfl
@[simp] theorem State.modWatch_barrier (c : Chan) (f : Watch → Watch) : (s.modWatch c f).barrier = s.barrier := rfl
@[simp] theorem State.modWatch_pipes (c : Chan) (f : Watch → Watch) : (s.modWatch c f).pipes = s.pipes := rfl
@[simp] theorem State.modWatch_banks (c : Chan) (f : Watch → Watch) : (s.modWatch c f).banks = s.banks := rfl
@[simp] theorem State.modWatch_frameMem (c : Chan) (f : Watch → Watch) : (s.modWatch c f).frameMem = s.frameMem := rfl
@[simp] theorem State.modWatch_staging (c : Chan) (f : Watch → Watch) : (s.modWatch c f).staging = s.staging := rfl
@[simp] theorem State.modWatch_scanner (c : Chan) (f : Watch → Watch) :
    (s.modWatch c f).scanner = { s.scanner with watch := s.scanner.watch.set c (f s.scanner.watch[c]) } := rfl
@[simp] theorem State.modWatch_preset (c : Chan) (f : Watch → Watch) : (s.modWatch c f).preset = s.preset := rfl
@[simp] theorem State.modWatch_flash (c : Chan) (f : Watch → Watch) : (s.modWatch c f).flash = s.flash := rfl
@[simp] theorem State.modWatch_links (c : Chan) (f : Watch → Watch) : (s.modWatch c f).links = s.links := rfl

/-! ### modPreset -/

@[simp] theorem State.modPreset_pending (f : Preset → Preset) : (s.modPreset f).pending = s.pending := rfl
@[simp] theorem State.modPreset_timebase (f : Preset → Preset) : (s.modPreset f).timebase = s.timebase := rfl
@[simp] theorem State.modPreset_capture (f : Preset → Preset) : (s.modPreset f).capture = s.capture := rfl
@[simp] theorem State.modPreset_barrier (f : Preset → Preset) : (s.modPreset f).barrier = s.barrier := rfl
@[simp] theorem State.modPreset_pipes (f : Preset → Preset) : (s.modPreset f).pipes = s.pipes := rfl
@[simp] theorem State.modPreset_banks (f : Preset → Preset) : (s.modPreset f).banks = s.banks := rfl
@[simp] theorem State.modPreset_frameMem (f : Preset → Preset) : (s.modPreset f).frameMem = s.frameMem := rfl
@[simp] theorem State.modPreset_staging (f : Preset → Preset) : (s.modPreset f).staging = s.staging := rfl
@[simp] theorem State.modPreset_scanner (f : Preset → Preset) : (s.modPreset f).scanner = s.scanner := rfl
@[simp] theorem State.modPreset_preset (f : Preset → Preset) : (s.modPreset f).preset = f s.preset := rfl
@[simp] theorem State.modPreset_flash (f : Preset → Preset) : (s.modPreset f).flash = s.flash := rfl
@[simp] theorem State.modPreset_links (f : Preset → Preset) : (s.modPreset f).links = s.links := rfl

/-! ### modFlash -/

@[simp] theorem State.modFlash_pending (f : Flash → Flash) : (s.modFlash f).pending = s.pending := rfl
@[simp] theorem State.modFlash_timebase (f : Flash → Flash) : (s.modFlash f).timebase = s.timebase := rfl
@[simp] theorem State.modFlash_capture (f : Flash → Flash) : (s.modFlash f).capture = s.capture := rfl
@[simp] theorem State.modFlash_barrier (f : Flash → Flash) : (s.modFlash f).barrier = s.barrier := rfl
@[simp] theorem State.modFlash_pipes (f : Flash → Flash) : (s.modFlash f).pipes = s.pipes := rfl
@[simp] theorem State.modFlash_banks (f : Flash → Flash) : (s.modFlash f).banks = s.banks := rfl
@[simp] theorem State.modFlash_frameMem (f : Flash → Flash) : (s.modFlash f).frameMem = s.frameMem := rfl
@[simp] theorem State.modFlash_staging (f : Flash → Flash) : (s.modFlash f).staging = s.staging := rfl
@[simp] theorem State.modFlash_scanner (f : Flash → Flash) : (s.modFlash f).scanner = s.scanner := rfl
@[simp] theorem State.modFlash_preset (f : Flash → Flash) : (s.modFlash f).preset = s.preset := rfl
@[simp] theorem State.modFlash_flash (f : Flash → Flash) : (s.modFlash f).flash = f s.flash := rfl
@[simp] theorem State.modFlash_links (f : Flash → Flash) : (s.modFlash f).links = s.links := rfl

/-! ### modLink -/

@[simp] theorem State.modLink_pending (k : LinkId) (f : Link → Link) : (s.modLink k f).pending = s.pending := rfl
@[simp] theorem State.modLink_timebase (k : LinkId) (f : Link → Link) : (s.modLink k f).timebase = s.timebase := rfl
@[simp] theorem State.modLink_capture (k : LinkId) (f : Link → Link) : (s.modLink k f).capture = s.capture := rfl
@[simp] theorem State.modLink_barrier (k : LinkId) (f : Link → Link) : (s.modLink k f).barrier = s.barrier := rfl
@[simp] theorem State.modLink_pipes (k : LinkId) (f : Link → Link) : (s.modLink k f).pipes = s.pipes := rfl
@[simp] theorem State.modLink_banks (k : LinkId) (f : Link → Link) : (s.modLink k f).banks = s.banks := rfl
@[simp] theorem State.modLink_frameMem (k : LinkId) (f : Link → Link) : (s.modLink k f).frameMem = s.frameMem := rfl
@[simp] theorem State.modLink_staging (k : LinkId) (f : Link → Link) : (s.modLink k f).staging = s.staging := rfl
@[simp] theorem State.modLink_scanner (k : LinkId) (f : Link → Link) : (s.modLink k f).scanner = s.scanner := rfl
@[simp] theorem State.modLink_preset (k : LinkId) (f : Link → Link) : (s.modLink k f).preset = s.preset := rfl
@[simp] theorem State.modLink_flash (k : LinkId) (f : Link → Link) : (s.modLink k f).flash = s.flash := rfl
@[simp] theorem State.modLink_links (k : LinkId) (f : Link → Link) :
    (s.modLink k f).links = s.links.set k (f s.links[k]) := rfl

/-! ### modBank -/

@[simp] theorem State.modBank_pending (b : Bank) (f : BankMem → BankMem) : (s.modBank b f).pending = s.pending := rfl
@[simp] theorem State.modBank_timebase (b : Bank) (f : BankMem → BankMem) :
    (s.modBank b f).timebase = s.timebase := rfl
@[simp] theorem State.modBank_capture (b : Bank) (f : BankMem → BankMem) : (s.modBank b f).capture = s.capture := rfl
@[simp] theorem State.modBank_barrier (b : Bank) (f : BankMem → BankMem) : (s.modBank b f).barrier = s.barrier := rfl
@[simp] theorem State.modBank_pipes (b : Bank) (f : BankMem → BankMem) : (s.modBank b f).pipes = s.pipes := rfl
@[simp] theorem State.modBank_banks (b : Bank) (f : BankMem → BankMem) :
    (s.modBank b f).banks = s.banks.set b (f s.banks[b]) := rfl
@[simp] theorem State.modBank_frameMem (b : Bank) (f : BankMem → BankMem) :
    (s.modBank b f).frameMem = s.frameMem := rfl
@[simp] theorem State.modBank_staging (b : Bank) (f : BankMem → BankMem) : (s.modBank b f).staging = s.staging := rfl
@[simp] theorem State.modBank_scanner (b : Bank) (f : BankMem → BankMem) : (s.modBank b f).scanner = s.scanner := rfl
@[simp] theorem State.modBank_preset (b : Bank) (f : BankMem → BankMem) : (s.modBank b f).preset = s.preset := rfl
@[simp] theorem State.modBank_flash (b : Bank) (f : BankMem → BankMem) : (s.modBank b f).flash = s.flash := rfl
@[simp] theorem State.modBank_links (b : Bank) (f : BankMem → BankMem) : (s.modBank b f).links = s.links := rfl

/-! ### setRecord -/

@[simp] theorem State.setRecord_pending (b : Bank) (c : Chan) (r : Cells) :
    (s.setRecord b c r).pending = s.pending := rfl
@[simp] theorem State.setRecord_timebase (b : Bank) (c : Chan) (r : Cells) :
    (s.setRecord b c r).timebase = s.timebase := rfl
@[simp] theorem State.setRecord_capture (b : Bank) (c : Chan) (r : Cells) :
    (s.setRecord b c r).capture = s.capture := rfl
@[simp] theorem State.setRecord_barrier (b : Bank) (c : Chan) (r : Cells) :
    (s.setRecord b c r).barrier = s.barrier := rfl
@[simp] theorem State.setRecord_pipes (b : Bank) (c : Chan) (r : Cells) : (s.setRecord b c r).pipes = s.pipes := rfl
@[simp] theorem State.setRecord_frameMem (b : Bank) (c : Chan) (r : Cells) :
    (s.setRecord b c r).frameMem = s.frameMem := rfl
@[simp] theorem State.setRecord_staging (b : Bank) (c : Chan) (r : Cells) :
    (s.setRecord b c r).staging = s.staging := rfl
@[simp] theorem State.setRecord_scanner (b : Bank) (c : Chan) (r : Cells) :
    (s.setRecord b c r).scanner = s.scanner := rfl
@[simp] theorem State.setRecord_preset (b : Bank) (c : Chan) (r : Cells) :
    (s.setRecord b c r).preset = s.preset := rfl
@[simp] theorem State.setRecord_flash (b : Bank) (c : Chan) (r : Cells) : (s.setRecord b c r).flash = s.flash := rfl
@[simp] theorem State.setRecord_links (b : Bank) (c : Chan) (r : Cells) : (s.setRecord b c r).links = s.links := rfl

/-! ### setHeader -/

@[simp] theorem State.setHeader_pending (b : Bank) (h : Cells) : (s.setHeader b h).pending = s.pending := rfl
@[simp] theorem State.setHeader_timebase (b : Bank) (h : Cells) : (s.setHeader b h).timebase = s.timebase := rfl
@[simp] theorem State.setHeader_capture (b : Bank) (h : Cells) : (s.setHeader b h).capture = s.capture := rfl
@[simp] theorem State.setHeader_barrier (b : Bank) (h : Cells) : (s.setHeader b h).barrier = s.barrier := rfl
@[simp] theorem State.setHeader_pipes (b : Bank) (h : Cells) : (s.setHeader b h).pipes = s.pipes := rfl
@[simp] theorem State.setHeader_frameMem (b : Bank) (h : Cells) : (s.setHeader b h).frameMem = s.frameMem := rfl
@[simp] theorem State.setHeader_staging (b : Bank) (h : Cells) : (s.setHeader b h).staging = s.staging := rfl
@[simp] theorem State.setHeader_scanner (b : Bank) (h : Cells) : (s.setHeader b h).scanner = s.scanner := rfl
@[simp] theorem State.setHeader_preset (b : Bank) (h : Cells) : (s.setHeader b h).preset = s.preset := rfl
@[simp] theorem State.setHeader_flash (b : Bank) (h : Cells) : (s.setHeader b h).flash = s.flash := rfl
@[simp] theorem State.setHeader_links (b : Bank) (h : Cells) : (s.setHeader b h).links = s.links := rfl

/-! ### raiseOn -/

@[simp] theorem State.raiseOn_pending (k : LinkId) (e : EventKind) : (s.raiseOn k e).pending = s.pending := rfl
@[simp] theorem State.raiseOn_timebase (k : LinkId) (e : EventKind) : (s.raiseOn k e).timebase = s.timebase := rfl
@[simp] theorem State.raiseOn_capture (k : LinkId) (e : EventKind) : (s.raiseOn k e).capture = s.capture := rfl
@[simp] theorem State.raiseOn_barrier (k : LinkId) (e : EventKind) : (s.raiseOn k e).barrier = s.barrier := rfl
@[simp] theorem State.raiseOn_pipes (k : LinkId) (e : EventKind) : (s.raiseOn k e).pipes = s.pipes := rfl
@[simp] theorem State.raiseOn_banks (k : LinkId) (e : EventKind) : (s.raiseOn k e).banks = s.banks := rfl
@[simp] theorem State.raiseOn_frameMem (k : LinkId) (e : EventKind) : (s.raiseOn k e).frameMem = s.frameMem := rfl
@[simp] theorem State.raiseOn_staging (k : LinkId) (e : EventKind) : (s.raiseOn k e).staging = s.staging := rfl
@[simp] theorem State.raiseOn_scanner (k : LinkId) (e : EventKind) : (s.raiseOn k e).scanner = s.scanner := rfl
@[simp] theorem State.raiseOn_preset (k : LinkId) (e : EventKind) : (s.raiseOn k e).preset = s.preset := rfl
@[simp] theorem State.raiseOn_flash (k : LinkId) (e : EventKind) : (s.raiseOn k e).flash = s.flash := rfl

/-! ### raise -/

@[simp] theorem State.raise_pending (e : EventKind) : (s.raise e).pending = s.pending := rfl
@[simp] theorem State.raise_timebase (e : EventKind) : (s.raise e).timebase = s.timebase := rfl
@[simp] theorem State.raise_capture (e : EventKind) : (s.raise e).capture = s.capture := rfl
@[simp] theorem State.raise_barrier (e : EventKind) : (s.raise e).barrier = s.barrier := rfl
@[simp] theorem State.raise_pipes (e : EventKind) : (s.raise e).pipes = s.pipes := rfl
@[simp] theorem State.raise_banks (e : EventKind) : (s.raise e).banks = s.banks := rfl
@[simp] theorem State.raise_frameMem (e : EventKind) : (s.raise e).frameMem = s.frameMem := rfl
@[simp] theorem State.raise_staging (e : EventKind) : (s.raise e).staging = s.staging := rfl
@[simp] theorem State.raise_scanner (e : EventKind) : (s.raise e).scanner = s.scanner := rfl
@[simp] theorem State.raise_preset (e : EventKind) : (s.raise e).preset = s.preset := rfl
@[simp] theorem State.raise_flash (e : EventKind) : (s.raise e).flash = s.flash := rfl

/-! ### unwait -/

@[simp] theorem State.unwait_pending (w : Claimant) : (s.unwait w).pending = s.pending := rfl
@[simp] theorem State.unwait_timebase (w : Claimant) : (s.unwait w).timebase = s.timebase := rfl
@[simp] theorem State.unwait_capture (w : Claimant) : (s.unwait w).capture = s.capture := rfl
@[simp] theorem State.unwait_barrier (w : Claimant) : (s.unwait w).barrier = s.barrier := rfl
@[simp] theorem State.unwait_pipes (w : Claimant) : (s.unwait w).pipes = s.pipes := rfl
@[simp] theorem State.unwait_banks (w : Claimant) : (s.unwait w).banks = s.banks := rfl
@[simp] theorem State.unwait_frameMem (w : Claimant) : (s.unwait w).frameMem = s.frameMem := rfl
@[simp] theorem State.unwait_staging (w : Claimant) :
    (s.unwait w).staging = { s.staging with waiting := s.staging.waiting.filter fun x => x ≠ w } := rfl
@[simp] theorem State.unwait_scanner (w : Claimant) : (s.unwait w).scanner = s.scanner := rfl
@[simp] theorem State.unwait_preset (w : Claimant) : (s.unwait w).preset = s.preset := rfl
@[simp] theorem State.unwait_flash (w : Claimant) : (s.unwait w).flash = s.flash := rfl
@[simp] theorem State.unwait_links (w : Claimant) : (s.unwait w).links = s.links := rfl

/-! ### await -/

@[simp] theorem State.await_pending (w : Claimant) : (s.await w).pending = s.pending := rfl
@[simp] theorem State.await_timebase (w : Claimant) : (s.await w).timebase = s.timebase := rfl
@[simp] theorem State.await_capture (w : Claimant) : (s.await w).capture = s.capture := rfl
@[simp] theorem State.await_barrier (w : Claimant) : (s.await w).barrier = s.barrier := rfl
@[simp] theorem State.await_pipes (w : Claimant) : (s.await w).pipes = s.pipes := rfl
@[simp] theorem State.await_banks (w : Claimant) : (s.await w).banks = s.banks := rfl
@[simp] theorem State.await_frameMem (w : Claimant) : (s.await w).frameMem = s.frameMem := rfl
@[simp] theorem State.await_scanner (w : Claimant) : (s.await w).scanner = s.scanner := rfl
@[simp] theorem State.await_preset (w : Claimant) : (s.await w).preset = s.preset := rfl
@[simp] theorem State.await_flash (w : Claimant) : (s.await w).flash = s.flash := rfl
@[simp] theorem State.await_links (w : Claimant) : (s.await w).links = s.links := rfl

/-! ### complete -/

@[simp] theorem State.complete_pending (k : LinkId) (tag : Byte) (st : Status) (p : List Byte) :
    (s.complete k tag st p).pending = s.pending := rfl
@[simp] theorem State.complete_timebase (k : LinkId) (tag : Byte) (st : Status) (p : List Byte) :
    (s.complete k tag st p).timebase = s.timebase := rfl
@[simp] theorem State.complete_capture (k : LinkId) (tag : Byte) (st : Status) (p : List Byte) :
    (s.complete k tag st p).capture = s.capture := rfl
@[simp] theorem State.complete_barrier (k : LinkId) (tag : Byte) (st : Status) (p : List Byte) :
    (s.complete k tag st p).barrier = s.barrier := rfl
@[simp] theorem State.complete_pipes (k : LinkId) (tag : Byte) (st : Status) (p : List Byte) :
    (s.complete k tag st p).pipes = s.pipes := rfl
@[simp] theorem State.complete_banks (k : LinkId) (tag : Byte) (st : Status) (p : List Byte) :
    (s.complete k tag st p).banks = s.banks := rfl
@[simp] theorem State.complete_frameMem (k : LinkId) (tag : Byte) (st : Status) (p : List Byte) :
    (s.complete k tag st p).frameMem = s.frameMem := rfl
@[simp] theorem State.complete_staging (k : LinkId) (tag : Byte) (st : Status) (p : List Byte) :
    (s.complete k tag st p).staging = { s.staging with waiting := s.staging.waiting.filter fun x => x ≠ .request k tag } := rfl
@[simp] theorem State.complete_scanner (k : LinkId) (tag : Byte) (st : Status) (p : List Byte) :
    (s.complete k tag st p).scanner = s.scanner := rfl
@[simp] theorem State.complete_preset (k : LinkId) (tag : Byte) (st : Status) (p : List Byte) :
    (s.complete k tag st p).preset = s.preset := rfl
@[simp] theorem State.complete_flash (k : LinkId) (tag : Byte) (st : Status) (p : List Byte) :
    (s.complete k tag st p).flash = s.flash := rfl

/-! ### completeRead -/

@[simp] theorem State.completeRead_pending (k : LinkId) (tag : Byte) (o : Word32) (p : List Byte) :
    (s.completeRead k tag o p).pending = s.pending := rfl
@[simp] theorem State.completeRead_timebase (k : LinkId) (tag : Byte) (o : Word32) (p : List Byte) :
    (s.completeRead k tag o p).timebase = s.timebase := rfl
@[simp] theorem State.completeRead_capture (k : LinkId) (tag : Byte) (o : Word32) (p : List Byte) :
    (s.completeRead k tag o p).capture = s.capture := rfl
@[simp] theorem State.completeRead_barrier (k : LinkId) (tag : Byte) (o : Word32) (p : List Byte) :
    (s.completeRead k tag o p).barrier = s.barrier := rfl
@[simp] theorem State.completeRead_pipes (k : LinkId) (tag : Byte) (o : Word32) (p : List Byte) :
    (s.completeRead k tag o p).pipes = s.pipes := rfl
@[simp] theorem State.completeRead_banks (k : LinkId) (tag : Byte) (o : Word32) (p : List Byte) :
    (s.completeRead k tag o p).banks = s.banks := rfl
@[simp] theorem State.completeRead_frameMem (k : LinkId) (tag : Byte) (o : Word32) (p : List Byte) :
    (s.completeRead k tag o p).frameMem = s.frameMem := rfl
@[simp] theorem State.completeRead_staging (k : LinkId) (tag : Byte) (o : Word32) (p : List Byte) :
    (s.completeRead k tag o p).staging = { s.staging with waiting := s.staging.waiting.filter fun x => x ≠ .request k tag } := rfl
@[simp] theorem State.completeRead_scanner (k : LinkId) (tag : Byte) (o : Word32) (p : List Byte) :
    (s.completeRead k tag o p).scanner = s.scanner := rfl
@[simp] theorem State.completeRead_preset (k : LinkId) (tag : Byte) (o : Word32) (p : List Byte) :
    (s.completeRead k tag o p).preset = s.preset := rfl
@[simp] theorem State.completeRead_flash (k : LinkId) (tag : Byte) (o : Word32) (p : List Byte) :
    (s.completeRead k tag o p).flash = s.flash := rfl

/-! ### keep -/

@[simp] theorem State.keep_pending (k : LinkId) (m : Msg) : (s.keep k m).pending = s.pending := rfl
@[simp] theorem State.keep_timebase (k : LinkId) (m : Msg) : (s.keep k m).timebase = s.timebase := rfl
@[simp] theorem State.keep_capture (k : LinkId) (m : Msg) : (s.keep k m).capture = s.capture := rfl
@[simp] theorem State.keep_barrier (k : LinkId) (m : Msg) : (s.keep k m).barrier = s.barrier := rfl
@[simp] theorem State.keep_pipes (k : LinkId) (m : Msg) : (s.keep k m).pipes = s.pipes := rfl
@[simp] theorem State.keep_banks (k : LinkId) (m : Msg) : (s.keep k m).banks = s.banks := rfl
@[simp] theorem State.keep_frameMem (k : LinkId) (m : Msg) : (s.keep k m).frameMem = s.frameMem := rfl
@[simp] theorem State.keep_staging (k : LinkId) (m : Msg) : (s.keep k m).staging = s.staging := rfl
@[simp] theorem State.keep_scanner (k : LinkId) (m : Msg) : (s.keep k m).scanner = s.scanner := rfl
@[simp] theorem State.keep_preset (k : LinkId) (m : Msg) : (s.keep k m).preset = s.preset := rfl
@[simp] theorem State.keep_flash (k : LinkId) (m : Msg) : (s.keep k m).flash = s.flash := rfl

/-! ### beginSends -/

@[simp] theorem State.beginSends_pending : (s.beginSends).pending = s.pending := rfl
@[simp] theorem State.beginSends_timebase : (s.beginSends).timebase = s.timebase := rfl
@[simp] theorem State.beginSends_capture : (s.beginSends).capture = s.capture := rfl
@[simp] theorem State.beginSends_barrier : (s.beginSends).barrier = s.barrier := rfl
@[simp] theorem State.beginSends_pipes : (s.beginSends).pipes = s.pipes := rfl
@[simp] theorem State.beginSends_banks : (s.beginSends).banks = s.banks := rfl
@[simp] theorem State.beginSends_frameMem : (s.beginSends).frameMem = s.frameMem := rfl
@[simp] theorem State.beginSends_staging : (s.beginSends).staging = s.staging := rfl
@[simp] theorem State.beginSends_scanner : (s.beginSends).scanner = s.scanner := rfl
@[simp] theorem State.beginSends_preset : (s.beginSends).preset = s.preset := rfl
@[simp] theorem State.beginSends_flash : (s.beginSends).flash = s.flash := rfl

/-! ### openStaging -/

@[simp] theorem State.openStaging_pending : (s.openStaging).pending = s.pending := rfl
@[simp] theorem State.openStaging_timebase : (s.openStaging).timebase = s.timebase := rfl
@[simp] theorem State.openStaging_capture : (s.openStaging).capture = s.capture := rfl
@[simp] theorem State.openStaging_barrier : (s.openStaging).barrier = s.barrier := rfl
@[simp] theorem State.openStaging_pipes : (s.openStaging).pipes = s.pipes := rfl
@[simp] theorem State.openStaging_banks : (s.openStaging).banks = s.banks := rfl
@[simp] theorem State.openStaging_frameMem : (s.openStaging).frameMem = s.frameMem := rfl
@[simp] theorem State.openStaging_staging :
    (s.openStaging).staging = { s.staging with state := .openState, owner := none } := rfl
@[simp] theorem State.openStaging_scanner : (s.openStaging).scanner = s.scanner := rfl
@[simp] theorem State.openStaging_preset : (s.openStaging).preset = s.preset := rfl
@[simp] theorem State.openStaging_flash : (s.openStaging).flash = s.flash := rfl
@[simp] theorem State.openStaging_links : (s.openStaging).links = s.links := rfl

/-! ### idleNv -/

@[simp] theorem State.idleNv_pending : (s.idleNv).pending = s.pending := rfl
@[simp] theorem State.idleNv_timebase : (s.idleNv).timebase = s.timebase := rfl
@[simp] theorem State.idleNv_capture : (s.idleNv).capture = s.capture := rfl
@[simp] theorem State.idleNv_barrier : (s.idleNv).barrier = s.barrier := rfl
@[simp] theorem State.idleNv_pipes : (s.idleNv).pipes = s.pipes := rfl
@[simp] theorem State.idleNv_banks : (s.idleNv).banks = s.banks := rfl
@[simp] theorem State.idleNv_frameMem : (s.idleNv).frameMem = s.frameMem := rfl
@[simp] theorem State.idleNv_staging : (s.idleNv).staging = s.staging := rfl
@[simp] theorem State.idleNv_scanner : (s.idleNv).scanner = s.scanner := rfl
@[simp] theorem State.idleNv_preset :
    (s.idleNv).preset = { s.preset with nv := none, requester := none, progress := none } := rfl
@[simp] theorem State.idleNv_flash : (s.idleNv).flash = s.flash := rfl
@[simp] theorem State.idleNv_links : (s.idleNv).links = s.links := rfl

/-! ### The changed element of a vector -/

theorem State.modLink_links_same (k : LinkId) (f : Link → Link) : (s.modLink k f).links[k] = f s.links[k] := by simp

theorem State.modLink_links_ne (k j : LinkId) (f : Link → Link) (h : j ≠ k) : (s.modLink k f).links[j] = s.links[j] := by
  simp only [State.modLink_links, Fin.getElem_fin]
  exact Vector.getElem_set_ne _ _ fun e => h (Fin.ext e.symm)

/-- What a change of link `k` leaves on link `j`. -/
theorem State.modLink_links_get (k j : LinkId) (f : Link → Link) :
    (s.modLink k f).links[j] = if j = k then f s.links[k] else s.links[j] := by
  split
  · next h => subst h; exact s.modLink_links_same j f
  · next h => exact s.modLink_links_ne k j f h

theorem State.raise_links_get (e : EventKind) (k : LinkId) : (s.raise e).links[k] = s.links[k].raise e := by
  simp [State.raise]

theorem State.beginSends_links_get (k : LinkId) : s.beginSends.links[k] = s.links[k].beginSend := by
  simp [State.beginSends]

theorem State.modPipe_pipes_same (c : Chan) (f : Pipe → Pipe) : (s.modPipe c f).pipes[c] = f s.pipes[c] := by simp

theorem State.modPipe_pipes_ne (c d : Chan) (f : Pipe → Pipe) (h : d ≠ c) : (s.modPipe c f).pipes[d] = s.pipes[d] := by
  simp only [State.modPipe_pipes, Fin.getElem_fin]
  exact Vector.getElem_set_ne _ _ fun e => h (Fin.ext e.symm)

theorem State.modCapture_capture_same (c : Chan) (f : Capture → Capture) :
    (s.modCapture c f).capture[c] = f s.capture[c] := by simp

theorem State.modCapture_capture_ne (c d : Chan) (f : Capture → Capture) (h : d ≠ c) :
    (s.modCapture c f).capture[d] = s.capture[d] := by
  simp only [State.modCapture_capture, Fin.getElem_fin]
  exact Vector.getElem_set_ne _ _ fun e => h (Fin.ext e.symm)

theorem State.modMember_members_same (c : Chan) (f : Member → Member) :
    (s.modMember c f).barrier.members[c] = f s.barrier.members[c] := by simp

theorem State.modMember_members_ne (c d : Chan) (f : Member → Member) (h : d ≠ c) :
    (s.modMember c f).barrier.members[d] = s.barrier.members[d] := by
  simp only [State.modMember_barrier, Fin.getElem_fin]
  exact Vector.getElem_set_ne _ _ fun e => h (Fin.ext e.symm)

theorem State.modWatch_watch_same (c : Chan) (f : Watch → Watch) :
    (s.modWatch c f).scanner.watch[c] = f s.scanner.watch[c] := by simp

theorem State.modWatch_watch_ne (c d : Chan) (f : Watch → Watch) (h : d ≠ c) :
    (s.modWatch c f).scanner.watch[d] = s.scanner.watch[d] := by
  simp only [State.modWatch_scanner, Fin.getElem_fin]
  exact Vector.getElem_set_ne _ _ fun e => h (Fin.ext e.symm)

/-- Two changes of one link are one. -/
theorem State.modLink_modLink (k : LinkId) (f g : Link → Link) :
    (s.modLink k f).modLink k g = s.modLink k fun l => g (f l) := by
  simp [State.modLink]

/-- The record just written is the one read. -/
theorem State.setRecord_record_same (b : Bank) (c : Chan) (r : Cells) : (s.setRecord b c r).record b c = r := by
  simp [State.setRecord, State.record, State.modBank]

/-- The header just written is the one read. -/
theorem State.setHeader_header_same (b : Bank) (h : Cells) : (s.setHeader b h).header b = h := by
  simp [State.setHeader, State.header, State.modBank]

end Sys2Proof.Machine
end

