-- ==== Sys2Proof/Laws/Ops.lean ====
section
/-! SUPPORT. One lemma for each shared operation that says what it can do: events and notices (R206, R207), completions
(R195, R196, R199), credits (R197), sending (R196), waiting (R125), and the hold. Proofs cite these and unfold no
operation. -/

namespace Sys2Proof.Machine

variable (l : Link) (s : State)

/-! ### What an operation on a link leaves unchanged -/

@[simp] theorem Link.testNotice_up : (l.testNotice).up = l.up := by unfold Link.testNotice; split <;> rfl
@[simp] theorem Link.testNotice_peer : (l.testNotice).peer = l.peer := by unfold Link.testNotice; split <;> rfl
@[simp] theorem Link.testNotice_share : (l.testNotice).share = l.share := by unfold Link.testNotice; split <;> rfl
@[simp] theorem Link.testNotice_roles : (l.testNotice).roles = l.roles := by unfold Link.testNotice; split <;> rfl
@[simp] theorem Link.testNotice_rx : (l.testNotice).rx = l.rx := by unfold Link.testNotice; split <;> rfl
@[simp] theorem Link.testNotice_unitsHeld : (l.testNotice).unitsHeld = l.unitsHeld := by unfold Link.testNotice; split <;> rfl
@[simp] theorem Link.testNotice_outstanding : (l.testNotice).outstanding = l.outstanding := by unfold Link.testNotice; split <;> rfl
@[simp] theorem Link.testNotice_wait : (l.testNotice).wait = l.wait := by unfold Link.testNotice; split <;> rfl
@[simp] theorem Link.testNotice_sending : (l.testNotice).sending = l.sending := by unfold Link.testNotice; split <;> rfl
@[simp] theorem Link.testNotice_unitsReturn : (l.testNotice).unitsReturn = l.unitsReturn := by unfold Link.testNotice; split <;> rfl
@[simp] theorem Link.testNotice_countsReturn : (l.testNotice).countsReturn = l.countsReturn := by unfold Link.testNotice; split <;> rfl
@[simp] theorem Link.testNotice_lastRefusal : (l.testNotice).lastRefusal = l.lastRefusal := by unfold Link.testNotice; split <;> rfl
@[simp] theorem Link.testNotice_lastFault : (l.testNotice).lastFault = l.lastFault := by unfold Link.testNotice; split <;> rfl
@[simp] theorem Link.testNotice_pending : (l.testNotice).pending = l.pending := by unfold Link.testNotice; split <;> rfl
@[simp] theorem Link.testNotice_enabled : (l.testNotice).enabled = l.enabled := by unfold Link.testNotice; split <;> rfl

@[simp] theorem Link.raise_up (e : EventKind) : (l.raise e).up = l.up := by unfold Link.raise; split <;> simp
@[simp] theorem Link.raise_peer (e : EventKind) : (l.raise e).peer = l.peer := by unfold Link.raise; split <;> simp
@[simp] theorem Link.raise_share (e : EventKind) : (l.raise e).share = l.share := by unfold Link.raise; split <;> simp
@[simp] theorem Link.raise_roles (e : EventKind) : (l.raise e).roles = l.roles := by unfold Link.raise; split <;> simp
@[simp] theorem Link.raise_rx (e : EventKind) : (l.raise e).rx = l.rx := by unfold Link.raise; split <;> simp
@[simp] theorem Link.raise_unitsHeld (e : EventKind) : (l.raise e).unitsHeld = l.unitsHeld := by unfold Link.raise; split <;> simp
@[simp] theorem Link.raise_outstanding (e : EventKind) : (l.raise e).outstanding = l.outstanding := by unfold Link.raise; split <;> simp
@[simp] theorem Link.raise_wait (e : EventKind) : (l.raise e).wait = l.wait := by unfold Link.raise; split <;> simp
@[simp] theorem Link.raise_sending (e : EventKind) : (l.raise e).sending = l.sending := by unfold Link.raise; split <;> simp
@[simp] theorem Link.raise_unitsReturn (e : EventKind) : (l.raise e).unitsReturn = l.unitsReturn := by unfold Link.raise; split <;> simp
@[simp] theorem Link.raise_countsReturn (e : EventKind) : (l.raise e).countsReturn = l.countsReturn := by unfold Link.raise; split <;> simp
@[simp] theorem Link.raise_lastRefusal (e : EventKind) : (l.raise e).lastRefusal = l.lastRefusal := by unfold Link.raise; split <;> simp
@[simp] theorem Link.raise_lastFault (e : EventKind) : (l.raise e).lastFault = l.lastFault := by unfold Link.raise; split <;> simp
@[simp] theorem Link.raise_enabled (e : EventKind) : (l.raise e).enabled = l.enabled := by unfold Link.raise; split <;> simp

@[simp] theorem Link.returnCredit_up : (l.returnCredit).up = l.up := by unfold Link.returnCredit; split <;> rfl
@[simp] theorem Link.returnCredit_peer : (l.returnCredit).peer = l.peer := by unfold Link.returnCredit; split <;> rfl
@[simp] theorem Link.returnCredit_share : (l.returnCredit).share = l.share := by unfold Link.returnCredit; split <;> rfl
@[simp] theorem Link.returnCredit_roles : (l.returnCredit).roles = l.roles := by unfold Link.returnCredit; split <;> rfl
@[simp] theorem Link.returnCredit_rx : (l.returnCredit).rx = l.rx := by unfold Link.returnCredit; split <;> rfl
@[simp] theorem Link.returnCredit_unitsHeld : (l.returnCredit).unitsHeld = l.unitsHeld := by unfold Link.returnCredit; split <;> rfl
@[simp] theorem Link.returnCredit_outstanding : (l.returnCredit).outstanding = l.outstanding := by unfold Link.returnCredit; split <;> rfl
@[simp] theorem Link.returnCredit_wait : (l.returnCredit).wait = l.wait := by unfold Link.returnCredit; split <;> rfl
@[simp] theorem Link.returnCredit_sending : (l.returnCredit).sending = l.sending := by unfold Link.returnCredit; split <;> rfl
@[simp] theorem Link.returnCredit_unitsReturn : (l.returnCredit).unitsReturn = l.unitsReturn := by unfold Link.returnCredit; split <;> rfl
@[simp] theorem Link.returnCredit_countsReturn : (l.returnCredit).countsReturn = l.countsReturn := by unfold Link.returnCredit; split <;> rfl
@[simp] theorem Link.returnCredit_noticeCredit : (l.returnCredit).noticeCredit = l.noticeCredit := by unfold Link.returnCredit; split <;> rfl
@[simp] theorem Link.returnCredit_lastRefusal : (l.returnCredit).lastRefusal = l.lastRefusal := by unfold Link.returnCredit; split <;> rfl
@[simp] theorem Link.returnCredit_lastFault : (l.returnCredit).lastFault = l.lastFault := by unfold Link.returnCredit; split <;> rfl
@[simp] theorem Link.returnCredit_pending : (l.returnCredit).pending = l.pending := by unfold Link.returnCredit; split <;> rfl
@[simp] theorem Link.returnCredit_enabled : (l.returnCredit).enabled = l.enabled := by unfold Link.returnCredit; split <;> rfl
@[simp] theorem Link.returnCredit_notified : (l.returnCredit).notified = l.notified := by unfold Link.returnCredit; split <;> rfl

@[simp] theorem Link.unkeep_up (tag : Byte) : (l.unkeep tag).up = l.up := rfl
@[simp] theorem Link.unkeep_peer (tag : Byte) : (l.unkeep tag).peer = l.peer := rfl
@[simp] theorem Link.unkeep_share (tag : Byte) : (l.unkeep tag).share = l.share := rfl
@[simp] theorem Link.unkeep_roles (tag : Byte) : (l.unkeep tag).roles = l.roles := rfl
@[simp] theorem Link.unkeep_rx (tag : Byte) : (l.unkeep tag).rx = l.rx := rfl
@[simp] theorem Link.unkeep_unitsHeld (tag : Byte) : (l.unkeep tag).unitsHeld = l.unitsHeld := rfl
@[simp] theorem Link.unkeep_outstanding (tag : Byte) : (l.unkeep tag).outstanding = l.outstanding := rfl
@[simp] theorem Link.unkeep_sendQ (tag : Byte) : (l.unkeep tag).sendQ = l.sendQ := rfl
@[simp] theorem Link.unkeep_sending (tag : Byte) : (l.unkeep tag).sending = l.sending := rfl
@[simp] theorem Link.unkeep_unitsReturn (tag : Byte) : (l.unkeep tag).unitsReturn = l.unitsReturn := rfl
@[simp] theorem Link.unkeep_countsReturn (tag : Byte) : (l.unkeep tag).countsReturn = l.countsReturn := rfl
@[simp] theorem Link.unkeep_noticeCredit (tag : Byte) : (l.unkeep tag).noticeCredit = l.noticeCredit := rfl
@[simp] theorem Link.unkeep_lastRefusal (tag : Byte) : (l.unkeep tag).lastRefusal = l.lastRefusal := rfl
@[simp] theorem Link.unkeep_lastFault (tag : Byte) : (l.unkeep tag).lastFault = l.lastFault := rfl
@[simp] theorem Link.unkeep_pending (tag : Byte) : (l.unkeep tag).pending = l.pending := rfl
@[simp] theorem Link.unkeep_enabled (tag : Byte) : (l.unkeep tag).enabled = l.enabled := rfl
@[simp] theorem Link.unkeep_notified (tag : Byte) : (l.unkeep tag).notified = l.notified := rfl

@[simp] theorem Link.complete_up (tag : Byte) (st : Status) (o : Word32) (c : List Byte) : (l.complete tag st o c).up = l.up := by unfold Link.complete; split <;> rfl
@[simp] theorem Link.complete_peer (tag : Byte) (st : Status) (o : Word32) (c : List Byte) : (l.complete tag st o c).peer = l.peer := by unfold Link.complete; split <;> rfl
@[simp] theorem Link.complete_share (tag : Byte) (st : Status) (o : Word32) (c : List Byte) : (l.complete tag st o c).share = l.share := by unfold Link.complete; split <;> rfl
@[simp] theorem Link.complete_roles (tag : Byte) (st : Status) (o : Word32) (c : List Byte) : (l.complete tag st o c).roles = l.roles := by unfold Link.complete; split <;> rfl
@[simp] theorem Link.complete_rx (tag : Byte) (st : Status) (o : Word32) (c : List Byte) : (l.complete tag st o c).rx = l.rx := by unfold Link.complete; split <;> rfl
@[simp] theorem Link.complete_unitsHeld (tag : Byte) (st : Status) (o : Word32) (c : List Byte) : (l.complete tag st o c).unitsHeld = l.unitsHeld := by unfold Link.complete; split <;> rfl
@[simp] theorem Link.complete_outstanding (tag : Byte) (st : Status) (o : Word32) (c : List Byte) : (l.complete tag st o c).outstanding = l.outstanding := by unfold Link.complete; split <;> rfl
@[simp] theorem Link.complete_sending (tag : Byte) (st : Status) (o : Word32) (c : List Byte) : (l.complete tag st o c).sending = l.sending := by unfold Link.complete; split <;> rfl
@[simp] theorem Link.complete_unitsReturn (tag : Byte) (st : Status) (o : Word32) (c : List Byte) : (l.complete tag st o c).unitsReturn = l.unitsReturn := by unfold Link.complete; split <;> rfl
@[simp] theorem Link.complete_countsReturn (tag : Byte) (st : Status) (o : Word32) (c : List Byte) : (l.complete tag st o c).countsReturn = l.countsReturn := by unfold Link.complete; split <;> rfl
@[simp] theorem Link.complete_noticeCredit (tag : Byte) (st : Status) (o : Word32) (c : List Byte) : (l.complete tag st o c).noticeCredit = l.noticeCredit := by unfold Link.complete; split <;> rfl
@[simp] theorem Link.complete_lastRefusal (tag : Byte) (st : Status) (o : Word32) (c : List Byte) : (l.complete tag st o c).lastRefusal = l.lastRefusal := by unfold Link.complete; split <;> rfl
@[simp] theorem Link.complete_lastFault (tag : Byte) (st : Status) (o : Word32) (c : List Byte) : (l.complete tag st o c).lastFault = l.lastFault := by unfold Link.complete; split <;> rfl
@[simp] theorem Link.complete_pending (tag : Byte) (st : Status) (o : Word32) (c : List Byte) : (l.complete tag st o c).pending = l.pending := by unfold Link.complete; split <;> rfl
@[simp] theorem Link.complete_enabled (tag : Byte) (st : Status) (o : Word32) (c : List Byte) : (l.complete tag st o c).enabled = l.enabled := by unfold Link.complete; split <;> rfl
@[simp] theorem Link.complete_notified (tag : Byte) (st : Status) (o : Word32) (c : List Byte) : (l.complete tag st o c).notified = l.notified := by unfold Link.complete; split <;> rfl

@[simp] theorem Link.leavePosted_up (m : Msg) : (l.leavePosted m).up = l.up := by simp [Link.leavePosted]
@[simp] theorem Link.leavePosted_peer (m : Msg) : (l.leavePosted m).peer = l.peer := by simp [Link.leavePosted]
@[simp] theorem Link.leavePosted_share (m : Msg) : (l.leavePosted m).share = l.share := by simp [Link.leavePosted]
@[simp] theorem Link.leavePosted_roles (m : Msg) : (l.leavePosted m).roles = l.roles := by simp [Link.leavePosted]
@[simp] theorem Link.leavePosted_outstanding (m : Msg) : (l.leavePosted m).outstanding = l.outstanding := by simp [Link.leavePosted]
@[simp] theorem Link.leavePosted_wait (m : Msg) : (l.leavePosted m).wait = l.wait := by simp [Link.leavePosted]
@[simp] theorem Link.leavePosted_sending (m : Msg) : (l.leavePosted m).sending = l.sending := by simp [Link.leavePosted]
@[simp] theorem Link.leavePosted_countsReturn (m : Msg) : (l.leavePosted m).countsReturn = l.countsReturn := by simp [Link.leavePosted]
@[simp] theorem Link.leavePosted_noticeCredit (m : Msg) : (l.leavePosted m).noticeCredit = l.noticeCredit := by simp [Link.leavePosted]
@[simp] theorem Link.leavePosted_lastRefusal (m : Msg) : (l.leavePosted m).lastRefusal = l.lastRefusal := by simp [Link.leavePosted]
@[simp] theorem Link.leavePosted_lastFault (m : Msg) : (l.leavePosted m).lastFault = l.lastFault := by simp [Link.leavePosted]
@[simp] theorem Link.leavePosted_pending (m : Msg) : (l.leavePosted m).pending = l.pending := by simp [Link.leavePosted]
@[simp] theorem Link.leavePosted_enabled (m : Msg) : (l.leavePosted m).enabled = l.enabled := by simp [Link.leavePosted]
@[simp] theorem Link.leavePosted_notified (m : Msg) : (l.leavePosted m).notified = l.notified := by simp [Link.leavePosted]

@[simp] theorem Link.beginMessage_up (m : OutMsg) (r : List OutMsg) : (l.beginMessage m r).up = l.up := by unfold Link.beginMessage; split <;> rfl
@[simp] theorem Link.beginMessage_peer (m : OutMsg) (r : List OutMsg) : (l.beginMessage m r).peer = l.peer := by unfold Link.beginMessage; split <;> rfl
@[simp] theorem Link.beginMessage_share (m : OutMsg) (r : List OutMsg) : (l.beginMessage m r).share = l.share := by unfold Link.beginMessage; split <;> rfl
@[simp] theorem Link.beginMessage_roles (m : OutMsg) (r : List OutMsg) : (l.beginMessage m r).roles = l.roles := by unfold Link.beginMessage; split <;> rfl
@[simp] theorem Link.beginMessage_rx (m : OutMsg) (r : List OutMsg) : (l.beginMessage m r).rx = l.rx := by unfold Link.beginMessage; split <;> rfl
@[simp] theorem Link.beginMessage_unitsHeld (m : OutMsg) (r : List OutMsg) : (l.beginMessage m r).unitsHeld = l.unitsHeld := by unfold Link.beginMessage; split <;> rfl
@[simp] theorem Link.beginMessage_outstanding (m : OutMsg) (r : List OutMsg) : (l.beginMessage m r).outstanding = l.outstanding := by unfold Link.beginMessage; split <;> rfl
@[simp] theorem Link.beginMessage_wait (m : OutMsg) (r : List OutMsg) : (l.beginMessage m r).wait = l.wait := by unfold Link.beginMessage; split <;> rfl
@[simp] theorem Link.beginMessage_noticeCredit (m : OutMsg) (r : List OutMsg) : (l.beginMessage m r).noticeCredit = l.noticeCredit := by unfold Link.beginMessage; split <;> rfl
@[simp] theorem Link.beginMessage_lastRefusal (m : OutMsg) (r : List OutMsg) : (l.beginMessage m r).lastRefusal = l.lastRefusal := by unfold Link.beginMessage; split <;> rfl
@[simp] theorem Link.beginMessage_lastFault (m : OutMsg) (r : List OutMsg) : (l.beginMessage m r).lastFault = l.lastFault := by unfold Link.beginMessage; split <;> rfl
@[simp] theorem Link.beginMessage_pending (m : OutMsg) (r : List OutMsg) : (l.beginMessage m r).pending = l.pending := by unfold Link.beginMessage; split <;> rfl
@[simp] theorem Link.beginMessage_enabled (m : OutMsg) (r : List OutMsg) : (l.beginMessage m r).enabled = l.enabled := by unfold Link.beginMessage; split <;> rfl
@[simp] theorem Link.beginMessage_notified (m : OutMsg) (r : List OutMsg) : (l.beginMessage m r).notified = l.notified := by unfold Link.beginMessage; split <;> rfl

@[simp] theorem Link.beginSend_up : (l.beginSend).up = l.up := by
  unfold Link.beginSend; split
  · split <;> simp
  · rfl
@[simp] theorem Link.beginSend_peer : (l.beginSend).peer = l.peer := by
  unfold Link.beginSend; split
  · split <;> simp
  · rfl
@[simp] theorem Link.beginSend_share : (l.beginSend).share = l.share := by
  unfold Link.beginSend; split
  · split <;> simp
  · rfl
@[simp] theorem Link.beginSend_roles : (l.beginSend).roles = l.roles := by
  unfold Link.beginSend; split
  · split <;> simp
  · rfl
@[simp] theorem Link.beginSend_rx : (l.beginSend).rx = l.rx := by
  unfold Link.beginSend; split
  · split <;> simp
  · rfl
@[simp] theorem Link.beginSend_unitsHeld : (l.beginSend).unitsHeld = l.unitsHeld := by
  unfold Link.beginSend; split
  · split <;> simp
  · rfl
@[simp] theorem Link.beginSend_outstanding : (l.beginSend).outstanding = l.outstanding := by
  unfold Link.beginSend; split
  · split <;> simp
  · rfl
@[simp] theorem Link.beginSend_wait : (l.beginSend).wait = l.wait := by
  unfold Link.beginSend; split
  · split <;> simp
  · rfl
@[simp] theorem Link.beginSend_noticeCredit : (l.beginSend).noticeCredit = l.noticeCredit := by
  unfold Link.beginSend; split
  · split <;> simp
  · rfl
@[simp] theorem Link.beginSend_lastRefusal : (l.beginSend).lastRefusal = l.lastRefusal := by
  unfold Link.beginSend; split
  · split <;> simp
  · rfl
@[simp] theorem Link.beginSend_lastFault : (l.beginSend).lastFault = l.lastFault := by
  unfold Link.beginSend; split
  · split <;> simp
  · rfl
@[simp] theorem Link.beginSend_pending : (l.beginSend).pending = l.pending := by
  unfold Link.beginSend; split
  · split <;> simp
  · rfl
@[simp] theorem Link.beginSend_enabled : (l.beginSend).enabled = l.enabled := by
  unfold Link.beginSend; split
  · split <;> simp
  · rfl
@[simp] theorem Link.beginSend_notified : (l.beginSend).notified = l.notified := by
  unfold Link.beginSend; split
  · split <;> simp
  · rfl

@[simp] theorem Link.clearKinds_up (x : BitVec 32) : (l.clearKinds x).up = l.up := rfl
@[simp] theorem Link.clearKinds_peer (x : BitVec 32) : (l.clearKinds x).peer = l.peer := rfl
@[simp] theorem Link.clearKinds_share (x : BitVec 32) : (l.clearKinds x).share = l.share := rfl
@[simp] theorem Link.clearKinds_roles (x : BitVec 32) : (l.clearKinds x).roles = l.roles := rfl
@[simp] theorem Link.clearKinds_rx (x : BitVec 32) : (l.clearKinds x).rx = l.rx := rfl
@[simp] theorem Link.clearKinds_unitsHeld (x : BitVec 32) : (l.clearKinds x).unitsHeld = l.unitsHeld := rfl
@[simp] theorem Link.clearKinds_outstanding (x : BitVec 32) : (l.clearKinds x).outstanding = l.outstanding := rfl
@[simp] theorem Link.clearKinds_wait (x : BitVec 32) : (l.clearKinds x).wait = l.wait := rfl
@[simp] theorem Link.clearKinds_sendQ (x : BitVec 32) : (l.clearKinds x).sendQ = l.sendQ := rfl
@[simp] theorem Link.clearKinds_sending (x : BitVec 32) : (l.clearKinds x).sending = l.sending := rfl
@[simp] theorem Link.clearKinds_unitsReturn (x : BitVec 32) : (l.clearKinds x).unitsReturn = l.unitsReturn := rfl
@[simp] theorem Link.clearKinds_countsReturn (x : BitVec 32) : (l.clearKinds x).countsReturn = l.countsReturn := rfl
@[simp] theorem Link.clearKinds_noticeCredit (x : BitVec 32) : (l.clearKinds x).noticeCredit = l.noticeCredit := rfl
@[simp] theorem Link.clearKinds_lastRefusal (x : BitVec 32) : (l.clearKinds x).lastRefusal = l.lastRefusal := rfl
@[simp] theorem Link.clearKinds_lastFault (x : BitVec 32) : (l.clearKinds x).lastFault = l.lastFault := rfl
@[simp] theorem Link.clearKinds_enabled (x : BitVec 32) : (l.clearKinds x).enabled = l.enabled := rfl

@[simp] theorem Link.recordRefusal_up (st : Status) (m : Msg) : (l.recordRefusal st m).up = l.up := rfl
@[simp] theorem Link.recordRefusal_peer (st : Status) (m : Msg) : (l.recordRefusal st m).peer = l.peer := rfl
@[simp] theorem Link.recordRefusal_share (st : Status) (m : Msg) : (l.recordRefusal st m).share = l.share := rfl
@[simp] theorem Link.recordRefusal_roles (st : Status) (m : Msg) : (l.recordRefusal st m).roles = l.roles := rfl
@[simp] theorem Link.recordRefusal_rx (st : Status) (m : Msg) : (l.recordRefusal st m).rx = l.rx := rfl
@[simp] theorem Link.recordRefusal_unitsHeld (st : Status) (m : Msg) : (l.recordRefusal st m).unitsHeld = l.unitsHeld := rfl
@[simp] theorem Link.recordRefusal_outstanding (st : Status) (m : Msg) : (l.recordRefusal st m).outstanding = l.outstanding := rfl
@[simp] theorem Link.recordRefusal_wait (st : Status) (m : Msg) : (l.recordRefusal st m).wait = l.wait := rfl
@[simp] theorem Link.recordRefusal_sendQ (st : Status) (m : Msg) : (l.recordRefusal st m).sendQ = l.sendQ := rfl
@[simp] theorem Link.recordRefusal_sending (st : Status) (m : Msg) : (l.recordRefusal st m).sending = l.sending := rfl
@[simp] theorem Link.recordRefusal_unitsReturn (st : Status) (m : Msg) : (l.recordRefusal st m).unitsReturn = l.unitsReturn := rfl
@[simp] theorem Link.recordRefusal_countsReturn (st : Status) (m : Msg) : (l.recordRefusal st m).countsReturn = l.countsReturn := rfl
@[simp] theorem Link.recordRefusal_noticeCredit (st : Status) (m : Msg) : (l.recordRefusal st m).noticeCredit = l.noticeCredit := rfl
@[simp] theorem Link.recordRefusal_lastFault (st : Status) (m : Msg) : (l.recordRefusal st m).lastFault = l.lastFault := rfl
@[simp] theorem Link.recordRefusal_pending (st : Status) (m : Msg) : (l.recordRefusal st m).pending = l.pending := rfl
@[simp] theorem Link.recordRefusal_enabled (st : Status) (m : Msg) : (l.recordRefusal st m).enabled = l.enabled := rfl
@[simp] theorem Link.recordRefusal_notified (st : Status) (m : Msg) : (l.recordRefusal st m).notified = l.notified := rfl

@[simp] theorem Link.recordFault_up (r : FaultReason) (b : Byte) : (l.recordFault r b).up = l.up := rfl
@[simp] theorem Link.recordFault_peer (r : FaultReason) (b : Byte) : (l.recordFault r b).peer = l.peer := rfl
@[simp] theorem Link.recordFault_share (r : FaultReason) (b : Byte) : (l.recordFault r b).share = l.share := rfl
@[simp] theorem Link.recordFault_roles (r : FaultReason) (b : Byte) : (l.recordFault r b).roles = l.roles := rfl
@[simp] theorem Link.recordFault_rx (r : FaultReason) (b : Byte) : (l.recordFault r b).rx = l.rx := rfl
@[simp] theorem Link.recordFault_unitsHeld (r : FaultReason) (b : Byte) : (l.recordFault r b).unitsHeld = l.unitsHeld := rfl
@[simp] theorem Link.recordFault_outstanding (r : FaultReason) (b : Byte) : (l.recordFault r b).outstanding = l.outstanding := rfl
@[simp] theorem Link.recordFault_wait (r : FaultReason) (b : Byte) : (l.recordFault r b).wait = l.wait := rfl
@[simp] theorem Link.recordFault_sendQ (r : FaultReason) (b : Byte) : (l.recordFault r b).sendQ = l.sendQ := rfl
@[simp] theorem Link.recordFault_sending (r : FaultReason) (b : Byte) : (l.recordFault r b).sending = l.sending := rfl
@[simp] theorem Link.recordFault_unitsReturn (r : FaultReason) (b : Byte) : (l.recordFault r b).unitsReturn = l.unitsReturn := rfl
@[simp] theorem Link.recordFault_countsReturn (r : FaultReason) (b : Byte) : (l.recordFault r b).countsReturn = l.countsReturn := rfl
@[simp] theorem Link.recordFault_noticeCredit (r : FaultReason) (b : Byte) : (l.recordFault r b).noticeCredit = l.noticeCredit := rfl
@[simp] theorem Link.recordFault_lastRefusal (r : FaultReason) (b : Byte) : (l.recordFault r b).lastRefusal = l.lastRefusal := rfl
@[simp] theorem Link.recordFault_pending (r : FaultReason) (b : Byte) : (l.recordFault r b).pending = l.pending := rfl
@[simp] theorem Link.recordFault_enabled (r : FaultReason) (b : Byte) : (l.recordFault r b).enabled = l.enabled := rfl
@[simp] theorem Link.recordFault_notified (r : FaultReason) (b : Byte) : (l.recordFault r b).notified = l.notified := rfl

@[simp] theorem Link.popHead_up : (l.popHead).up = l.up := rfl
@[simp] theorem Link.popHead_peer : (l.popHead).peer = l.peer := rfl
@[simp] theorem Link.popHead_share : (l.popHead).share = l.share := rfl
@[simp] theorem Link.popHead_roles : (l.popHead).roles = l.roles := rfl
@[simp] theorem Link.popHead_unitsHeld : (l.popHead).unitsHeld = l.unitsHeld := rfl
@[simp] theorem Link.popHead_outstanding : (l.popHead).outstanding = l.outstanding := rfl
@[simp] theorem Link.popHead_wait : (l.popHead).wait = l.wait := rfl
@[simp] theorem Link.popHead_sendQ : (l.popHead).sendQ = l.sendQ := rfl
@[simp] theorem Link.popHead_sending : (l.popHead).sending = l.sending := rfl
@[simp] theorem Link.popHead_unitsReturn : (l.popHead).unitsReturn = l.unitsReturn := rfl
@[simp] theorem Link.popHead_countsReturn : (l.popHead).countsReturn = l.countsReturn := rfl
@[simp] theorem Link.popHead_noticeCredit : (l.popHead).noticeCredit = l.noticeCredit := rfl
@[simp] theorem Link.popHead_lastRefusal : (l.popHead).lastRefusal = l.lastRefusal := rfl
@[simp] theorem Link.popHead_lastFault : (l.popHead).lastFault = l.lastFault := rfl
@[simp] theorem Link.popHead_pending : (l.popHead).pending = l.pending := rfl
@[simp] theorem Link.popHead_enabled : (l.popHead).enabled = l.enabled := rfl
@[simp] theorem Link.popHead_notified : (l.popHead).notified = l.notified := rfl

@[simp] theorem Link.holdPosted_up (m : Msg) : (l.holdPosted m).up = l.up := rfl
@[simp] theorem Link.holdPosted_peer (m : Msg) : (l.holdPosted m).peer = l.peer := rfl
@[simp] theorem Link.holdPosted_share (m : Msg) : (l.holdPosted m).share = l.share := rfl
@[simp] theorem Link.holdPosted_roles (m : Msg) : (l.holdPosted m).roles = l.roles := rfl
@[simp] theorem Link.holdPosted_outstanding (m : Msg) : (l.holdPosted m).outstanding = l.outstanding := rfl
@[simp] theorem Link.holdPosted_wait (m : Msg) : (l.holdPosted m).wait = l.wait := rfl
@[simp] theorem Link.holdPosted_sendQ (m : Msg) : (l.holdPosted m).sendQ = l.sendQ := rfl
@[simp] theorem Link.holdPosted_sending (m : Msg) : (l.holdPosted m).sending = l.sending := rfl
@[simp] theorem Link.holdPosted_unitsReturn (m : Msg) : (l.holdPosted m).unitsReturn = l.unitsReturn := rfl
@[simp] theorem Link.holdPosted_countsReturn (m : Msg) : (l.holdPosted m).countsReturn = l.countsReturn := rfl
@[simp] theorem Link.holdPosted_noticeCredit (m : Msg) : (l.holdPosted m).noticeCredit = l.noticeCredit := rfl
@[simp] theorem Link.holdPosted_lastRefusal (m : Msg) : (l.holdPosted m).lastRefusal = l.lastRefusal := rfl
@[simp] theorem Link.holdPosted_lastFault (m : Msg) : (l.holdPosted m).lastFault = l.lastFault := rfl
@[simp] theorem Link.holdPosted_pending (m : Msg) : (l.holdPosted m).pending = l.pending := rfl
@[simp] theorem Link.holdPosted_enabled (m : Msg) : (l.holdPosted m).enabled = l.enabled := rfl
@[simp] theorem Link.holdPosted_notified (m : Msg) : (l.holdPosted m).notified = l.notified := rfl

@[simp] theorem Link.holdRequest_up (tag : Byte) (m : Msg) : (l.holdRequest tag m).up = l.up := rfl
@[simp] theorem Link.holdRequest_peer (tag : Byte) (m : Msg) : (l.holdRequest tag m).peer = l.peer := rfl
@[simp] theorem Link.holdRequest_share (tag : Byte) (m : Msg) : (l.holdRequest tag m).share = l.share := rfl
@[simp] theorem Link.holdRequest_roles (tag : Byte) (m : Msg) : (l.holdRequest tag m).roles = l.roles := rfl
@[simp] theorem Link.holdRequest_unitsHeld (tag : Byte) (m : Msg) : (l.holdRequest tag m).unitsHeld = l.unitsHeld := rfl
@[simp] theorem Link.holdRequest_wait (tag : Byte) (m : Msg) : (l.holdRequest tag m).wait = l.wait := rfl
@[simp] theorem Link.holdRequest_sendQ (tag : Byte) (m : Msg) : (l.holdRequest tag m).sendQ = l.sendQ := rfl
@[simp] theorem Link.holdRequest_sending (tag : Byte) (m : Msg) : (l.holdRequest tag m).sending = l.sending := rfl
@[simp] theorem Link.holdRequest_unitsReturn (tag : Byte) (m : Msg) : (l.holdRequest tag m).unitsReturn = l.unitsReturn := rfl
@[simp] theorem Link.holdRequest_countsReturn (tag : Byte) (m : Msg) : (l.holdRequest tag m).countsReturn = l.countsReturn := rfl
@[simp] theorem Link.holdRequest_noticeCredit (tag : Byte) (m : Msg) : (l.holdRequest tag m).noticeCredit = l.noticeCredit := rfl
@[simp] theorem Link.holdRequest_lastRefusal (tag : Byte) (m : Msg) : (l.holdRequest tag m).lastRefusal = l.lastRefusal := rfl
@[simp] theorem Link.holdRequest_lastFault (tag : Byte) (m : Msg) : (l.holdRequest tag m).lastFault = l.lastFault := rfl
@[simp] theorem Link.holdRequest_pending (tag : Byte) (m : Msg) : (l.holdRequest tag m).pending = l.pending := rfl
@[simp] theorem Link.holdRequest_enabled (tag : Byte) (m : Msg) : (l.holdRequest tag m).enabled = l.enabled := rfl
@[simp] theorem Link.holdRequest_notified (tag : Byte) (m : Msg) : (l.holdRequest tag m).notified = l.notified := rfl

/-! ### What each operation does -/

/-- R206: a raise makes the kind pending. -/
theorem Link.raise_pending (e : EventKind) : (l.raise e).pending = l.pending ||| e.bit := by
  unfold Link.raise
  split
  · next h => ext i hi; have := congrArg (fun x => x.getLsbD i) h; simp at this ⊢; cases hp : l.pending[i] <;> simp_all
  · simp

/-- R206: a kind already pending changes nothing. -/
theorem Link.raise_pending_already (e : EventKind) (h : l.pending &&& e.bit = e.bit) : l.raise e = l := if_pos h

/-- R207: a notice is made exactly when its two conditions hold. -/
theorem Link.testNotice_spec :
    (l.wantsNotice = true ∧ l.testNotice =
      { l with
        notified := l.notified ||| (l.enabled &&& l.pending)
        noticeCredit := l.noticeCredit - 1
        sendQ := l.sendQ ++ [.notice (l.enabled &&& l.pending)] }) ∨
    (l.wantsNotice = false ∧ l.testNotice = l) := by
  unfold Link.testNotice
  cases h : l.wantsNotice <;> simp

/-- R207: no notice on a DOWN link. -/
theorem Link.testNotice_when_down (h : l.up = false) : l.testNotice = l := by simp [Link.testNotice, Link.wantsNotice, h]

/-- R197: a CREDIT joins the send queue, or there is nothing to return, or one waits already. -/
theorem Link.returnCredit_spec :
    (l.returnCredit = { l with sendQ := l.sendQ ++ [.creditOpen] } ∧
      (l.unitsReturn ≠ 0 ∨ l.countsReturn ≠ 0) ∧ .creditOpen ∉ l.sendQ) ∨
    (l.returnCredit = l ∧ ((l.unitsReturn = 0 ∧ l.countsReturn = 0) ∨ .creditOpen ∈ l.sendQ)) := by
  unfold Link.returnCredit
  split
  · next h => exact .inr ⟨rfl, h⟩
  · next h => exact .inl ⟨rfl, by tauto⟩

/-- R196, R199: on an UP link a completion joins the send queue and its request leaves the wait list. -/
theorem Link.complete_when_up (tag : Byte) (st : Status) (o : Word32) (c : List Byte) (h : l.up = true) :
    l.complete tag st o c =
      { l with
        wait := l.wait.filter fun m => m.tag? ≠ some tag
        sendQ := l.sendQ ++ [.completion tag st o (c.take 256) (c.drop 256)] } := by
  simp [Link.complete, h, Link.unkeep]

/-- R186: on a DOWN link a completion is dropped. -/
theorem Link.complete_when_down (tag : Byte) (st : Status) (o : Word32) (c : List Byte) (h : l.up = false) :
    l.complete tag st o c = l := by simp [Link.complete, h]

/-- R196: a link that is DOWN, sends already or has nothing to send begins nothing. -/
theorem Link.beginSend_idle (h : l.up = false ∨ l.sending ≠ none ∨ l.sendQ = []) : l.beginSend = l := by
  unfold Link.beginSend
  split
  · next hc =>
    simp only [Bool.and_eq_true, decide_eq_true_eq] at hc
    rcases h with h | h | h
    · simp [h] at hc
    · exact absurd hc.2 h
    · rw [h]
  · rfl

/-- R196: an idle UP link begins the message at the head of its send queue. -/
theorem Link.beginSend_head (m : OutMsg) (rest : List OutMsg) (hu : l.up = true) (hs : l.sending = none)
    (hq : l.sendQ = m :: rest) : l.beginSend = l.beginMessage m rest := by
  simp [Link.beginSend, hu, hs, hq]

/-- R125: a claimant that waits keeps its place, another joins the end. -/
theorem State.await_waiting (w : Claimant) :
    (s.await w).staging.waiting = if w ∈ s.staging.waiting then s.staging.waiting else s.staging.waiting ++ [w] := by
  simp only [State.await, State.modStaging_staging]
  split <;> rfl

/-- R125: a claimant that does not wait cannot be dismissed. -/
theorem State.unwait_none (w : Claimant) (h : w ∉ s.staging.waiting) : s.unwait w = s := by
  have : s.staging.waiting.filter (fun x => x ≠ w) = s.staging.waiting :=
    List.filter_eq_self.2 fun x hx => by
      simp only [ne_eq, decide_not, Bool.not_eq_eq_eq_not, Bool.not_true, decide_eq_false_iff_not]
      intro e; exact h (e ▸ hx)
  unfold State.unwait State.modStaging
  simp only [this]

/-- R195: a completion when nothing waits changes one link alone. -/
theorem State.complete_calm (k : LinkId) (tag : Byte) (st : Status) (p : List Byte) (h : s.staging.waiting = []) :
    s.complete k tag st p = s.modLink k (Link.complete tag st 0 p) := by
  unfold State.complete
  rw [State.unwait_none s _ (by simp [h])]

/-- R199: the same of the completion of a READ. -/
theorem State.completeRead_calm (k : LinkId) (tag : Byte) (o : Word32) (p : List Byte) (h : s.staging.waiting = []) :
    s.completeRead k tag o p = s.modLink k (Link.complete tag .success o p) := by
  unfold State.completeRead
  rw [State.unwait_none s _ (by simp [h])]

/-- No operation that completes a request touches a receive queue. -/
@[simp] theorem State.complete_rx (k j : LinkId) (tag : Byte) (st : Status) (p : List Byte) :
    (s.complete k tag st p).links[j].rx = s.links[j].rx := by
  unfold State.complete
  rw [State.modLink_links_get]
  split
  · next h => subst h; simp
  · simp

@[simp] theorem State.completeRead_rx (k j : LinkId) (tag : Byte) (o : Word32) (p : List Byte) :
    (s.completeRead k tag o p).links[j].rx = s.links[j].rx := by
  unfold State.completeRead
  rw [State.modLink_links_get]
  split
  · next h => subst h; simp
  · simp

@[simp] theorem State.raise_rx (j : LinkId) (e : EventKind) : (s.raise e).links[j].rx = s.links[j].rx := by
  rw [State.raise_links_get]; simp

@[simp] theorem State.raise_up (j : LinkId) (e : EventKind) : (s.raise e).links[j].up = s.links[j].up := by
  rw [State.raise_links_get]; simp

@[simp] theorem State.raiseOn_rx (k j : LinkId) (e : EventKind) : (s.raiseOn k e).links[j].rx = s.links[j].rx := by
  unfold State.raiseOn
  rw [State.modLink_links_get]
  split
  · next h => subst h; simp
  · rfl

@[simp] theorem State.keep_rx (k j : LinkId) (m : Msg) : (s.keep k m).links[j].rx = s.links[j].rx := by
  unfold State.keep
  rw [State.modLink_links_get]
  split
  · next h => subst h; split <;> rfl
  · rfl

@[simp] theorem State.beginSends_rx (j : LinkId) : s.beginSends.links[j].rx = s.links[j].rx := by
  rw [State.beginSends_links_get]; simp

/-- R127, R140: a commit that is cancelled leaves staging OPEN with no commit and the hold as it was. -/
theorem State.cancelCommit_staging (h : s.staging.commit.isSome) :
    s.cancelCommit.staging.state = .openState ∧ s.cancelCommit.staging.owner = none ∧
      s.cancelCommit.staging.commit = none ∧ s.cancelCommit.staging.hold = s.staging.hold := by
  obtain ⟨p, hp⟩ := Option.isSome_iff_exists.1 h
  unfold State.cancelCommit
  rw [hp]
  cases ho : p.owner <;> simp [ho]

/-- R127 to R129: the hold ends, and nothing else of Staging changes. -/
theorem State.endHold_staging : s.endHold.staging = { s.staging with hold := none } := by simp [State.endHold]

/-! ### The Scanner at an activation (R156) -/

@[simp] theorem State.dropReference_pass (c : Chan) : (s.dropReference c).scanner.pass = s.scanner.pass := rfl
@[simp] theorem State.dropReference_lock (c : Chan) : (s.dropReference c).scanner.lock = s.scanner.lock := rfl

/-- Dropping references leaves the pass in progress as it is. -/
@[simp] theorem eachChan_dropReference_pass (cs : List Chan) :
    (eachChan State.dropReference cs s).scanner.pass = s.scanner.pass := by
  induction cs generalizing s with
  | nil => rfl
  | cons c cs ih => exact ih (s.dropReference c)

/-- R156: an activation does not concern the Scanner while the lock is clear; under it the references of the set are
dropped, and a pass over a channel of the set gives way to the next. -/
theorem State.scannerActivation_cases (set : ChanSet) :
    (s.scanner.lock = false → s.scannerActivation set = s) ∧
    (s.scanner.lock = true →
      let u := eachChan State.dropReference set.chans s
      (∀ p, s.scanner.pass = some p → p.chan ∈ set.chans → s.scannerActivation set = u.nextPass p.chan) ∧
      ((∀ p, s.scanner.pass = some p → p.chan ∉ set.chans) → s.scannerActivation set = u)) := by
  refine ⟨fun h => by simp [State.scannerActivation, h], fun h => ⟨fun p hp hc => ?_, fun hn => ?_⟩⟩
  · simp [State.scannerActivation, h, hp, hc]
  · cases hp : s.scanner.pass with
    | none => simp [State.scannerActivation, h, hp]
    | some p => simp [State.scannerActivation, h, hp, hn p hp]

/-! ### Ports and flash -/

/-- R28: the rows of the output frame in progress, each with its pixels from column 0 on. -/
theorem State.portFrameCodes_eq (c : Chan) (f : OutFrame) (h : s.pipes[c].frame = some f) :
    s.portFrameCodes c = some ((List.range f.height).map fun y => (List.range f.width).map fun x =>
      outputPixel s.frameMem (s.record f.bank c) c f.mode f.source x y) := by
  unfold State.portFrameCodes State.portRowCodes
  rw [h]
  refine congrArg some ?_
  rw [← List.filterMap_eq_map]
  exact List.filterMap_congr fun y hy => if_pos (List.mem_range.1 hy)

/-- R115: what a port sends: the row whose interval the present time lies in, and nothing in blanking. -/
theorem State.portSends_eq (c : Chan) (f : OutFrame) (h : s.pipes[c].frame = some f) :
    s.portSends c = s.portRowCodes c ((s.timebase.now - f.start) / f.rowTime) := by
  unfold State.portSends State.portRow State.portRowCodes
  rw [h]
  by_cases hy : (s.timebase.now - f.start) / f.rowTime < f.height <;> simp [hy]

/-- R163: the address of an offset in a slot's area. -/
theorem flashArea_slot (sl : SlotId) (offset : Nat) (h : offset < Config.slotArea) :
    flashArea (Config.slotArea * sl.val + offset) = .slot sl offset := by
  have hd : (Config.slotArea * sl.val + offset) / Config.slotArea = sl.val := by
    rw [Nat.mul_add_div (by decide), Nat.div_eq_of_lt h, Nat.add_zero]
  have hm : (Config.slotArea * sl.val + offset) % Config.slotArea = offset := by
    rw [Nat.mul_add_mod, Nat.mod_eq_of_lt h]
  unfold flashArea
  simp [hd, hm]

end Sys2Proof.Machine
end

