-- ==== Sys2Proof/Laws/Settle.lean ====
section
/-! SUPPORT. How a step settles (R125, R193): an induction over the judgements that a settling makes, the settlings that
call for none or for one, and what a message does on a calm link. -/

namespace Sys2Proof.Machine

/-- With nothing to serve and no head to judge, a settling changes nothing. -/
@[simp] theorem settle_nil (n : Nat) (s : State) : settle n [] [] s = s := by cases n <;> rfl

/-- What each service and each judgement of a head keeps, a settling keeps. -/
theorem settle_keeps (P : State → Prop) (hs : ∀ w s, P s → P (s.serve w)) (hh : ∀ k s, P s → P (s.judgeHead k)) :
    ∀ n ws ks s, P s → P (settle n ws ks s) := by
  intro n
  induction n with
  | zero => intro ws ks s h; exact h
  | succ n ih =>
    intro ws ks s h
    cases ws with
    | cons w ws => exact ih _ _ _ (hs w s h)
    | nil =>
      cases ks with
      | cons k ks => exact ih _ _ _ (hh k s h)
      | nil => exact h

/-- What each service, each judgement of a head and the beginning of sending keep, a settled step keeps. -/
theorem settled_keeps (P : State → Prop) (hs : ∀ w s, P s → P (s.serve w)) (hh : ∀ k s, P s → P (s.judgeHead k))
    (hb : ∀ s, P s → P s.beginSends) (s t : State) (h : P t) : P (s.settled t) :=
  hb _ (settle_keeps P hs hh _ _ _ _ h)

/-- There is fuel for at least eighteen judgements. -/
theorem State.fuel_ge (s : State) : 18 ≤ s.fuel := by
  have : 3 ^ 2 ≤ (s.waitCount + 3) ^ 2 := Nat.pow_le_pow_left (by omega) 2
  unfold State.fuel
  omega

/-- A change that calls for nothing settles at once. -/
theorem settled_quiet (s t : State) (hc : claimants s t [] = []) (hh : heads s t = []) : s.settled t = t.beginSends := by
  simp [State.settled, hc, hh]

/-- A change that calls for one head to be judged, whose judgement calls for nothing. -/
theorem settled_one (s t : State) (k : LinkId) (hc : claimants s t [] = []) (hh : heads s t = [k])
    (hc' : claimants t (t.judgeHead k) [] = []) (hh' : heads t (t.judgeHead k) = []) :
    s.settled t = (t.judgeHead k).beginSends := by
  obtain ⟨n, hn⟩ := Nat.exists_eq_add_of_le' (Nat.le_trans (by decide : 1 ≤ 18) t.fuel_ge)
  simp [State.settled, hc, hh, hn, settle, hc', hh']

/-- Nothing is called to be served when neither the staging state, nor the NV controller, nor whether a repair is due
changes. -/
theorem claimants_same (s t : State) (h1 : t.staging.state = s.staging.state) (h2 : t.preset.nv = s.preset.nv)
    (h3 : t.canRepair = s.canRepair) (ws : List Claimant) : claimants s t ws = ws := by
  unfold claimants State.isOpen State.nvIdle
  rw [h1, h2, h3]
  cases s.staging.state <;> cases s.canRepair <;> simp

/-- Nothing is called to be served when nothing waits. -/
theorem claimants_calm (s t : State) (h : t.staging.waiting = []) : claimants s t [] = [] := by
  unfold claimants
  rw [h]
  simp

/-- No head is called to be judged where nothing has changed. -/
@[simp] theorem heads_refl (s : State) : heads s s = [] := by
  unfold heads holdEnded
  refine List.filter_eq_nil_iff.2 fun k _ => ?_
  cases s.links[k].rx <;> by_cases hk : s.staging.hold = some k <;> simp [hk]

/-- Nothing is called to be served where nothing has changed. -/
@[simp] theorem claimants_refl (s : State) (ws : List Claimant) : claimants s s ws = ws := claimants_same s s rfl rfl rfl ws

/-- The start of a repair is no part of the serving (R158). -/
@[simp] theorem State.serve_repair (s : State) : s.serve .repair = s := rfl

/-- A repair that is due ends the serving (R125): those behind it go on waiting. -/
theorem settle_repair_due (n : Nat) (ws : List Claimant) (s : State) (h : s.canRepair = true) :
    settle n (.repair :: ws) [] s = s := by
  cases n with
  | zero => rfl
  | succ n => simp [settle, State.servedAfter, h]

/-- A repair that is not due is passed over (R125). -/
theorem settle_repair_passed (n : Nat) (ws : List Claimant) (ks : List LinkId) (s : State) (h : s.canRepair = false) :
    settle (n + 1) (.repair :: ws) ks s = settle n ws ks s := by
  simp [settle, State.servedAfter, h]

/-- No head is called to be judged where every receive queue is empty. -/
theorem heads_empty (s t : State) (h : ∀ k : LinkId, t.links[k].rx = []) : heads s t = [] := by
  unfold heads
  refine List.filter_eq_nil_iff.2 fun k _ => ?_
  rw [h k]; simp

/-- The head of link `k` alone is called to be judged where its queue was empty and every other one is. -/
theorem heads_single (s t : State) (k : LinkId) (hk : s.links[k].rx = []) (hk' : t.links[k].rx ≠ [])
    (h : ∀ j : LinkId, j ≠ k → t.links[j].rx = []) : heads s t = [k] := by
  have : ∀ j : LinkId, (!t.links[j].rx.isEmpty && (s.links[j].rx.isEmpty || decide (t.links[j].rx.length < s.links[j].rx.length)
      || holdEnded s t j)) = decide (j = k) := fun j => by
    by_cases hj : j = k
    · subst hj; rw [hk]; simpa [-Fin.getElem_fin] using hk'
    · rw [h j hj]; simp [hj]
  unfold heads
  rw [List.filter_congr fun j _ => this j]
  exact (by decide : ∀ k : LinkId, (List.finRange 4).filter (fun j => decide (j = k)) = [k]) k

/-- What `popHead` after `holdRequest` leaves of a link whose queue was empty. -/
theorem Link.hold_pop (l : Link) (tag : Byte) (m : Msg) (h : l.rx = []) :
    (l.holdRequest tag m).popHead = { l with outstanding := l.outstanding ++ [tag] } := by
  cases l; simp_all [Link.holdRequest, Link.popHead]

/-- The state with the one request `m` at the head of link `k`'s queue, on a calm part. -/
theorem State.arrive_request (s : State) (k : LinkId) (m : Msg) (tag : Byte) (hm : m.tag? = some tag)
    (ha : s.canAsk k tag) : s.arrive k (.msg m) = s.modLink k (Link.holdRequest tag m) := by
  obtain ⟨hu, hn, ht⟩ := ha
  have h16 : ¬ 16 ≤ s.links[k].outstanding.length := by omega
  simp only [Fin.getElem_fin] at hu h16 ht
  simp [State.arrive, hu, State.takeIn, hm, h16, ht]

/-- A COMMAND on a calm part: it is taken at once, by the block that owns it, and nothing else happens but sending, when
what it leaves calls for no more. -/
theorem receiveCommand_calm (s u : State) (k : LinkId) (tag code : Byte) (ps : List Byte) (hc : s.calm)
    (ha : s.canAsk k tag) (hp : ps.length ≤ 16) (roles : BitVec 3) (hr : commandRoles code = some roles)
    (hr' : hasRole s.links[k].roles roles = true) (hu : takeCommand k tag code ps (s.asked k tag) = u)
    (hrx : ∀ j : LinkId, u.links[j].rx = []) (hcl : claimants s u [] = []) :
    s.receiveCommand k tag code ps = u.beginSends := by
  have hform : formOf (.command tag code ps) = .msg (.command tag code ps) := by simp [formOf, hp]
  have harr := s.arrive_request k (.command tag code ps) tag rfl ha
  unfold State.receiveCommand State.receive
  rw [hform, harr]
  have hjudge : (s.modLink k (Link.holdRequest tag (.command tag code ps))).judgeHead k = u := by
    have hrx1 : (s.modLink k (Link.holdRequest tag (.command tag code ps))).links[k].rx = [.command tag code ps] := by
      rw [State.modLink_links_same, Link.holdRequest, hc.2 k]; rfl
    have hpop : (s.modLink k (Link.holdRequest tag (.command tag code ps))).modLink k Link.popHead = s.asked k tag := by
      rw [State.modLink_modLink]
      unfold State.asked State.modLink
      simp only [Link.hold_pop _ _ _ (hc.2 k)]
    unfold State.judgeHead
    rw [hrx1]
    simp only
    rw [hpop]
    unfold judgeRequest judgeCommand
    have hroles : hasRole (s.asked k tag).links[k].roles roles = true := by
      unfold State.asked; rw [State.modLink_links_same]; exact hr'
    simp only [hr, hroles, Bool.not_true, Bool.false_eq_true, if_false]
    exact hu
  rw [settled_one _ _ k]
  · rw [hjudge]
  · exact claimants_same _ _ rfl rfl rfl []
  · refine heads_single _ _ k (hc.2 k) ?_ fun j hj => ?_
    · rw [State.modLink_links_same]; simp [Link.holdRequest]
    · rw [State.modLink_links_ne _ _ _ _ hj]; exact hc.2 j
  · rw [hjudge]; exact hcl
  · rw [hjudge]; exact heads_empty _ _ hrx

/-- A posted message on a calm part: it holds its units and stands at the head. -/
theorem State.arrive_posted (s : State) (k : LinkId) (m : Msg) (hm : m.tag? = none) (ha : s.canPost k m) :
    s.arrive k (.msg m) = s.modLink k (Link.holdPosted m) := by
  obtain ⟨hu, hn⟩ := ha
  have : ¬ s.links[k].share - s.links[k].unitsHeld < m.cost := by omega
  simp only [Fin.getElem_fin] at hu this
  simp [State.arrive, hu, State.takeIn, hm, this]

/-- What a posted message that leaves at once leaves of a link whose queue was empty: its units to return. -/
theorem Link.hold_leave (l : Link) (m : Msg) (h : l.rx = []) :
    (l.holdPosted m).leavePosted m = { l with unitsReturn := l.unitsReturn + m.cost }.returnCredit := by
  have : l.unitsHeld + m.cost - m.cost = l.unitsHeld := by omega
  cases l; simp_all [Link.holdPosted, Link.leavePosted]

/-- A posted message on a calm part, judged at once to `u`. -/
theorem receive_posted_calm (s u : State) (k : LinkId) (m : Msg) (hm : m.tag? = none) (hc : s.calm) (ha : s.canPost k m)
    (hu : (s.modLink k (Link.holdPosted m)).judgeHead k = u) (hcl : claimants s u [] = [])
    (hh : heads (s.modLink k (Link.holdPosted m)) u = []) : s.receive k (.msg m) = u.beginSends := by
  unfold State.receive
  rw [s.arrive_posted k m hm ha, settled_one _ _ k]
  · rw [hu]
  · exact claimants_same _ _ rfl rfl rfl []
  · refine heads_single _ _ k (hc.2 k) ?_ fun j hj => ?_
    · rw [State.modLink_links_same]; simp [Link.holdPosted]
    · rw [State.modLink_links_ne _ _ _ _ hj]; exact hc.2 j
  · rw [hu]; exact hcl
  · rw [hu]; exact hh

end Sys2Proof.Machine
end

