-- ==== Sys2Proof/Tests/Slice0.lean ====
section
/-! SUPPORT. The model's own tests: an ill-formed command for each check of WellFormed, the worked examples and check
values of spec/ (each test's docstring names its source), and for each statement of Obligations.lean with hypotheses a
concrete state that meets them. -/

namespace Sys2Proof.Tests
open Sys2Proof.Machine

set_option Elab.async false

/-! ### Small states -/

/-- The next state of an outcome passes a test. -/
def nextIs (o : Host.Outcome State Fault Refusal) (p : State → Bool) : Bool :=
  match o with
  | .next t => p t
  | .fault _ => false
  | .refused _ => false

/-- A test that an outcome's next state passes, as an existence. -/
theorem exists_next {o : Host.Outcome State Fault Refusal} {p : State → Bool} (h : nextIs o p = true) :
    ∃ t, o = .next t ∧ p t = true := by
  cases o with
  | next t => exact ⟨t, rfl, h⟩
  | fault f => cases h
  | refused r => cases h

/-- Started up with no boot preset: the Timebase runs, the controller is idle, every link is UP with every role. -/
def ready : State :=
  { State.reset with
    timebase := { Timebase.reset with running := true }
    preset := { Preset.reset with nv := none, setupOutcome := some .sound, bootOutcome := some .none }
    links := Vector.replicate 4 { Link.reset with up := true, peer := true, share := 128, roles := 7 } }

/-- `ready`, with link 0 holding. -/
def held : State := ready.modStaging fun g => { g with hold := some 0 }

/-- `held`, with a commit of channel 2 by link 0 pending for the next tick. -/
def committing : State :=
  held.modStaging fun g =>
    { g with
      state := .commitPending
      owner := some (.link 0)
      commit := some { owner := .link 0 4, set := 4, kind := .nextTick } }

/-- `held`, with channel 3 left in copy-back. -/
def copying : State := held.modStaging fun g => { g with state := .copyBack, owner := some (.link 0), copyList := [3] }

/-- `ready`, with the show lock set and a pass over channel 0. -/
def guarded : State :=
  ready.modScanner fun n =>
    { n with
      lock := true
      watch := Vector.replicate 6 { Watch.reset with state := .referencePending }
      pass := some { chan := 0, view := [] } }

/-- `ready`, with every channel in a mode and its slots as given. -/
def withSlots (m : Mode) (v : Slots) : State :=
  { ready with
    capture := Vector.replicate 6 { Capture.reset with slots := v, signal := true, lossLimit := some 9 }
    pipes := Vector.replicate 6 { Pipe.reset with mode := m } }

/-- A READY slot of the default raster. -/
def readyAt (n : Word32) : SlotRec := .ready n 1920 1200

/-- A SHOWING slot of the default raster. -/
def showingAt (n : Word32) : SlotRec := .showing n 1920 1200 false

/-- `ready`, with link 0 changed. -/
def onLink (f : Link → Link) : State := ready.modLink 0 f

/-! ### Well-formedness -/

/-- R178: SETUP has 32 bytes. -/
theorem test_wellFormed_setupRecordRead :
    (Instr.setupRecordRead [(31, 1)]).wellFormed = true ∧ (Instr.setupRecordRead [(32, 1)]).wellFormed = false := by
  decide

/-- R5: a record has 103,498 bytes, a set header 32. -/
theorem test_wellFormed_memoryDamage :
    (Instr.memoryDamage 0 (.record 5) [(103497, 1)] 0 0).wellFormed = true ∧
    (Instr.memoryDamage 0 (.record 5) [(103498, 1)] 0 0).wellFormed = false ∧
    (Instr.memoryDamage 0 .header [(32, 1)] 0 0).wellFormed = false := by
  decide

/-- R163: a slot body has 32 + 6·103,498 bytes. -/
theorem test_wellFormed_presetRecordLanded :
    (Instr.presetRecordLanded [(621019, 1)]).wellFormed = true ∧
    (Instr.presetRecordLanded [(621020, 1)]).wellFormed = false := by
  decide

/-- R187: a WRITE carries at most 256 bytes, a COMMAND at most 16. -/
theorem test_wellFormed_payloads :
    (Instr.stagingRecordWrite 0 0 0 (List.replicate 257 0)).wellFormed = false ∧
    (Instr.stagingHeaderWrite 0 0 (List.replicate 257 0)).wellFormed = false ∧
    (Instr.setupWrite 0 0 (List.replicate 257 0)).wellFormed = false ∧
    (Instr.write 0 7 0 0 (List.replicate 257 0)).wellFormed = false ∧
    (Instr.holdAcquire 0 0 (List.replicate 17 0)).wellFormed = false := by
  decide +kernel

/-- R189: the row WRITE names no writable region. -/
theorem test_wellFormed_write :
    (Instr.write 0 0 5 0 []).wellFormed = false ∧ (Instr.write 0 0 6 0 []).wellFormed = true ∧
    (Instr.write 0 4 0 0 []).wellFormed = false ∧ (Instr.write 0 1 0 0 []).wellFormed = true := by
  decide

/-- An ill-formed command that names no byte of its structure faults. -/
theorem test_noSuchByte :
    exec (.memoryDamage 0 .header [(32, 1)] 0 0) ready = .fault .noSuchByte := rfl

/-! ### Check values -/

/-- The ASCII bytes "123456789". -/
def digits : List Byte := [0x31, 0x32, 0x33, 0x34, 0x35, 0x36, 0x37, 0x38, 0x39]

/-- R3: the check value of the CRC-32. -/
theorem test_crc32 : crc32 digits = 0xCBF43926 := by decide +kernel

/-- R184: the check value of the CRC-16. -/
theorem test_crc16 : crc16 digits = 0x29B1 := by decide +kernel

/-! ### Records (spec/01_channel_calibration_records.md, Worked example) -/

/-- The record after the first two writes of the example. -/
def written : Cells :=
  applyWrite recordField defaultByte (applyWrite recordField defaultByte [] 330 [0x80]) 334 [0xFF, 0x7F]

/-- A byte of u takes the whole field to its clamp, and the flags byte its canonical form. -/
theorem test_write_node :
    Cells.bytes defaultByte written 328 3 = [0x00, 0x00, 0xF8] ∧ Cells.bytes defaultByte written 334 2 = [0x01, 0x00] := by
  decide +kernel

/-- W_out, M00 and a blend node clamp. -/
theorem test_write_header :
    Cells.bytes defaultByte (applyWrite recordField defaultByte [] 4 [0x88, 0x13]) 4 2 = [0x00, 0x0A] ∧
    Cells.bytes defaultByte (applyWrite recordField defaultByte [] 13 [0x80]) 12 2 = [0x00, 0xE0] ∧
    Cells.bytes defaultByte (applyWrite recordField defaultByte [] 33868 [0x01, 0x10, 0xFF, 0xFF]) 33868 4 =
      [0x00, 0x10, 0xFF, 0x0F] := by
  decide +kernel

/-- R16, R25: the default record's grid is 31 × 20, and its node (12, 1) has u = 49,152 and v = 4096. -/
theorem test_default_grid :
    Rec.gx [] = 31 ∧ Rec.gy [] = 20 ∧ Rec.int [] (nodeOffset 43) 3 = 49152 ∧ Rec.int [] (nodeOffset 43 + 3) 3 = 4096 := by
  decide +kernel

/-! ### The correction computation (spec/02_the_correction_computation.md, Worked case and Limit cases) -/

/-- Stage 1 of the worked case, and the negative coordinate of the limit cases. -/
theorem test_interpolate :
    interpolate ⟨2, 1, 6, 9, 32, 32⟩ 6400 8448 6464 8576 = 6805 ∧
    interpolate ⟨2, 1, 6, 9, 32, 32⟩ 3232 3232 3232 3232 = 3232 ∧
    interpolate ⟨0, 0, 8, 0, 16, 16⟩ (-100) (-38) 0 0 = -69 := by
  decide

/-- Stages 3 to 7 of the worked case. -/
theorem test_stages :
    filterValue 400 464 420 484 21 32 = 431 ∧ matrixRow 4055 41 0 9250 8800 0 = 9245 ∧ applyGain 9245 2867 = 6471 ∧
    applyLift 6471 96 = 6558 ∧ regammaBetween 301 303 30 = 302 := by
  decide

/-- The limit cases: the outside test, the lift at both ends, and a saturating row. -/
theorem test_limits :
    outside (-65) 0 1920 1200 = true ∧ outside (-64) 0 1920 1200 = false ∧ applyLift 65535 4095 = 65535 ∧
    applyLift 0 4095 = 4095 ∧ regammaBetween 63 64 63 = 64 ∧ regammaBetween 1019 1023 63 = 1023 ∧
    matrixRow 8191 (-8192) 0 1000 2000 0 = 0 ∧ matrixRow 8191 (-8192) 0 40000 0 0 = 65535 := by
  decide

/-- spec/06_channel_modes_and_output.md, the grid on a default record. -/
theorem test_grid :
    outputPixel [] [] 5 .grid none 64 37 = ⟨1023, 1023, 1023⟩ ∧ outputPixel [] [] 5 .grid none 65 37 = ⟨0, 0, 0⟩ := by
  decide +kernel

/-- R28, R115: a row leaves its port in the order of increasing x, and only while there is such a row; here a row of the
grid, whose 1st and 65th pixels are white. -/
theorem test_row_order :
    let s : State := { ready with
      pipes := ready.pipes.set 2 { Pipe.reset with mode := .grid, frame := some ⟨0, .grid, 0, none, 66, 480, 1⟩ } }
    (s.portRowCodes 2 37).map (fun row => row.map Codes.r) = some (1023 :: List.replicate 63 0 ++ [1023, 0]) ∧
      s.portRowCodes 2 480 = none := by
  decide +kernel

/-! ### The dome timebase (spec/03_the_dome_timebase.md, Worked examples) -/

/-- The Timebase after edge 7 of the acquiring example, and after tick 9. -/
def acquiring : Timebase :=
  { Timebase.reset with
    running := true
    state := .acquiring
    tickCount := 9
    history := List.replicate 7 1668335
    good := 7
    lastEdge := some 13678345
    now := 15000003
    lastTick := 15000003 }

/-- Edge 8 locks with no tick, and the missing-edge limit runs from it. -/
theorem test_lock_without_tick :
    nextIs (exec (.referenceEdge 346677) { ready with timebase := acquiring }) (fun t =>
      t.timebase.state == .locked && t.timebase.period == 1668335 && t.timebase.tickCount == 9 &&
        t.timebase.limitFrom + 3 * t.timebase.period / 2 == 17849182) = true := by
  decide +kernel

/-- With the first edge 500,000 later, edge 8 gives tick 10, which cuts the frame short after 629 rows
(spec/06_channel_modes_and_output.md, frames around a realignment). -/
theorem test_lock_with_tick :
    nextIs (exec (.referenceEdge 846677)
      { ready with
        timebase := { acquiring with lastEdge := some 14178345 }
        pipes := ready.pipes.set 1 { Pipe.reset with
          mode := .standby
          frame := some ⟨15000003, .standby, 0, none, 1920, 1200, 1344⟩ } }) (fun t =>
      t.timebase.state == .locked && t.timebase.tickCount == 10 &&
        t.pipes[1].lastEnd == some { length := 846677, rowsWhole := 629, cut := 1301, blanking := 0 }) = true := by
  decide +kernel

/-- The second frame of that example: every row is sent, and blanking follows. -/
theorem test_frame_end :
    (OutFrame.ended ⟨0, .live, 0, none, 1920, 1200, rowTime 5 1200⟩ 1668335) =
      { length := 1668335, rowsWhole := 1200, cut := 0, blanking := 55535 } := by
  decide

/-- The 64th holdover tick is given, and the Timebase is in FREE_RUN at P. -/
theorem test_holdover_limit :
    nextIs (exec .holdoverTickLimit
      { ready with timebase :=
        { acquiring with state := .holdover, period := 1668335, holdoverTicks := 63, good := 0 } }) (fun t =>
      t.timebase.state == .freeRun && t.timebase.period == 1666667 && t.timebase.tickCount == 10 &&
        t.timebase.lastEdge == none && (t.links[0].pending == EventKind.timebase.bit)) = true := by
  decide +kernel

/-! ### Frame capture (spec/04_frame_capture.md, Worked examples) -/

/-- A frozen channel: header 103 recycles the oldest READY slot. -/
theorem test_header_recycles :
    nextIs (exec (.frameHeader 3 0 103 3 1920 1200) (withSlots .hold #v[showingAt 100, readyAt 101, readyAt 102]))
      (fun t => t.slots 3 == #v[showingAt 100, .filling 103 1920 1200 0, readyAt 102]) = true := by
  decide +kernel

/-- A restarted generator: header 5 resynchronises. -/
theorem test_header_resync :
    nextIs (exec (.frameHeader 1 0 5 1 1920 1200)
      ((withSlots .live #v[showingAt 5000, readyAt 5001, .free]).modCapture 1 fun cap => { cap with stale := 4 }))
      (fun t => t.slots 1 == #v[.showing 5000 1920 1200 true, .filling 5 1920 1200 0, .free] &&
        t.capture[1].stale == 0 && t.capture[1].lastReason == .resync) = true := by
  decide +kernel

/-- A raster change during a fill: the end of frame fails with SIZE. -/
theorem test_end_size :
    nextIs (exec (.endOfFrame 0 0) (withSlots .live #v[showingAt 698, .free, .filling 700 2048 1080 1080]))
      (fun t => t.slots 0 == #v[showingAt 698, .free, .free] && t.capture[0].lastReason == .size) = true := by
  decide +kernel

/-- R79: one line of a fill. -/
theorem test_line :
    nextIs (exec (.line 0 0 (List.replicate 64 ⟨1023, 1, 0⟩)) (withSlots .live #v[.filling 7 64 64 2, .free, .free]))
      (fun t => t.slots 0 == #v[.filling 7 64 64 3, .free, .free] && fetchCode t.frameMem (pixelAddress 0 0 63 2) 0 == 1023 &&
        fetchCode t.frameMem (pixelAddress 0 0 63 2) 1 == 1) = true := by
  decide +kernel

/-! ### The swap barrier (spec/05_the_swap_barrier.md, Worked examples) -/

/-- Tick t4 of the slow generator: the joined channels swap to 204, channel 2 runs free to 202. -/
def slowGenerator : State :=
  { ready with
    timebase := { ready.timebase with lastTick := 0 }
    pipes := (Vector.replicate 6 Pipe.reset).set 0 { Pipe.reset with mode := .live }
      |>.set 1 { Pipe.reset with mode := .live } |>.set 2 { Pipe.reset with mode := .live }
    capture := (Vector.replicate 6 Capture.reset).set 0
        { Capture.reset with slots := #v[showingAt 200, readyAt 203, readyAt 204] }
      |>.set 1 { Capture.reset with slots := #v[readyAt 204, showingAt 200, readyAt 203] }
      |>.set 2 { Capture.reset with slots := #v[showingAt 200, readyAt 201, readyAt 202] }
    barrier := { Barrier.reset with
      frame := some 200
      members := (Vector.replicate 6 Member.reset).set 0 ⟨.joined, false, some 0⟩
        |>.set 1 ⟨.joined, false, some 0⟩ |>.set 2 ⟨.excluded, false, some 3⟩ } }

/-- The tick t4 of the example. -/
theorem test_swap_and_free_run :
    nextIs (exec .frameTick slowGenerator) (fun t =>
      t.barrier.frame == some 204 && t.slots 0 == #v[.free, .free, showingAt 204] &&
        t.slots 1 == #v[showingAt 204, .free, .free] && t.slots 2 == #v[.free, .free, showingAt 202] &&
        t.barrier.members[2] == ⟨.excluded, false, some 3⟩) = true := by
  decide +kernel

/-- The tick t3 of the example: channel 2 reaches the limit and is EXCLUDED. -/
theorem test_excluded_by_lateness :
    nextIs (exec .frameTick (({ slowGenerator with
        barrier := { slowGenerator.barrier with
          members := slowGenerator.barrier.members.set 2 ⟨.joined, false, some 2⟩ } } : State).modSlots 2
      fun _ => #v[showingAt 200, readyAt 201, .free])) (fun t =>
      t.barrier.frame == some 200 && t.barrier.members[2] == ⟨.excluded, false, some 3⟩ &&
        t.slots 2 == #v[showingAt 200, readyAt 201, .free]) = true := by
  decide +kernel

/-! ### Staging (spec/07_staging_hold_and_commit.md) -/

/-- R126: the hold is granted. -/
theorem test_holdAcquire :
    nextIs (exec (.holdAcquire 1 3 []) ready) (fun t =>
      t.staging.hold == some 1 && (t.links[3].pending == EventKind.holdOwner.bit) &&
        t.links[1].sending == some (.completion 3 .success 0 [] [])) = true := by
  decide +kernel

/-- R128: HOLD_BREAK cancels the holder's pending commit. -/
theorem test_holdBreak :
    nextIs (exec (.holdBreak 1 9 []) committing) (fun t =>
      t.staging.hold == none && t.staging.commit == none && t.staging.state == .openState &&
        t.links[0].sending == some (.completion 4 .cancelled 0 [] [])) = true := by
  decide +kernel

/-- The edit committed at a frame: the WRITE that comes during COMMIT_PENDING stalls with its units held. -/
theorem test_write_stalls :
    nextIs (exec (.stagingRecordWrite 0 2 0 [1]) committing) (fun t =>
      t.links[0].rx.length == 1 && t.links[0].unitsHeld == 2 && t.staging.waiting == [.write 0]) = true := by
  decide +kernel

/-- The activation at a tick: the generation rises, the selectors flip, the completion carries it. -/
theorem test_activation :
    nextIs (exec .frameTick committing) (fun t =>
      t.staging.gen == 1 && t.staging.state == .copyBack && t.staging.sel[2] == 1 && t.staging.sel[3] == 0 &&
        t.staging.setSel == 1 && Rec.nat (t.activeRecord 2) 40 4 == 1 && Rec.nat (t.stagingRecord 2) 40 4 == 0 &&
        t.links[0].sending == some (.completion 4 .success 0 [1, 0, 0, 0] [])) = true := by
  decide +kernel

/-- The last copy of copy-back opens staging. -/
theorem test_copyBack :
    nextIs (exec .copyBackCopyEnd copying) (fun t =>
      t.staging.state == .openState && t.staging.owner == none && Rec.originKind (t.stagingRecord 3) == 3) = true := by
  decide +kernel

/-- The failing span check: v from −100 to 16,200 in band 7 of channel 4; without the masked node it passes. -/
theorem test_span_check :
    spanOk [40, -100, 16200] = false ∧ spanOk [40, 16200] = true ∧ CheckFail.payload (.span 4 7) = [1, 4, 7] := by
  decide

/-! ### Show lock, presets and setup -/

/-- R150: SHOW_LOCK begins the first pass. -/
theorem test_showLock :
    nextIs (exec (.showLock 0 1 []) ready) (fun t =>
      t.scanner.lock && t.scanner.pass == some ⟨0, []⟩ && t.scanner.watch[5].state == .referencePending) = true := by
  decide +kernel

/-- R167: PRESET_STORE begins on an EMPTY slot. -/
theorem test_presetStore :
    nextIs (exec (.presetStore 0 1 [7]) ready) (fun t =>
      t.slotState 7 == .storing && t.preset.nv == some (.store 7) && t.flash.directory[7].state == .storing) = true := by
  decide +kernel

/-- R163: the flash address map: both ends of the slots' areas, of the setup record and of a slot's body. -/
theorem test_flash_map :
    flashArea 0 = .slot 0 0 ∧ flashArea 0x1FFFFF = .slot 1 0xFFFFF ∧ flashArea 0x7FFFFF = .slot 7 0xFFFFF ∧
      flashArea 0x800000 = .directory 0 ∧ flashArea 0x810000 = .setup 0 ∧ flashArea 0x81001F = .setup 31 ∧
      flashArea 0x810020 = .unused ∧ (Flash.blank.byteAt (0x700000 + 621019)).isSome = true ∧
      Flash.blank.byteAt (0x700000 + 621020) = none := by
  decide +kernel

/-- R175: a blank setup record fails its CRC, and the defaults are handed out. -/
theorem test_setup_defaults :
    nextIs (exec (.setupRecordRead []) State.reset) (fun t =>
      t.preset.setupOutcome == some .defaults && t.timebase.running && t.barrier.limit == 3 && t.links[3].share == 128 &&
        (t.links[3].roles == 7) && (t.links[3].pending == EventKind.setup.bit)) = true := by
  decide +kernel

/-! ### Links and events (spec/10_control_links.md, spec/11_events_and_status.md, Worked examples) -/

/-- R191: the units of the stalled-write example. -/
theorem test_costs :
    (Msg.write 0 1 0 (List.replicate 256 0)).cost = 17 ∧ (Msg.write 0 1 0 (List.replicate 200 0)).cost = 14 ∧
    (Msg.write 2 0 0 (List.replicate 40 0)).cost = 4 ∧ (Msg.clear 0).cost = 1 := by
  decide +kernel

/-- The last part of a READ frees its tag and returns a count; the CREDIT follows at once. -/
theorem test_messageSent :
    nextIs (exec (.messageSent 0) (onLink fun l =>
      { l with outstanding := [9], sending := some (.completion 9 .success 512 (List.replicate 88 0) []) })) (fun t =>
      t.links[0].outstanding == [] && t.links[0].sending == some (.creditFixed 0 1) && t.links[0].countsReturn == 0) =
      true := by
  decide +kernel

/-- The sets of the example after the first three raises: two notices, no credit left. -/
theorem test_notices :
    let l := (((onLink fun l => { l with enabled := 12, noticeCredit := 2 }).raise .membership).raise .activated).raise
      .membership
    l.links[0].sendQ = [.notice 4, .notice 12] ∧ l.links[0].noticeCredit = 0 ∧ l.links[0].pending = 12 := by
  decide +kernel

/-- The last row of the example: a CREDIT of 2 brings the notice that waited. -/
theorem test_credit :
    nextIs (exec (.credit 0 2) (onLink fun l => { l with enabled := 12, pending := 5 })) (fun t =>
      t.links[0].sending == some (.notice 4) && t.links[0].noticeCredit == 1 && (t.links[0].notified == 4)) = true := by
  decide +kernel

/-- R187: a CLEAR as it stands on the line. -/
theorem test_clear_bytes :
    readArrival ([0x02, 0, 0, 0, 0x0C, 0, 0, 0, 0, 0, 0, 0, 0, 0] ++
      leBytes 2 (crc16 [0x02, 0, 0, 0, 0x0C, 0, 0, 0, 0, 0, 0, 0, 0, 0]).toNat) = .msg (.clear 12) := by
  decide +kernel

/-! ### Witnesses: states that meet the hypotheses of the statements of Obligations.lean

Each theorem is named after its statement; where the statement has several clauses, each clause has a line, in order. -/

/-- StepRunsTheFrontCommand. -/
theorem witness_StepRunsTheFrontCommand :
    ∃ c rest, ({ ready with pending := [.frameTick, .repairBegin] } : State).pending = c :: rest :=
  ⟨_, _, rfl⟩

/-- EveryWellFormedCommandRuns: the first clause has no other hypothesis; a next state; a fault. -/
theorem witness_EveryWellFormedCommandRuns :
    (Instr.memoryDamage 0 .header [(31, 1)] 0 0).wellFormed = true ∧
    (∃ t, exec (.memoryDamage 0 .header [(31, 1)] 0 0) ready = .next t) ∧
    ∃ f, exec (.memoryDamage 0 .header [(32, 1)] 0 0) ready = .fault f :=
  ⟨by decide, ⟨_, rfl⟩, ⟨_, rfl⟩⟩

/-- The StepKeeps… statements, which share their premises and a step that runs. -/
theorem witness_StepKeeps :
    let s : State := { held with pending := [.holdRelease 0 3 []] }
    s.memoriesOk ∧ s.linksOk ∧ s.stagingOk ∧ s.scannerOk ∧ s.framesOk ∧ s.presetOk ∧ s.timebase.ok ∧ ∃ t, step s = .next t :=
  ⟨by decide +kernel, by decide +kernel, by decide +kernel, by decide +kernel, by decide +kernel, by decide +kernel,
    by decide +kernel, ⟨_, rfl⟩⟩

/-- OnlyTicksAndDamageChangeActiveRecords. -/
theorem witness_OnlyTicksAndDamageChangeActiveRecords :
    mayChangeActive (.stagingRecordWrite 0 2 64 [1]) = false ∧ ∃ t, exec (.stagingRecordWrite 0 2 64 [1]) held = .next t :=
  ⟨rfl, ⟨_, rfl⟩⟩

/-- GenerationCountsActivations. -/
theorem witness_GenerationCountsActivations :
    ∃ t, exec .frameTick committing = .next t ∧ decide (t.staging.gen ≠ committing.staging.gen) = true :=
  exists_next (p := fun t => decide (t.staging.gen ≠ committing.staging.gen)) (by decide +kernel)

/-- SlotStatesFollowTheTable. -/
theorem witness_SlotStatesFollowTheTable :
    ready.presetOk ∧ (Instr.presetStore 0 1 [7]) ≠ .startUp ∧ (Instr.presetStore 0 1 [7]) ≠ .directoryScanEnd ∧
      ∃ t, exec (.presetStore 0 1 [7]) ready = .next t :=
  ⟨by decide +kernel, by decide, by decide, ⟨_, rfl⟩⟩

/-- NamedRequestsAreArrivals. -/
theorem witness_NamedRequestsAreArrivals :
    requestOf (.stagingRecordWrite 3 5 103497 [1]) = some (3, .write 0 5 103497 [1]) ∧
    (Instr.stagingRecordWrite 3 5 103497 [1]).wellFormed = true := by
  decide

/-- MessagesReadBack: the longest payload of a WRITE and of a COMMAND. -/
theorem witness_MessagesReadBack :
    (List.replicate 256 (0 : Byte)).length ≤ 256 ∧ (List.replicate 16 (0 : Byte)).length ≤ 16 := by
  decide +kernel

/-- The test of `sound` in DiscardedMessages. -/
def soundBytes (bytes : List Byte) : Bool :=
  decide (16 ≤ bytes.length) && decide (field bytes 8 2 ≤ 256) && decide (bytes.length = 16 + field bytes 8 2) &&
    decide ((crc16 (bytes.take 14 ++ bytes.drop 16)).toNat = field bytes 14 2)

/-- DiscardedMessages: a DOWN link; a line fault; an unknown kind; a CLEAR with a payload; a COMMAND of 17 bytes. -/
theorem witness_DiscardedMessages :
    State.reset.links[0].up = false ∧
    (ready.links[0].up = true ∧ soundBytes [1] = false) ∧
    soundBytes (sealMessage [6, 0, 0, 0, 0, 0, 0, 0, 0, 0, 0, 0, 0, 0] []) = true ∧
    soundBytes (sealMessage [2, 0, 0, 0, 0, 0, 0, 0, 1, 0, 0, 0, 0, 0] [0]) = true ∧
    soundBytes (sealMessage [4, 0, 0, 0, 0, 0, 0, 0, 17, 0, 0, 0, 0, 0] (List.replicate 17 0)) = true := by
  decide +kernel

/-- ArrivalsPassTheCreditChecks: a CLEAR without units, and with the last unit behind another message; a READ with 16
requests outstanding, with its tag in use, and with 15 outstanding behind another message. -/
theorem witness_ArrivalsPassTheCreditChecks :
    readArrival (Msg.clear 1).bytes = .msg (.clear 1) ∧
    readArrival (Msg.read 9 5 0 0 4).bytes = .msg (.read 9 5 0 0 4) ∧
    (let l := (onLink fun l => { l with unitsHeld := 128 }).links[0]
     l.up = true ∧ l.share - l.unitsHeld < (Msg.clear 1).cost) ∧
    (let l := (onLink fun l => { l with unitsHeld := 127, rx := [.clear 2] }).links[0]
     l.up = true ∧ (Msg.clear 1).cost ≤ l.share - l.unitsHeld ∧ l.rx ≠ []) ∧
    (let l := (onLink fun l => { l with outstanding := (List.range 16).map (BitVec.ofNat 8) }).links[0]
     l.up = true ∧ 16 ≤ l.outstanding.length) ∧
    (let l := (onLink fun l => { l with outstanding := [9] }).links[0]
     l.up = true ∧ l.outstanding.length < 16 ∧ (9 : Byte) ∈ l.outstanding) ∧
    (let l := (onLink fun l => { l with outstanding := List.replicate 15 7, rx := [.clear 2] }).links[0]
     l.up = true ∧ l.outstanding.length < 16 ∧ (9 : Byte) ∉ l.outstanding ∧ l.rx ≠ []) := by
  decide +kernel

/-- RefusedRequests: codes 0 and 15; codes of each role on links without it; a region that is none; a region in bounds and
out of bounds, without VIEW and with it; the last bytes of the regions that are read at once, and READs of 4096 bytes. -/
theorem witness_RefusedRequests :
    (ready.calm ∧ ready.canAsk 0 3) ∧
    readArrival (Msg.command 3 15 []).bytes = .msg (.command 3 15 []) ∧
    readArrival (Msg.command 3 0x0C []).bytes = .msg (.command 3 0x0C []) ∧
    (let s := onLink fun l => { l with roles := 0 }
     s.calm ∧ s.canAsk 0 3 ∧ s.links[0].roles &&& roleAlign = 0 ∧ s.links[0].roles &&& roleShow = 0 ∧
        s.links[0].roles &&& (roleAlign ||| roleShow) = 0 ∧ s.links[0].roles &&& roleView = 0) ∧
    readArrival (Msg.read 3 7 0 0 1).bytes = .msg (.read 3 7 0 0 1) ∧ regionOf 7 0 = none ∧
    regionOf 6 0 = some .directory ∧ ready.links[0].roles &&& roleView ≠ 0 ∧
    Region.length .directory < (511 : Word32).toNat + (2 : BitVec 16).toNat ∧
    (regionOf 1 5 = some (.activeRecord 5) ∧ (99402 : Word32).toNat + (4096 : BitVec 16).toNat = Region.length (.activeRecord 5)) ∧
    (regionOf 3 0 = some .activeHeader ∧ (31 : Word32).toNat + (1 : BitVec 16).toNat = Region.length .activeHeader) ∧
    (regionOf 4 0 = some .setup ∧ (31 : Word32).toNat + (1 : BitVec 16).toNat = Region.length .setup) ∧
    (regionOf 5 0 = some .status ∧ (1023 : Word32).toNat + (1 : BitVec 16).toNat = Region.length .status) ∧
    (511 : Word32).toNat + (1 : BitVec 16).toNat = Region.length .directory ∧
    readArrival (Msg.read 3 1 5 99402 4096).bytes = .msg (.read 3 1 5 99402 4096) ∧
    (4096 : BitVec 16) ≠ 0 ∧ (4096 : BitVec 16).toNat ≤ 4096 := by
  decide +kernel

/-- RaisesAndNotices: another link. -/
theorem witness_RaisesAndNotices : (1 : LinkId) ≠ 0 := by decide

/-- CreditAddsNoticeCredit: one too many, and as many as can be. -/
theorem witness_CreditAddsNoticeCredit :
    let s := onLink fun l => { l with noticeCredit := 12 }
    s.links[0].up = true ∧ 15 < s.links[0].noticeCredit + (4 : Byte).toNat ∧
      s.links[0].noticeCredit + (3 : Byte).toNat ≤ 15 := by
  decide

/-- ClearAndEventEnableChangeTheSets: a CLEAR; EVENT_ENABLE with three bytes and with four. -/
theorem witness_ClearAndEventEnableChangeTheSets :
    (ready.calm ∧ ready.canPost 0 (.clear 1)) ∧ ready.takes 0 3 roleView [1, 2, 3] ∧ ([1, 2, 3] : List Byte).length < 4 ∧
      ready.takes 0 3 roleView [1, 2, 3, 4] := by
  decide

/-- CompletionsAreSent: an idle UP link with an ordinary message, with an open CREDIT and with none; a link that sends a
part, the last part, and another message. -/
theorem witness_CompletionsAreSent :
    (let l := (onLink fun l => { l with sendQ := [.notice 1] }).links[0]
     l.up = true ∧ l.sending = none ∧ l.sendQ = OutMsg.notice 1 :: [] ∧ OutMsg.notice 1 ≠ .creditOpen) ∧
    (let l := (onLink fun l => { l with sendQ := [.creditOpen] }).links[0]
     l.up = true ∧ l.sending = none ∧ l.sendQ = OutMsg.creditOpen :: []) ∧
    ready.links[0].sendQ = [] ∧
    (onLink fun l => { l with sending := some (.completion 9 .success 0 [1] [2]) }).links[0].sending =
      some (.completion 9 .success 0 [1] [2]) ∧
    (onLink fun l => { l with sending := some (.completion 9 .success 0 [1] []) }).links[0].sending =
      some (.completion 9 .success 0 [1] []) ∧
    (onLink fun l => { l with sending := some (.notice 1) }).links[0].sending = some (.notice 1) ∧
    ∀ tag status offset payload rest, OutMsg.notice 1 ≠ .completion tag status offset payload rest :=
  ⟨by decide, by decide, by decide, by decide, by decide, by decide, by intros; intro h; cases h⟩

/-- LinkUpStartsEmpty: a DOWN link with a share after the boot outcome, and a link that is UP. -/
theorem witness_LinkUpStartsEmpty :
    (let s := onLink fun l => { l with up := false }
     s.preset.bootOutcome.isSome = true ∧ s.links[0].up = false ∧ s.links[0].share ≠ 0) ∧
    ¬ (ready.preset.bootOutcome.isSome = true ∧ ready.links[0].up = false ∧ ready.links[0].share ≠ 0) := by
  decide

/-- LinkDownHandsOnTheLoss: the holder, with its commit pending. -/
theorem witness_LinkDownHandsOnTheLoss :
    committing.stagingOk ∧ committing.links[0].up = true ∧ (∀ j : LinkId, j ≠ 0 → committing.links[j].rx = []) ∧
      ∀ w ∈ committing.staging.waiting, w.link? = some 0 := by
  decide +kernel

/-- A state of the start-up reads whose flash holds these 28 field bytes with their CRC-32. -/
def reading (fields : List Byte) : State :=
  { State.reset with flash := { State.reset.flash with
      setup := Cells.write zeroByte [] 0 (fields ++ word32Bytes (crc32 fields)) } }

/-- SetupRecordReadHandsOut: bytes at both ends of the record; a record that is sound, with every link's share at a bound;
the blank flash's record, which is not. -/
theorem witness_SetupRecordReadHandsOut :
    (State.reset.preset.nv = some .startUpRead ∧ State.reset.preset.setupOutcome = none ∧
      ∀ p ∈ ([(0, 1), (31, 1)] : List Host.Cell), p.1 < 32) ∧
    setupSound (reading ([0xE0, 0x01, 0x20, 0, 0, 0, 0, 0, 7, 7, 7, 7, 9, 1, 0, 7] ++ List.replicate 12 0)).flash.setup = true ∧
    setupSound State.reset.flash.setup = false := by
  decide +kernel

/-- The state after the setup record has been read, with the boot preset `boot` and slot 7 in a state. -/
def scanning (boot : Byte) (d : SlotDir) : State :=
  { State.reset with
    preset := { Preset.reset with setupOutcome := some .sound, setup := Cells.write zeroByte [] 15 [boot] }
    flash := { Flash.blank with directory := (Vector.replicate 8 SlotDir.emptySlot).set 7 d } }

/-- What the directory holds of a VALID slot. -/
def validDir : SlotDir := { state := .valid, info := some { name := [], gen := 1, crcs := Vector.replicate 6 0 } }

/-- DirectoryScanExaminesTheBootPreset: no boot preset; a boot preset that was being erased; a VALID one. -/
theorem witness_DirectoryScanExaminesTheBootPreset :
    (let s := scanning 8 SlotDir.emptySlot
     s.preset.nv = some .startUpRead ∧ s.preset.setupOutcome.isSome = true ∧ 8 ≤ (setupByte s.preset.setup 15).toNat) ∧
    (let s := scanning 7 { state := .erasing, info := none }
     s.preset.nv = some .startUpRead ∧ s.preset.setupOutcome.isSome = true ∧
        (7 : SlotId).val = (setupByte s.preset.setup 15).toNat ∧ s.flash.directory[7].state ≠ .valid) ∧
    (let s := scanning 7 validDir
     s.preset.nv = some .startUpRead ∧ s.preset.setupOutcome.isSome = true ∧
        (7 : SlotId).val = (setupByte s.preset.setup 15).toNat ∧ s.flash.directory[7].state = .valid) := by
  decide +kernel

/-- MemoryDamageChangesStoredBytes: several bytes of a record, one of them twice; a pass over it, and no pass; no store in
flight, and one with its body. -/
theorem witness_MemoryDamageChangesStoredBytes :
    ([(103497, 1), (0, 2), (0, 3)] : List Host.Cell).all (fun p => decide (p.1 < (CalTarget.record 0).size)) = true ∧
      guarded.scanner.pass = some { chan := 0, view := [] } ∧ ready.scanner.pass = none ∧ guarded.storeInFlight = false ∧
      (let s := ready.modPreset fun p =>
        { p with nv := some (.store 7), storing := some { header := [], records := Vector.replicate 6 [] } }
       s.storeInFlight = true ∧ s.preset.storing = some { header := [], records := Vector.replicate 6 [] } ∧
          s.activeBank 0 = 0 ∧ s.staging.setSel = 0) := by
  decide +kernel

/-- `ready` with the Timebase as given. -/
def timed (f : Timebase → Timebase) : State := { ready with timebase := f acquiring }

/-- ReferenceEdgesAreJudged: before the start; with source NONE; in FREE_RUN; and, with elapsed times at the bounds of the
good interval range, each of the four judged cases. -/
theorem witness_ReferenceEdgesAreJudged :
    State.reset.timebase.running = false ∧
    (let t := (timed fun t => { t with source := .none }).timebase
     t.running = true ∧ t.source = .none) ∧
    (let t := ready.timebase
     t.running = true ∧ t.source = .houseSync ∧ t.state = .freeRun) ∧
    (let t := (timed fun t => { t with good := 6 }).timebase
     t.running = true ∧ t.source = .houseSync ∧ t.lastEdge = some 13678345 ∧ t.state = .acquiring ∧
        1666667 - 1666667 / 200 ≤ t.now + 336676 - 13678345 ∧ t.now + 336676 - 13678345 ≤ 1666667 + 1666667 / 200 ∧
        t.good < 7) ∧
    (let t := acquiring
     t.state = .acquiring ∧ ¬ 1666667 - 1666667 / 200 ≤ t.now + 336675 - 13678345) ∧
    (let t := (timed fun t => { t with state := .holdover, good := 2 }).timebase
     t.state = .holdover ∧ t.now + 353342 - 13678345 ≤ 1666667 + 1666667 / 200 ∧ t.good < 3) ∧
    (let t := (timed fun t => { t with state := .holdover }).timebase
     t.state = .holdover ∧ ¬ t.now + 353343 - 13678345 ≤ 1666667 + 1666667 / 200) := by
  decide +kernel

/-- GoodIntervalsLock: the eighth good interval, with 2·d on either side of E, and the fourth in HOLDOVER. -/
theorem witness_GoodIntervalsLock :
    (let t := acquiring
     t.running = true ∧ t.source = .houseSync ∧ t.lastEdge = some 13678345 ∧ t.state = .acquiring ∧ t.good = 7 ∧
        1666667 - 1666667 / 200 ≤ t.now + 346677 - 13678345 ∧ t.now + 346677 - 13678345 ≤ 1666667 + 1666667 / 200 ∧
        2 * (t.now + 346677 - t.lastTick) < t.period) ∧
    (let t := { acquiring with state := .holdover, good := 3, lastTick := 14000000 }
     t.state = .holdover ∧ t.good = 3 ∧ t.period ≤ 2 * (t.now + 346677 - t.lastTick)) := by
  decide +kernel

/-- LockedEdgesTick: a good interval; a bad one before the tick is due, and just when it is. -/
theorem witness_LockedEdgesTick :
    (let t := { acquiring with state := .locked }
     t.running = true ∧ t.source = .houseSync ∧ t.lastEdge = some 13678345 ∧
        (1666667 - 1666667 / 200 ≤ t.now + 346677 - 13678345 ∧ t.now + 346677 - 13678345 ≤ 1666667 + 1666667 / 200)) ∧
    (let t := { acquiring with state := .locked }
     ¬ 1666667 - 1666667 / 200 ≤ t.now + 5 - 13678345 ∧ t.now + 5 < t.lastTick + t.period) ∧
    (let t := { acquiring with state := .locked }
     ¬ t.now + 1666667 - 13678345 ≤ 1666667 + 1666667 / 200 ∧ t.lastTick + t.period ≤ t.now + 1666667) := by
  decide +kernel

/-- MissingEdgesLeaveTheReference: in ACQUIRING and in LOCKED. -/
theorem witness_MissingEdgesLeaveTheReference :
    (acquiring.running = true ∧ acquiring.state = .acquiring ∧ acquiring.lastEdge = some 13678345) ∧
    ({ acquiring with state := .locked } : Timebase).state = .locked := by
  decide

/-- ScheduledTicks: before the start; in FREE_RUN; in HOLDOVER before and at the 64th tick. -/
theorem witness_ScheduledTicks :
    State.reset.timebase.running = false ∧
    (ready.timebase.running = true ∧ ready.timebase.state = .freeRun) ∧
    (let t := (timed fun t => { t with state := .holdover, holdoverTicks := 62 }).timebase
     t.running = true ∧ t.state = .holdover ∧ t.holdoverTicks < 63) ∧
    (timed fun t => { t with state := .holdover, holdoverTicks := 63 }).timebase.holdoverTicks = 63 := by
  decide

/-- FrameNumbersAreOrdered: a list across the wrap, with its newest and its oldest. -/
theorem witness_FrameNumbersAreOrdered :
    ([0xFFFFFFFF, 0, 2] : List Word32).all (fun x => decide ((x - 0xFFFFFFFF).toNat < 2 ^ 31)) = true ∧
      newestOf [0xFFFFFFFF, 0, 2] = some 2 ∧ oldestOf [0, 0xFFFFFFFF, 2] = some 0xFFFFFFFF := by
  decide +kernel

/-- TheSignalIsTracked: before the start; a STANDBY channel; a LIVE channel with nothing FILLING; a LOST signal; a PRESENT
one, with and without a fill, whose limit runs. -/
theorem witness_TheSignalIsTracked :
    State.reset.timebase.running = false ∧
    (withSlots .standby #v[.free, .free, .free]).pipes[5].mode = .standby ∧
    (∀ i : SlotIx, (withSlots .live #v[readyAt 1, .free, .free]).capture[5].slots[i].isFilling = false) ∧
    (ready.timebase.running = true ∧ ready.capture[5].signal = false) ∧
    (withSlots .live #v[.free, .free, .free]).capture[5].signal = true ∧
    (let cap := (withSlots .live #v[.free, .free, .filling 7 64 64 0]).capture[5]
     cap.slots.ok ∧ cap.slots[2].isFilling = true ∧ cap.signal = true ∧ cap.lossLimit = some 9) := by
  decide

/-- FrameHeadersAreJudged: no fill, and a fill; MISROUTE; SIZE; a resync; an older frame held; a newer frame held; and the
slot claims. -/
theorem witness_FrameHeadersAreJudged :
    (let s := withSlots .hold #v[showingAt 100, readyAt 101, .free]
     s.timebase.running = true ∧ s.pipes[3].mode ≠ .off ∧ s.pipes[3].mode ≠ .standby ∧
        (∀ i : SlotIx, s.capture[3].slots[i].isFilling = false) ∧ s.capture[3].slots.ok ∧
        (9 : Nat) ≠ (3 : Chan).val ∧
        (1920 = Rec.wIn (s.activeRecord 3) ∧ 1200 = Rec.hIn (s.activeRecord 3) ∧ frameSizeOk 1920 1200) ∧
        ¬ 63 = Rec.wIn (s.activeRecord 3) ∧ s.capture[3].stale < 4 ∧
        (∀ i : SlotIx, (s.seen 3 0).capture[3].slots[i].ready?.all (fun m => newer 102 m) = true ∧
          (s.seen 3 0).capture[3].slots[i].shown?.all (fun m => newer 102 m) = true) ∧
        (s.seen 3 0).capture[3].slots.newestHeld = some 101 ∧ newer 101 101 = false) ∧
    ((withSlots .live #v[.free, .free, .free]).modCapture 1 fun cap => { cap with stale := 4 }).capture[1].stale = 4 ∧
    (let v : Slots := #v[showingAt 1, .filling 7 64 64 0, .free]
     v.ok ∧ v[1].isFilling = true) := by
  decide +kernel

/-- FillsTakeLinesAndEnd: a full fill; a short one, with a line of its width and another; the end of each, of the active
record's size and of another. -/
theorem witness_FillsTakeLinesAndEnd :
    (let s := withSlots .live #v[.free, .filling 7 1920 1200 1200, .free]
     s.timebase.running = true ∧ s.pipes[0].mode ≠ .off ∧ s.pipes[0].mode ≠ .standby ∧ s.capture[0].slots.ok ∧
        s.capture[0].slots[1] = .filling 7 1920 1200 1200 ∧
        (1920 = Rec.wIn (s.activeRecord 0) ∧ 1200 = Rec.hIn (s.activeRecord 0))) ∧
    (let s := withSlots .live #v[.free, .filling 7 64 64 63, .free]
     s.capture[0].slots.ok ∧ s.capture[0].slots[1] = .filling 7 64 64 63 ∧
        (List.replicate 64 (⟨0, 0, 0⟩ : Pixel)).length = 64 ∧ ([] : List Pixel).length ≠ 64) ∧
    (let s := withSlots .live #v[.free, .filling 7 64 64 64, .free]
     s.capture[0].slots.ok ∧ s.capture[0].slots[1] = .filling 7 64 64 64 ∧ ¬ 64 = Rec.wIn (s.activeRecord 0)) := by
  decide +kernel

/-- DefaultRecordReproducesItsSource: the last pixel. -/
theorem witness_DefaultRecordReproducesItsSource : 1919 < 1920 ∧ 1199 < 1200 := by decide

/-- PixelStagesKeepTheirRanges: a cell with corners; fetched values at the largest fractions; the largest light, gain and
lift; a masked pixel of a record; an outside one; an unmasked pixel inside the record's source size, and inside a
frame's. -/
theorem witness_PixelStagesKeepTheirRanges :
    (let cell := cellOf 6 6 1919 1199
     cell.fx < cell.cx ∧ cell.fy < cell.cy ∧ ∀ v ∈ ([-5, 7, 0, 3] : List Int), -5 ≤ v ∧ v ≤ 7) ∧
    ((63 : Nat) < 64 ∧ ∀ p ∈ ([1023, 7, 0, 3] : List Nat), 0 ≤ p ∧ p ≤ 1023) ∧
    ((65535 : Nat) ≤ 65535 ∧ (4096 : Nat) ≤ 4096 ∧ (4095 : Nat) ≤ 4095) ∧
    pixelMasked (applyWrite recordField defaultByte [] 70 [1]) 0 0 = true ∧
    outside (pixelUV [] 1919 0).1 (pixelUV [] 1919 0).2 (sourceSize [] (some ⟨0, 1919, 1200⟩)).1 1200 = true ∧
    (pixelMasked [] 64 37 = false ∧ -64 ≤ (pixelUV [] 64 37).1 ∧ (pixelUV [] 64 37).1 < 64 * (Rec.clampedNat [] 0 : Int) ∧
      -64 ≤ (pixelUV [] 64 37).2 ∧ (pixelUV [] 64 37).2 < 64 * (Rec.clampedNat [] 2 : Int)) ∧
    (pixelUV [] 64 37).1 < 64 * ((65 : Nat) : Int) ∧ (pixelUV [] 64 37).2 < 64 * ((38 : Nat) : Int) := by
  decide +kernel

/-- TheJoinedSetSwapsOrCountsLateness: two channels with a common frame; a channel behind the lead number, below the limit
and at it; channels with no limit. -/
theorem witness_TheJoinedSetSwapsOrCountsLateness :
    ([0, 1] : List Chan).Nodup ∧ slowGenerator.commonFrame [0, 1] = some 204 ∧
    slowGenerator.commonFrame [0, 2] = none ∧ slowGenerator.leadNumber [0, 2] = some 204 ∧
    (slowGenerator.slots 2).holdsReady 204 = false ∧ slowGenerator.barrier.limit = 3 ∧
    slowGenerator.leadNumber [5] = none ∧ ([204] : List Word32).all (fun m => decide ((m - 204).toNat < 2 ^ 31)) = true ∧
    3 ≤ min 255 ((slowGenerator.barrier.members[2].late).getD 0 + 1) ∧
    min 255 ((slowGenerator.barrier.members[0].late).getD 0 + 1) < 3 := by
  decide +kernel

/-- The six modes before the tick, all OFF. -/
def allOff : Vector Mode 6 := Vector.replicate 6 .off

/-- ExcludedChannelsRejoinOrRunFree: channels that enter LIVE and that leave it; a pending limit with its request and with
none; no LIVE channel, and one; a JOINED channel with a resync mark, and one whose late count has reached the limit; a
channel that is to be skipped; an EXCLUDED channel that holds B READY, one that shows B after the joined set swapped to it,
one that holds a newer frame, one that holds none; a JOINED channel; and no JOINED channel and no candidate. -/
theorem witness_ExcludedChannelsRejoinOrRunFree :
    ((slowGenerator.isLive 0 = true ∧ allOff[0] ≠ .live) ∧
      (slowGenerator.isLive 5 = false ∧ (allOff.set 5 .live)[5] = .live)) ∧
    (let s := slowGenerator.modBarrier fun b => { b with pendingLimit := some 9, pendingReq := some (1, 6) }
     s.barrier.pendingLimit = some 9 ∧ s.barrier.pendingReq = some (1, 6) ∧
        (s.modBarrier fun b => { b with pendingReq := none }).barrier.pendingReq = none) ∧
    (∀ c : Chan, ready.isLive c = false) ∧
    (let s := slowGenerator.modSlots 1 fun _ => #v[.showing 200 1920 1200 true, .free, .free]
     s.isJoined 1 = true ∧ (s.slots 1).marked = true ∧ s.barrier.pendingLimit = none) ∧
    (let s := slowGenerator.modBarrier fun b => { b with members := b.members.set 1 ⟨.joined, false, some 3⟩ }
     s.isJoined 1 = true ∧ s.barrier.limit ≠ 0 ∧ s.barrier.limit ≤ (s.barrier.members[1].late).getD 0) ∧
    (2 : Chan) ∈ ([2] : List Chan) ∧
    (newestOf (slowGenerator.slots 5).readyFrames = none ∧ slowGenerator.isJoined 1 = true) ∧
    (slowGenerator.barrier.frame = some 200 ∧ (slowGenerator.slots 2).shown = some 200 ∧ newer 200 200 = false) ∧
    (let s := slowGenerator.modBarrier fun b => { b with frame := some 202 }
     s.isExcluded 2 = true ∧ s.barrier.frame = some 202 ∧ (s.slots 2).holdsReady 202 = true) ∧
    (slowGenerator.isExcluded 2 = true ∧ (slowGenerator.slots 2).holdsReady 200 = false ∧
      (slowGenerator.slots 2).shown = some 200 ∧ slowGenerator.barrier.frame = some 200 ∧
      newestOf (slowGenerator.slots 2).readyFrames = some 202 ∧ newer 202 200 = true) ∧
    ∀ c : Chan, ready.isJoined c = false ∧ ready.isCandidate c = false := by
  decide +kernel

/-- A pending CHANNEL_MODE request of link 1 for channels 0 and 1, and a pending limit request. -/
def asking : State :=
  { ready with
    pipes := ((Vector.replicate 6 Pipe.reset).set 0 { Pipe.reset with pendingMode := some .live, pendingReq := some ⟨1, 5, 3⟩ })
      |>.set 1 { Pipe.reset with pendingMode := some .live, pendingReq := some ⟨1, 5, 3⟩ }
    barrier := { Barrier.reset with pendingLimit := some 4, pendingReq := some (1, 6) } }

/-- PendingRequestsReplaceEarlierOnes: bad parameters; a set that overlaps nothing and one that overlaps the earlier
request; no parameter byte; a limit with an earlier request and without. -/
theorem witness_PendingRequestsReplaceEarlierOnes :
    (asking.takes 0 3 roleShow [64, 2] ∧ chanSetOf (byteAt [64, 2] 0) = none) ∧
    (asking.takes 0 3 roleShow [60, 2] ∧ (60 : Byte) ≠ 0 ∧ (60 : Byte).toNat < 64 ∧ modeOfCode 2 = some .live ∧
      ∀ c : Chan, (asking.pipes[c].pendingReq).all (fun r => r.set &&& (60 : Byte).setWidth 6 == 0) = true) ∧
    (asking.takes 0 3 roleShow [63, 5] ∧ (63 : Byte).toNat < 64 ∧ modeOfCode 5 = some .grid ∧
      (⟨1, 5, 3⟩ : ModeReq).set &&& (63 : Byte).setWidth 6 ≠ 0 ∧ asking.pipes[1].pendingReq = some ⟨1, 5, 3⟩ ∧
      ∀ c : Chan, (asking.pipes[c].pendingReq).all (fun r => r == ⟨1, 5, 3⟩) = true) ∧
    asking.takes 0 3 roleShow [] ∧ asking.takes 0 3 roleShow [255] ∧ asking.barrier.pendingReq = some (1, 6) ∧
    ready.barrier.pendingReq = none := by
  refine ⟨?_, ?_, ?_, ?_, ?_, ?_, ?_⟩ <;> decide +kernel

/-- TicksApplyModesAndStartFrames: a mode that is left for STANDBY; a request on an UP link; a HOLD channel with nothing
showing. -/
theorem witness_TicksApplyModesAndStartFrames :
    (let p := ({ Pipe.reset with mode := .live, pendingMode := some .standby } : Pipe)
     p.pendingMode.getD p.mode ≠ p.mode ∧ p.pendingMode.getD p.mode = .standby) ∧
    asking.pipes[0].pendingReq = some ⟨1, 5, 3⟩ ∧ asking.links[1].up = true ∧ asking.staging.waiting = [] ∧
    nextIs (.next (withSlots .hold #v[.free, .free, .free]).tick) (fun t =>
      t.pipes[4].mode == .hold && (t.slots 4).hasShowing == false) = true := by
  decide +kernel

/-- HoldAcquireIsJudgedInOrder, PresetLoadIsJudgedInOrder and CommitIsJudgedInOrder: requests of a link with ALIGN, with
parameters that are none, bad and good. -/
theorem witness_AlignRequests :
    ready.takes 0 3 roleAlign [] ∧ slotParam [] = none ∧ ready.takes 0 3 roleAlign [7] ∧ slotParam [7] = some 7 ∧
      held.takes 0 3 roleAlign (List.replicate 9 1) ∧ held.takes 0 3 roleAlign [63, 1, 0, 0, 0, 0, 0, 0, 0, 0] ∧
      ¬ (([63, 1, 0, 0, 0, 0, 0, 0, 0, 0] : List Byte).length < 10 ∨ (63 : Byte) = 0 ∨ 63 < (63 : Byte).toNat ∨
        1 < (1 : Byte).toNat) := by
  decide +kernel

/-- HoldsEndAndCommitsAreCancelled: a link that does not hold; a holder with and without its commit pending; a break with
no hold, with one, and with its commit pending. -/
theorem witness_HoldsEndAndCommitsAreCancelled :
    (held.stagingOk ∧ held.calm ∧ held.canAsk 1 3 ∧ hasRole held.links[1].roles roleAlign = true ∧
      held.staging.hold ≠ some 1) ∧
    (held.canAsk 0 3 ∧ held.staging.hold = some 0 ∧ held.staging.state ≠ .commitPending) ∧
    (committing.stagingOk ∧ committing.calm ∧ committing.canAsk 0 3 ∧ committing.staging.hold = some 0 ∧
      committing.staging.commit = some { owner := .link 0 4, set := 4, kind := .nextTick }) ∧
    (ready.stagingOk ∧ ready.calm ∧ ready.canAsk 1 3 ∧ hasRole ready.links[1].roles roleShow = true ∧
      ready.staging.hold = none) ∧
    held.staging.hold ≠ none ∧ committing.canAsk 1 3 := by
  refine ⟨?_, ?_, ?_, ?_, ?_, ?_⟩ <;> decide +kernel

/-- StagingWritesAreJudgedInOrder. -/
theorem witness_StagingWritesAreJudgedInOrder :
    held.calm ∧ held.canPost 0 (writeMsg 103497 (List.replicate 256 1) (.record 5)) ∧
      (List.replicate 256 (1 : Byte)).length ≤ 256 := by
  decide +kernel

/-- WrittenFieldsAreComposedAndClamped: a write to the set header that ends at its last byte; a write that ends at the last
byte of a record, and a byte of it; a write that touches one byte of the fields at both ends of the mesh. -/
theorem witness_WrittenFieldsAreComposedAndClamped :
    15 + (List.replicate 17 (1 : Byte)).length ≤ 32 ∧
    (103497 + ([1] : List Byte).length ≤ 103498 ∧ ([1] : List Byte) ≠ [] ∧ 103497 < 103498) ∧
    (64 < 66 + ([1] : List Byte).length ∧ 66 < 64 + 3) ∧
    (33862 < 33862 + ([1] : List Byte).length ∧ 33862 < 64 + 8 * 4224 + 6 + 1) := by
  decide

/-- OtherWritesAreJudged: SETUP; the regions that are none, that are read-only, and the channel that is none. -/
theorem witness_OtherWritesAreJudged :
    ready.calm ∧ ready.canPost 0 (.write 4 0 31 [1]) ∧ ready.canPost 0 (.write 5 0 0 [1]) ∧ 4 < (5 : Byte).toNat ∧
      ready.canPost 0 (.write 0 6 0 [1]) ∧ 5 < (6 : Byte).toNat ∧ (1 : Word32).toNat + (List.replicate 31 (1 : Byte)).length ≤ 32 ∧
      0 < (1 : Word32).toNat + (List.replicate 31 (1 : Byte)).length ∧ (1 : Word32).toNat < 0 + 2 := by
  decide

/-- A WRITE of link 3 that waits, as one of those behind. -/
def waitingWrite : Claimant := .write 3

/-- StagingReadsWaitAndAreServed: a READ that is answered, one that is kept, one that is served, and a WRITE that is; two
READs that wait, on two links and on one; a PRESET_LOAD that is served before another request; a repair that is due before
one; a COMMIT or PRESET_LOAD that may wait. -/
theorem witness_StagingReadsWaitAndAreServed :
    (hasRole ready.links[0].roles roleView = true ∧ (1 : BitVec 16).toNat ≠ 0 ∧ (1 : BitVec 16).toNat ≤ 4096 ∧
      (103497 : Word32).toNat + (1 : BitVec 16).toNat ≤ (CalTarget.record 5).size ∧ ready.links[0].up = true ∧
      ready.calm ∧ ready.canAsk 0 3 ∧ ready.staging.state = .openState) ∧
    (copying.calm ∧ copying.canAsk 0 3 ∧ ¬ (copying.staging.state = .openState ∨ copying.staging.state = .commitPending) ∧
      Msg.read 3 0 5 103497 1 ∉ copying.links[0].wait) ∧
    (let m := Msg.read 3 0 5 103497 1
     let s := (onLink fun l => { l with wait := [m] }).modStaging fun g => { g with waiting := [.request 0 3] }
     s.staging.waiting = [.request 0 3] ∧ s.waitingMsg 0 3 = some m ∧ s.staging.state = .openState) ∧
    (let m := writeMsg 31 [1] .header
     let s := (held.modLink 0 fun l => { l with rx := [m] }).modStaging fun g => { g with waiting := [.write 0] }
     hasRole s.links[0].roles roleAlign = true ∧ s.scanner.lock = false ∧ (31 : Word32).toNat < CalTarget.header.size ∧
        (31 : Word32).toNat + ([1] : List Byte).length ≤ CalTarget.header.size ∧ s.staging.hold = some 0 ∧
        s.staging.state = .openState ∧ s.links[0].rx = [m] ∧ s.staging.waiting = [.write 0]) ∧
    (let a := Msg.read 3 0 5 103497 1
     let b := Msg.read 4 2 0 31 1
     let s := ((ready.modLink 0 fun l => { l with wait := [a, b] }).modLink 1 fun l => { l with wait := [b] }).modStaging
       fun g => { g with waiting := [.request 0 3, .request 1 4] }
     s.staging.waiting = [.request 0 3, .request 1 4] ∧ s.staging.state = .openState ∧ s.waitingMsg 0 3 = some a ∧
        s.waitingMsg 1 4 = some b ∧ s.waitingMsg 0 4 = some b ∧ ¬ ((0 : LinkId) = 1 ∧ (3 : Byte) = 4) ∧
        ¬ ((0 : LinkId) = 0 ∧ (3 : Byte) = 4)) ∧
    (let s := (held.modPreset fun p => { p with directory := p.directory.set 7 validDir }).modLink 0
       fun l => { l with wait := [.command 3 0x0B [7]] }
     let u := s.modStaging fun g => { g with waiting := .request 0 3 :: [waitingWrite] }
     u.staging.waiting = .request 0 3 :: [waitingWrite] ∧ .request 0 3 ∉ [waitingWrite] ∧
        u.waitingMsg 0 3 = some (.command 3 0x0B [7]) ∧ hasRole u.links[0].roles roleAlign = true ∧
        u.scanner.lock = false ∧ u.staging.hold = some 0 ∧ slotParam [7] = some 7 ∧ u.slotState 7 = .valid ∧
        u.staging.state = .openState ∧ u.preset.nv = none) ∧
    (let s := (guarded.modScanner fun n => { n with queue := [5] }).modStaging
       fun g => { g with waiting := .repair :: [waitingWrite] }
     s.staging.waiting = .repair :: [waitingWrite] ∧ s.scanner.queue ≠ [] ∧ s.scanner.repair = none ∧
        s.staging.state = .openState ∧ s.preset.nv = none) ∧
    (held.calm ∧ held.canAsk 0 3 ∧ held.staging.state = .openState ∧ ∀ m ∈ held.links[0].wait, m.tag? ≠ some 3) := by
  refine ⟨?_, ?_, ?_, ?_, ?_, ?_, ?_, ?_⟩ <;> decide +kernel

/-- A record whose node (0, 7) of the default grid has v = −524,288. -/
def tornRecord : Cells := applyWrite recordField defaultByte [] (64 + 8 * (7 * 31) + 3) [0, 0, 0xF8]

/-- CommitChecksPassExactlyWhen: a set of records, two unmasked nodes of a band and their indices; the first of two records
with a grid too wide; a record whose first band that fails is band 6. -/
theorem witness_CommitChecksPassExactlyWhen :
    ((0 : Chan), ([] : Cells)) ∈ [((0 : Chan), ([] : Cells))] ∧ 18 < Rec.gy [] - 1 ∧ 30 < Rec.gx [] ∧
      (Cells.read defaultByte [] (64 + 8 * (19 * Rec.gx [] + 30) + 6)).getLsbD 0 = false ∧
    (let wide := applyWrite recordField defaultByte [] 8 [4]
     checkRecords [(1, []), (2, wide), (3, wide)] = some (.grid 2)) ∧
    Rec.bandOk tornRecord 5 = true ∧ checkRecords [(4, tornRecord)] = some (.span 4 6) := by
  decide +kernel

/-- ActivationSwitchesTheSet: a commit that is due, with its channel and another; one for a frame that the joined set has not
reached, under the show lock; a pass over a channel of the set and over another, no lock, and no pass. -/
theorem witness_ActivationSwitchesTheSet :
    (committing.staging.state = .commitPending ∧
      committing.staging.commit = some { owner := .link 0 4, set := 4, kind := .nextTick } ∧
      (4 : ChanSet).getLsbD 2 = true ∧ (4 : ChanSet).getLsbD 3 = false ∧ committing.links[0].up = true) ∧
    (let s := guarded.modStaging fun g =>
        { g with state := .commitPending, owner := some .repair, commit := some ⟨.part, 4, .atFrame 9000⟩ }
     s.staging.state = .commitPending ∧ s.scanner.lock = true ∧ newer 8998 9000 = false ∧ newer 9001 9000 = true) ∧
    (guarded.scanner.lock = true ∧ guarded.scanner.pass = some { chan := 0, view := [] } ∧ (1 : ChanSet).getLsbD 0 = true ∧
      (4 : ChanSet).getLsbD 0 = false ∧ committing.scanner.lock = false ∧ committing.scanner.pass = none) := by
  decide +kernel

/-- R156: a pass over an activated channel is abandoned for the next one, over a channel of the set too. -/
theorem test_activation_abandons_pass :
    let t := State.testActivation none (guarded.modStaging fun g =>
      { g with state := .commitPending, owner := some .repair, commit := some ⟨.part, 3, .nextTick⟩ })
    t.scanner.pass.map (fun p => p.chan) = some 1 ∧ t.scanner.watch[0].state = .referencePending := by
  decide +kernel

/-- CopyBackEndsChannelByChannel: more than one copy left; the last one, without a repair and with one. -/
theorem witness_CopyBackEndsChannelByChannel :
    (let s := copying.modStaging fun g => { g with copyList := [1, 3] }
     s.staging.state = .copyBack ∧ s.staging.copyList = 1 :: [3]) ∧
    (copying.staging.copyList = 3 :: [] ∧ copying.staging.waiting = [] ∧ copying.scanner.repair = none) ∧
    (copying.modScanner fun n => { n with repair := some ⟨3, 0, .copyBack⟩ }).scanner.repair = some ⟨3, 0, .copyBack⟩ := by
  decide

/-- ShowLockAndUnlock. -/
theorem witness_ShowLockAndUnlock : ready.takes 0 3 roleShow [] ∧ guarded.takes 0 3 roleShow [] := by decide

/-- A word is not its complement. -/
theorem ne_not (x : Word32) : x ≠ ~~~x := by
  intro h
  have h0 := congrArg (fun y : Word32 => y.getLsbD 0) h
  simp at h0

/-- The CRC-32 of the default record, as the statements write it. -/
def defaultCrc : Word32 := crc32 (Cells.bytes defaultByte [] 0 103498)

/-- A pass over channel 0, which is CHECKING against `ref`, with slot 7 as its source and the queue and order given. -/
def checking (ref : Word32) (src : RepairSource) (queue : List Chan) (waiting : List Claimant) : State :=
  ({ guarded with
    preset := { guarded.preset with directory := guarded.preset.directory.set 7 validDir }
    scanner := { guarded.scanner with
      watch := guarded.scanner.watch.set 0 { state := .checking, reference := some ref, source := some src, checks := 0 }
      queue := queue } } : State).modStaging fun g => { g with waiting := waiting }

/-- ScannerPassesEnd: a first pass; a pass that confirms; one that finds a fault with no VALID source, and with one: behind
another repair, with staging not OPEN, and with all that the start of a repair needs. -/
theorem witness_ScannerPassesEnd :
    (guarded.scanner.pass = some { chan := 0, view := [] } ∧ guarded.scanner.watch[0].state = .referencePending) ∧
    (checking defaultCrc .none [] []).scanner.watch[0].reference = some defaultCrc ∧
    ((checking (~~~defaultCrc) .none [] []).scanner.watch[0].reference ≠ some defaultCrc ∧
      ¬ ∃ sl, (checking (~~~defaultCrc) .none [] []).scanner.watch[0].source = some (.slot sl)) ∧
    (let s := checking (~~~defaultCrc) (.slot 7) [5] [.repair]
     s.scanner.watch[0].source = some (.slot 7) ∧ s.slotState 7 = .valid ∧ s.scanner.queue ≠ [] ∧
        .repair ∈ s.staging.waiting) ∧
    (let s := (checking (~~~defaultCrc) (.slot 7) [] []).modStaging fun g => { g with state := .copyBack }
     s.scanner.queue = [] ∧ s.staging.waiting = [] ∧ s.staging.state ≠ .openState ∧ s.slotState 7 = .valid) ∧
    (let s := checking (~~~defaultCrc) (.slot 7) [] []
     s.scanner.pass = some { chan := 0, view := [] } ∧ s.scanner.watch[0].state = .checking ∧ s.slotState 7 = .valid ∧
        s.scanner.queue = [] ∧ s.staging.waiting = [] ∧ s.staging.state = .openState ∧ s.preset.nv = none ∧
        s.scanner.repair = none) := by
  refine ⟨by decide, rfl, ⟨fun h => ne_not defaultCrc (Option.some.inj h).symm, by decide⟩, by decide, by decide, by decide⟩

/-- R161: the unlock that comes after a pass has queued its channel and before the repair's start makes the channel IDLE and
empties the queue; after the start it completes BUSY. -/
theorem test_unlock_before_repair :
    nextIs (exec (.showUnlock 0 3 []) (checking 0 (.slot 7) [0] [.repair])) (fun t =>
      !t.scanner.lock && t.scanner.queue.isEmpty && t.staging.waiting.isEmpty && t.scanner.watch[0].state == .idle &&
        t.links[0].sending == some (.completion 3 .success 0 [] [])) = true ∧
    nextIs (exec .repairBegin (checking 0 (.slot 7) [0] [.repair])) (fun s =>
      nextIs (exec (.showUnlock 0 3 []) s) fun t =>
        t.scanner.lock && t.links[0].sending == some (.completion 3 .busy 0 [] [])) = true := by
  decide +kernel

/-- RepairsBegin: nothing queued; a queue whose third channel is the first with a VALID slot; one in which none has, with
no other claimant. -/
theorem witness_RepairsBegin :
    ¬ (ready.scanner.queue ≠ [] ∧ ready.scanner.repair = none ∧ ready.staging.state = .openState ∧ ready.preset.nv = none) ∧
    (let s := checking 0 (.slot 7) [0] []
     s.scanner.queue = [0] ∧ s.scanner.repair = none ∧ s.staging.state = .openState ∧ s.preset.nv = none ∧
        s.scanner.watch[0].source = some (.slot 7) ∧ s.slotState 7 = .valid) ∧
    (let s := checking 0 (.slot 7) [4, 5, 0, 3] [.repair, .write 1]
     s.scanner.queue = [4, 5] ++ 0 :: [3] ∧ s.scanner.repair = none ∧ s.staging.state = .openState ∧ s.preset.nv = none ∧
        (∀ x ∈ ([4, 5] : List Chan), s.scanner.watch[x].source = none) ∧ s.scanner.watch[0].source = some (.slot 7) ∧
        s.slotState 7 = .valid) ∧
    (let s := checking 0 (.slot 6) [0, 3] [.repair]
     s.scanner.queue = [0, 3] ∧ s.scanner.watch[0].source = some (.slot 6) ∧ s.slotState 6 ≠ .valid ∧
        s.scanner.watch[3].source = none ∧ ∀ w ∈ s.staging.waiting, w = .repair) := by
  decide

/-- `ready`, with an NV operation in flight on slot 7, whose slot record is as given. -/
def flashing (op : NvOp) (d : SlotDir) : State :=
  { ready with
    preset := { ready.preset with
      nv := some op
      directory := ready.preset.directory.set 7 d
      storing := some { header := [], records := Vector.replicate 6 [] }
      setupStoring := some (List.replicate 32 0)
      requester := some ⟨0, 3, true⟩ } }

/-- PresetsAreStoredAndErased: a store and an erase taken, without a slot and with one; their ends. -/
theorem witness_PresetsAreStoredAndErased :
    (ready.calm ∧ ready.takes 0 3 (roleAlign ||| roleShow) [8] ∧ slotParam [8] = none ∧
      ready.takes 0 3 (roleAlign ||| roleShow) [7] ∧ slotParam [7] = some 7) ∧
    (ready.takes 0 3 roleAlign [8] ∧ ready.takes 0 3 roleAlign [7]) ∧
    (let s := flashing (.store 7) { state := .storing, info := none }
     s.calm ∧ s.preset.nv = some (.store 7) ∧ s.preset.storing = some { header := [], records := Vector.replicate 6 [] }) ∧
    (let s := flashing (.erase 7) { state := .erasing, info := none }
     s.calm ∧ s.preset.nv = some (.erase 7)) := by
  decide +kernel

/-- SetupStoreWritesTheStagedCopy: the request, and the end. -/
theorem witness_SetupStoreWritesTheStagedCopy :
    ready.takes 0 3 roleShow [] ∧
    (let s := flashing .setupStore SlotDir.emptySlot
     s.calm ∧ s.preset.nv = some .setupStore ∧ s.preset.setupStoring = some (List.replicate 32 0)) := by
  decide +kernel

/-- `ready`, with a load of slot 7 in flight for `owner`, the record of channel `c` landing, and the CRCs of the directory
all `crc`. -/
def loading (owner : OpOwner) (c : Chan) (crc : Word32) : State :=
  { ready with
    preset := { ready.preset with
      nv := some (.load 7 owner)
      progress := some { landing := c, sound := [] }
      requester := some ⟨0, 3, true⟩
      directory := ready.preset.directory.set 7
        { state := .valid, info := some { name := [], gen := 1, crcs := Vector.replicate 6 crc } } }
    staging := { ready.staging with state := .loading, owner := some owner } }

/-- `ready`, with a restore copy of channel 4 under way for `owner`. -/
def restoring (owner : OpOwner) : State :=
  ready.modStaging fun g => { g with state := .loading, owner := some owner, restore := some ⟨4, some ⟨0, 3, true⟩⟩ }

/-- RecordsLandAndRestoreCopiesEnd: a sound record of a link, the sixth of a link and of start-up, one of a repair; one that
is not sound; changed bytes of the body; the restore copies of the three owners. -/
theorem witness_RecordsLandAndRestoreCopiesEnd :
    (let s := loading (.link 0) 0 defaultCrc
     s.staging.waiting = [] ∧ s.preset.nv = some (.load 7 (.link 0)) ∧
        s.preset.progress = some { landing := 0, sound := [] } ∧
        (s.preset.directory[7].info).map (fun i => i.crcs[0]) = some defaultCrc ∧
        crc32 (Cells.bytes defaultByte s.flash.bodies[7].records[0] 0 103498) = defaultCrc) ∧
    (let s := loading (.link 0) 5 defaultCrc
     s.preset.nv = some (.load 7 (.link 0)) ∧ s.preset.progress = some { landing := 5, sound := [] } ∧
        s.preset.requester = some ⟨0, 3, true⟩) ∧
    (loading .startUp 5 defaultCrc).preset.nv = some (.load 7 .startUp) ∧
    (loading .repair 2 defaultCrc).preset.nv = some (.load 7 .repair) ∧
    (let s := loading (.link 0) 0 (~~~defaultCrc)
     (s.preset.directory[7].info).map (fun i => i.crcs[0]) = some (~~~defaultCrc) ∧ defaultCrc ≠ ~~~defaultCrc) ∧
    cellsInside [(621019, 1)] Config.bodySize = true ∧
    ((restoring (.link 0)).staging.restore = some ⟨4, some ⟨0, 3, true⟩⟩ ∧ (restoring (.link 0)).staging.waiting = [] ∧
      (restoring (.link 0)).staging.owner = some (.link 0)) ∧
    (restoring .startUp).staging.owner = some .startUp ∧ (restoring .repair).staging.owner = some .repair :=
  ⟨⟨rfl, rfl, rfl, rfl, rfl⟩, ⟨rfl, rfl, rfl⟩, rfl, rfl, ⟨rfl, ne_not _⟩, by decide, ⟨rfl, rfl, rfl⟩, rfl, rfl⟩

end Sys2Proof.Tests
end

