-- ==== Sys2Proof/Proofs/FrameOrder.lean ====
section
/-! R2: the order of frame numbers. Read from the start `base` of one half of the number circle, "newer than" is the order
of the distances from `base`; the newest and the oldest of a list in that half are then the members at the largest and the
smallest distance. -/

namespace Sys2Proof.Machine

/-- R2's order as an interval of distances round the circle, the difference written without wrapping words. -/
theorem newer_iff_distance (n m : Word32) :
    newer n m = true ↔
      1 ≤ (n.toNat + 2 ^ 32 - m.toNat) % 2 ^ 32 ∧ (n.toNat + 2 ^ 32 - m.toNat) % 2 ^ 32 ≤ 2 ^ 31 - 1 := by
  have distance : (n - m).toNat = (n.toNat + 2 ^ 32 - m.toNat) % 2 ^ 32 := by bv_omega
  have apart : n ≠ m ↔ 1 ≤ (n - m).toNat := by bv_omega
  rw [newer, Bool.and_eq_true, decide_eq_true_iff, decide_eq_true_iff, apart, distance]
  omega

theorem newerEq_iff (n m : Word32) : newerEq n m = true ↔ newer n m = true ∨ n = m := by
  rw [newerEq, Bool.or_eq_true, decide_eq_true_iff, or_comm]

/-- In one half of the circle a number is newer exactly when it lies further from the half's start. -/
theorem newer_iff_offset_lt {base n m : Word32} (hn : (n - base).toNat < 2 ^ 31) (hm : (m - base).toNat < 2 ^ 31) :
    newer n m = true ↔ (m - base).toNat < (n - base).toNat := by
  rw [newer_iff_distance]
  bv_omega

/-- In one half of the circle a number is newer or equal exactly when it lies no nearer to the half's start. -/
theorem newerEq_iff_offset_le {base n m : Word32} (hn : (n - base).toNat < 2 ^ 31) (hm : (m - base).toNat < 2 ^ 31) :
    newerEq n m = true ↔ (m - base).toNat ≤ (n - base).toNat := by
  have same : n = m ↔ (n - base).toNat = (m - base).toNat := by bv_omega
  rw [newerEq_iff, newer_iff_offset_lt hn hm, same]
  omega

/-- In one half of the circle the newer of two numbers lies at the larger of their distances from the half's start. -/
theorem newer_pick_offset {base m n : Word32} (hm : (m - base).toNat < 2 ^ 31) (hn : (n - base).toNat < 2 ^ 31) :
    ((if newer m n then m else n) - base).toNat = max (m - base).toNat (n - base).toNat := by
  simp only [newer_iff_offset_lt hm hn]
  split <;> omega

/-- In one half of the circle the older of two numbers lies at the smaller of their distances from the half's start. -/
theorem older_pick_offset {base m n : Word32} (hm : (m - base).toNat < 2 ^ 31) (hn : (n - base).toNat < 2 ^ 31) :
    ((if newer n m then m else n) - base).toNat = min (m - base).toNat (n - base).toNat := by
  simp only [newer_iff_offset_lt hn hm]
  split <;> omega

theorem newestOf_eq_none_iff (l : List Word32) : newestOf l = none ↔ l = [] := by
  cases l with
  | nil => simp [newestOf]
  | cons n rest => cases h : newestOf rest <;> simp [newestOf, h]

theorem oldestOf_eq_none_iff (l : List Word32) : oldestOf l = none ↔ l = [] := by
  cases l with
  | nil => simp [oldestOf]
  | cons n rest => cases h : oldestOf rest <;> simp [oldestOf, h]

/-- The newest of a nonempty list: its only member, or the newer of its head and the newest of the rest. -/
theorem newestOf_cons_eq_some {n x : Word32} {rest : List Word32} (h : newestOf (n :: rest) = some x) :
    (rest = [] ∧ x = n) ∨ ∃ m, newestOf rest = some m ∧ x = if newer m n then m else n := by
  cases hrest : newestOf rest with
  | none => exact .inl ⟨(newestOf_eq_none_iff rest).mp hrest, by simpa [newestOf, hrest] using h.symm⟩
  | some m => exact .inr ⟨m, rfl, by simpa [newestOf, hrest] using h.symm⟩

/-- The oldest of a nonempty list: its only member, or the older of its head and the oldest of the rest. -/
theorem oldestOf_cons_eq_some {n x : Word32} {rest : List Word32} (h : oldestOf (n :: rest) = some x) :
    (rest = [] ∧ x = n) ∨ ∃ m, oldestOf rest = some m ∧ x = if newer n m then m else n := by
  cases hrest : oldestOf rest with
  | none => exact .inl ⟨(oldestOf_eq_none_iff rest).mp hrest, by simpa [oldestOf, hrest] using h.symm⟩
  | some m => exact .inr ⟨m, rfl, by simpa [oldestOf, hrest] using h.symm⟩

theorem newestOf_mem {l : List Word32} {x : Word32} (h : newestOf l = some x) : x ∈ l := by
  induction l generalizing x with
  | nil => simp [newestOf] at h
  | cons n rest ih =>
    obtain ⟨-, rfl⟩ | ⟨m, hm, rfl⟩ := newestOf_cons_eq_some h
    · exact List.mem_cons_self
    · split
      · exact List.mem_cons_of_mem n (ih hm)
      · exact List.mem_cons_self

theorem oldestOf_mem {l : List Word32} {x : Word32} (h : oldestOf l = some x) : x ∈ l := by
  induction l generalizing x with
  | nil => simp [oldestOf] at h
  | cons n rest ih =>
    obtain ⟨-, rfl⟩ | ⟨m, hm, rfl⟩ := oldestOf_cons_eq_some h
    · exact List.mem_cons_self
    · split
      · exact List.mem_cons_of_mem n (ih hm)
      · exact List.mem_cons_self

/-- The newest of numbers in one half of the circle lies furthest from the half's start. -/
theorem newestOf_offset_ge {base : Word32} {l : List Word32} (hl : ∀ x ∈ l, (x - base).toNat < 2 ^ 31)
    {x : Word32} (h : newestOf l = some x) : ∀ y ∈ l, (y - base).toNat ≤ (x - base).toNat := by
  induction l generalizing x with
  | nil => simp
  | cons n rest ih =>
    obtain ⟨hn, hrest⟩ := List.forall_mem_cons.mp hl
    obtain ⟨rfl, rfl⟩ | ⟨m, hm, rfl⟩ := newestOf_cons_eq_some h
    · simp
    · rw [newer_pick_offset (hrest m (newestOf_mem hm)) hn]
      exact List.forall_mem_cons.mpr ⟨le_max_right _ _, fun y hy => le_max_of_le_left (ih hrest hm y hy)⟩

/-- The oldest of numbers in one half of the circle lies nearest to the half's start. -/
theorem oldestOf_offset_le {base : Word32} {l : List Word32} (hl : ∀ x ∈ l, (x - base).toNat < 2 ^ 31)
    {x : Word32} (h : oldestOf l = some x) : ∀ y ∈ l, (x - base).toNat ≤ (y - base).toNat := by
  induction l generalizing x with
  | nil => simp
  | cons n rest ih =>
    obtain ⟨hn, hrest⟩ := List.forall_mem_cons.mp hl
    obtain ⟨rfl, rfl⟩ | ⟨m, hm, rfl⟩ := oldestOf_cons_eq_some h
    · simp
    · rw [older_pick_offset (hrest m (oldestOf_mem hm)) hn]
      exact List.forall_mem_cons.mpr ⟨min_le_right _ _, fun y hy => min_le_of_left_le (ih hrest hm y hy)⟩

/-- Settles O34: in one half of the circle `newerEq` is the order of the distances from its start, at which the newest and
the oldest are the extremes. -/
theorem frameNumbersAreOrdered : Obligations.FrameNumbersAreOrdered := by
  intro n m
  refine ⟨newer_iff_distance n m, newerEq_iff n m, fun base l hl =>
    ⟨newestOf_eq_none_iff l, oldestOf_eq_none_iff l, fun x hx => ?newest, fun x hx => ?oldest⟩⟩
  case newest =>
    have hmem := newestOf_mem hx
    exact ⟨hmem, fun y hy => (newerEq_iff_offset_le (hl x hmem) (hl y hy)).mpr (newestOf_offset_ge hl hx y hy)⟩
  case oldest =>
    have hmem := oldestOf_mem hx
    exact ⟨hmem, fun y hy => (newerEq_iff_offset_le (hl y hy) (hl x hmem)).mpr (oldestOf_offset_le hl hx y hy)⟩

end Sys2Proof.Machine
end

