-- ==== Sys2Proof/Proofs/EventRaise.lean ====
section
/-! R206, R207: what a raised kind does to a link, and to the links of the part. -/

namespace Sys2Proof.Machine

/-- R207's conditions for a notice. -/
theorem Link.wantsNotice_iff (l : Link) :
    l.wantsNotice = true ↔
      l.up = true ∧ l.enabled &&& l.pending &&& ~~~l.notified ≠ 0 ∧ 1 ≤ l.noticeCredit := by
  simp [Link.wantsNotice, and_assoc]

/-- R206: a kind not pending is added, and then a notice is tested for. -/
theorem Link.raise_not_pending (l : Link) (e : EventKind) (h : ¬ l.pending &&& e.bit = e.bit) :
    l.raise e = Link.testNotice { l with pending := l.pending ||| e.bit } := if_neg h

/-- R206, R207: a kind that is pending already, a kind that brings a notice, and a kind that brings none. -/
theorem Link.raise_eq (l : Link) (e : EventKind) :
    l.raise e =
      if l.pending &&& e.bit = e.bit then l
      else if l.up = true ∧ l.enabled &&& (l.pending ||| e.bit) &&& ~~~l.notified ≠ 0 ∧ 1 ≤ l.noticeCredit then
        { l with
          pending := l.pending ||| e.bit
          notified := l.notified ||| (l.enabled &&& (l.pending ||| e.bit))
          noticeCredit := l.noticeCredit - 1
          sendQ := l.sendQ ++ [.notice (l.enabled &&& (l.pending ||| e.bit))] }
      else { l with pending := l.pending ||| e.bit } := by
  by_cases already : l.pending &&& e.bit = e.bit
  · rw [if_pos already, l.raise_pending_already e already]
  · rw [if_neg already, l.raise_not_pending e already]
    obtain ⟨wants, notice⟩ | ⟨wants, noNotice⟩ := Link.testNotice_spec { l with pending := l.pending ||| e.bit }
    · rw [notice, if_pos ((Link.wantsNotice_iff _).mp wants)]
    · rw [noNotice, if_neg fun due => Bool.eq_false_iff.mp wants ((Link.wantsNotice_iff _).mpr due)]

/-- A kind raised on one link does there what a shared kind does. -/
theorem State.raiseOn_links_same (s : State) (j : LinkId) (e : EventKind) :
    (s.raiseOn j e).links[j] = (s.raise e).links[j] :=
  (s.modLink_links_same j _).trans (s.raise_links_get e j).symm

/-- A kind raised on one link leaves the others. -/
theorem State.raiseOn_links_ne (s : State) (j i : LinkId) (e : EventKind) (h : i ≠ j) :
    (s.raiseOn j e).links[i] = s.links[i] := s.modLink_links_ne j i _ h

/-- Settles O20, by the three cases of a raise on a link and the link that each of the two operations changes. -/
theorem raisesAndNotices : Obligations.RaisesAndNotices := by
  intro s e j
  refine ⟨?link, s.raiseOn_links_same j e, fun i h => s.raiseOn_links_ne j i e h, ?raiseFrame, ?raiseOnFrame⟩
  case link => exact (s.raise_links_get e j).trans (s.links[j].raise_eq e)
  case raiseFrame => rfl
  case raiseOnFrame => rfl

end Sys2Proof.Machine
end

section
/-! What an operation leaves of a state when its links' traffic is set aside: `State.core` forgets the queues, credits and
event sets of the links and the order of the waiting requests, which completions, events and waiting change. Each shared
operation on the links keeps the core. -/

namespace Sys2Proof.Machine

variable (s : State)

/-- What a link holds besides its queues, credits, event sets and records of faults. -/
def Link.line (l : Link) : Link := { Link.reset with up := l.up, share := l.share, roles := l.roles }

/-- The state with the traffic on the links and the order of the waiting requests forgotten. -/
def State.core : State :=
  { s with links := s.links.map Link.line, staging := { s.staging with waiting := [] } }

/-- States with one core agree on whether each link is UP. -/
theorem State.up_of_core {s t : State} (h : t.core = s.core) (k : LinkId) : t.links[k].up = s.links[k].up := by
  have hk := congrArg (fun u : State => u.links[k].up) h
  simpa [State.core, Link.line] using hk

/-- A change of one link that keeps its line keeps the core. -/
theorem State.modLink_core (k : LinkId) (f : Link → Link) (h : (f s.links[k]).line = s.links[k].line) :
    (s.modLink k f).core = s.core := by
  have hlinks : (s.links.set k (f s.links[k])).map Link.line = s.links.map Link.line := by
    refine Vector.ext fun i hi => ?_
    by_cases hk : k.val = i
    · subst hk; simpa using h
    · simp [Vector.getElem_set_ne _ _ hk]
  simp only [State.core, State.modLink_links, hlinks]
  rfl

/-- A change of every link that keeps its line keeps the core. -/
theorem State.withLinks_core (v : Vector Link 4) (h : ∀ k : LinkId, v[k].line = s.links[k].line) :
    ({ s with links := v } : State).core = s.core := by
  have hlinks : v.map Link.line = s.links.map Link.line := by
    refine Vector.ext fun i hi => ?_
    simpa using h ⟨i, hi⟩
  simp only [State.core, hlinks]

@[simp] theorem State.raise_core (e : EventKind) : (s.raise e).core = s.core :=
  s.withLinks_core _ fun k => by simp [Link.line]

@[simp] theorem State.raiseOn_core (k : LinkId) (e : EventKind) : (s.raiseOn k e).core = s.core :=
  s.modLink_core k _ (by simp [Link.line])

@[simp] theorem State.beginSends_core : s.beginSends.core = s.core :=
  s.withLinks_core _ fun k => by simp [Link.line]

@[simp] theorem State.unwait_core (w : Claimant) : (s.unwait w).core = s.core := rfl

@[simp] theorem State.await_core (w : Claimant) : (s.await w).core = s.core := by
  simp only [State.await, State.modStaging, State.core]
  split <;> rfl

@[simp] theorem State.complete_core (k : LinkId) (tag : Byte) (st : Status) (p : List Byte) :
    (s.complete k tag st p).core = s.core :=
  ((s.unwait (.request k tag)).modLink_core k _ (by simp [Link.line])).trans (s.unwait_core _)

@[simp] theorem State.completeRead_core (k : LinkId) (tag : Byte) (o : Word32) (p : List Byte) :
    (s.completeRead k tag o p).core = s.core :=
  ((s.unwait (.request k tag)).modLink_core k _ (by simp [Link.line])).trans (s.unwait_core _)

@[simp] theorem State.completeFor_core (r : Option Requester) (st : Status) (p : List Byte) :
    (s.completeFor r st p).core = s.core := by
  unfold State.completeFor
  split
  · split <;> simp
  · rfl

@[simp] theorem State.keep_core (k : LinkId) (m : Msg) : (s.keep k m).core = s.core :=
  s.modLink_core k _ (by split <;> rfl)

@[simp] theorem State.keepWaiting_core (k : LinkId) (tag : Byte) (m : Msg) : (s.keepWaiting k tag m).core = s.core :=
  ((s.keep k m).await_core _).trans (s.keep_core k m)

@[simp] theorem State.leaveHead_core (k : LinkId) (m : Msg) : (s.leaveHead k m).core = s.core :=
  ((s.unwait (.write k)).modLink_core k _ (by simp [Link.line])).trans (s.unwait_core _)

@[simp] theorem State.refusePosted_core (k : LinkId) (m : Msg) (st : Status) :
    (s.refusePosted k m st).core = s.core := by
  unfold State.refusePosted
  rw [State.raiseOn_core, State.modLink_core _ _ _ rfl, State.leaveHead_core]

@[simp] theorem State.popHead_core (k : LinkId) : (s.modLink k Link.popHead).core = s.core := s.modLink_core k _ rfl

@[simp] theorem State.clearKinds_core (k : LinkId) (set : BitVec 32) :
    (s.modLink k (Link.clearKinds set)).core = s.core := s.modLink_core k _ rfl

@[simp] theorem takeEventEnable_core (k : LinkId) (tag : Byte) (ps : List Byte) :
    (takeEventEnable k tag ps s).core = s.core := by
  unfold takeEventEnable
  split
  · simp
  · simp only
    rw [State.modLink_core _ _ _ (by simp [Link.line]), State.complete_core, State.modLink_core _ _ _ rfl]

@[simp] theorem State.protocolFault_core (k : LinkId) (r : FaultReason) (kind : Byte) :
    (s.protocolFault k r kind).core = s.core :=
  ((s.modLink k (Link.recordFault r kind)).raiseOn_core k .protocol).trans (s.modLink_core k _ rfl)

@[simp] theorem State.takeIn_core (k : LinkId) (m : Msg) : (s.takeIn k m).core = s.core := by
  unfold State.takeIn
  simp only
  split
  · split
    · simp
    · exact s.modLink_core k _ rfl
  · split
    · simp
    · split
      · simp
      · exact s.modLink_core k _ rfl

@[simp] theorem State.takeCredit_core (k : LinkId) (grant : Byte) : (s.takeCredit k grant).core = s.core := by
  unfold State.takeCredit
  split
  · simp
  · exact s.modLink_core k _ (by simp [Link.line])

/-- An arrival changes nothing but its link's traffic before a head is judged. -/
@[simp] theorem State.arrive_core (k : LinkId) (a : Arrival) : (s.arrive k a).core = s.core := by
  unfold State.arrive
  split
  · cases a <;> simp
  · rfl

@[simp] theorem State.sent_core (k : LinkId) : (s.modLink k Link.sent).core = s.core := by
  refine s.modLink_core k _ ?_
  unfold Link.sent
  split
  · split
    · simp [Link.line]
    · rfl
  · rfl

/-- What two states of one core have in common, carried through a change that does not look at the traffic. -/
theorem State.modStaging_core {s t : State} (h : t.core = s.core) (f : Staging → Staging)
    (hf : ∀ g, { f g with waiting := [] } = f { g with waiting := [] }) :
    (t.modStaging f).core = (s.modStaging f).core := by
  have hs : { t.staging with waiting := [] } = { s.staging with waiting := [] } := congrArg State.staging h
  have : (t.modStaging f).core = t.core.modStaging f := by
    simp only [State.core, State.modStaging, hf]
  rw [this, h]
  simp only [State.core, State.modStaging, hf]

theorem State.modScanner_core {s t : State} (h : t.core = s.core) (f : Scanner → Scanner) :
    (t.modScanner f).core = (s.modScanner f).core := congrArg (State.modScanner f) h

theorem State.modPreset_core {s t : State} (h : t.core = s.core) (f : Preset → Preset) :
    (t.modPreset f).core = (s.modPreset f).core := congrArg (State.modPreset f) h

theorem State.idleNv_core {s t : State} (h : t.core = s.core) : t.idleNv.core = s.idleNv.core := State.modPreset_core h _

end Sys2Proof.Machine
end

section
/-! What a step can do to the part besides its links' traffic, said once: `Move` lists the changes that judgements of
messages, ends of operations, ticks and arrivals are made of, each with what holds when it is made. The invariants of
Safety.lean are proved move by move. -/

namespace Sys2Proof.Machine

/-- Where a move may come from: the links on which requests may stand, which no move takes DOWN; whether a tick may be
given; whether an NV operation on a slot may end. -/
structure Scope where
  asks : LinkId → Prop
  ticks : Prop
  ends : Prop

/-- R176: the directory as the scan leaves it, in the working copy and on flash. -/
def State.withScanned (s : State) : State :=
  (s.modFlash fun f => { f with directory := Vector.ofFn fun sl : SlotId => s.flash.directory[sl].scanned }).modPreset
    fun p => { p with directory := Vector.ofFn fun sl : SlotId => s.flash.directory[sl].scanned }

theorem State.scanDirectory_core (s : State) : s.scanDirectory.core = s.withScanned.core := by
  unfold State.scanDirectory
  simp only
  split
  · exact State.raise_core _ _
  · rfl

/-- One change of the part's state. -/
inductive Change (σ : Scope) (s : State) : State → Prop
  /-- Only traffic. -/
  | quiet : Change σ s s
  /-- R51 to R63: the Timebase changes, and keeps its laws where no tick is given. -/
  | clock (f : Timebase → Timebase) (lawful : σ.ticks ∨ (s.timebase.ok → (f s.timebase).ok)) :
      Change σ s (s.modTimebase f)
  /-- R67 to R118: Capture, Barrier, Pipelines and frame memory change and keep their laws. -/
  | frames (u : State) (lawful : s.framesOk → u.framesOk) (stored : s.frameMem.wf zeroByte → u.frameMem.wf zeroByte) :
      Change σ s ({ s with
        capture := u.capture, barrier := u.barrier, pipes := u.pipes, frameMem := u.frameMem } : State)
  /-- R130, R146, R170: a staging record is written. -/
  | record (c : Chan) (r : Cells) (stored : s.memoriesOk → r.wf defaultByte) : Change σ s (s.setStagingRecord c r)
  /-- R132, R146, R171: the staging header is written. -/
  | header (h : Cells) (stored : s.memoriesOk → h.wf zeroByte) : Change σ s (s.setStagingHeader h)
  /-- R179: the staged setup copy is written. -/
  | setupCopy (m : Cells) (stored : s.memoriesOk → m.wf zeroByte) :
      Change σ s (s.modPreset fun p => { p with setup := m })
  /-- R126: a link takes the hold. -/
  | takeHold (k : LinkId) (asks : σ.asks k) (free : s.staging.hold = none) (unlocked : s.scanner.lock = false) :
      Change σ s (s.modStaging fun g => { g with hold := some k })
  /-- R127 to R129: the hold ends, with no commit pending. -/
  | endHold (idle : s.staging.commit = none ∨ s.staging.state ≠ .commitPending) :
      Change σ s (s.modStaging fun g => { g with hold := none })
  /-- R127, R140: the pending commit is cancelled. -/
  | cancel (pending : s.staging.state = .commitPending) :
      Change σ s (s.modStaging fun g => { g with commit := none, state := .openState, owner := none })
  /-- R139: a commit of the holder becomes pending. -/
  | accept (k : LinkId) (tag : Byte) (set : ChanSet) (kind : Activation) (holds : s.staging.hold = some k)
      (opened : s.staging.state = .openState) (noStore : s.storeInFlight = false) (some_chan : set ≠ 0) :
      Change σ s (s.modStaging fun g =>
        { g with
          state := .commitPending
          owner := some (.link k)
          commit := some { owner := .link k tag, set := set, kind := kind } })
  /-- R150: the show lock is set, and a pass begins. -/
  | lock (unlocked : s.scanner.lock = false) (free : s.staging.hold = none) :
      Change σ s ((s.modScanner fun n =>
        { n with lock := true, watch := Vector.ofFn fun c : Chan => n.watch[c].locked }).beginPass 0)
  /-- R151: the show lock is cleared. -/
  | unlock (idle : s.scanner.repair = none) :
      Change σ s (s.modScanner fun n =>
        { n with
          lock := false
          watch := Vector.ofFn fun c : Chan => n.watch[c].unlocked
          pass := none
          queue := [] })
  /-- R167: a store begins. -/
  | beginStore (sl : SlotId) (req : Option Requester) (free : s.slotState sl = .empty)
      (noCommit : s.staging.state ≠ .commitPending) (idle : s.preset.nv = none) :
      Change σ s ((s.setSlot sl { state := .storing, info := none }).modPreset fun p =>
        { p with storing := some s.activeBody, nv := some (.store sl), requester := req })
  /-- R158, R169: a load begins with the NV controller idle and staging OPEN. -/
  | beginLoad (sl : SlotId) (owner : OpOwner) (first : Chan) (req : Option Requester) (notEmpty : s.slotState sl ≠ .empty)
      (notCorrupt : s.slotState sl ≠ .corrupt) (idle : s.preset.nv = none) (opened : s.staging.state = .openState) :
      Change σ s ((s.modPreset fun p => { p with requester := req }).startLoad sl owner first)
  /-- R174: an erase begins. -/
  | beginErase (sl : SlotId) (req : Option Requester) (used : s.slotState sl ≠ .empty) (idle : s.preset.nv = none) :
      Change σ s ((s.setSlot sl { state := .erasing, info := none }).modPreset fun p =>
        { p with nv := some (.erase sl), requester := req })
  /-- R180: a SETUP_STORE begins. -/
  | beginSetupStore (bytes : List Byte) (req : Option Requester) (idle : s.preset.nv = none) :
      Change σ s (s.modPreset fun p =>
        { p with setupStoring := some bytes, nv := some .setupStore, requester := req })
  /-- R168: a store ends. -/
  | endStore (sl : SlotId) (body : Body) (info : SlotInfo) (ends : σ.ends) (op : s.preset.nv = some (.store sl))
      (read : s.preset.storing = some body) :
      Change σ s ((((s.modFlash fun f => { f with bodies := f.bodies.set sl body }).setSlot sl
        { state := .valid, info := some info }).modPreset fun p => { p with storing := none }).idleNv)
  /-- R174: an erase ends. -/
  | endErase (sl : SlotId) (ends : σ.ends) (op : s.preset.nv = some (.erase sl)) :
      Change σ s ((s.setSlot sl SlotDir.emptySlot).idleNv)
  /-- R180: a SETUP_STORE ends. -/
  | endSetupStore (m : Cells) (stored : s.memoriesOk → m.wf zeroByte) (op : s.preset.nv = some .setupStore) :
      Change σ s (((s.modFlash fun f => { f with setup := m }).modPreset fun p =>
        { p with setupStoring := none }).idleNv)
  /-- R170: bytes of a slot body have changed on flash. -/
  | body (sl : SlotId) (b : Body) (stored : s.memoriesOk → b.wf) :
      Change σ s (s.modFlash fun f => { f with bodies := f.bodies.set sl b })
  /-- R175: bytes of the setup record have changed on flash. -/
  | setupFlash (m : Cells) (stored : s.memoriesOk → m.wf zeroByte) :
      Change σ s (s.modFlash fun f => { f with setup := m })
  /-- R170: the load goes on with the next record. -/
  | progress (g : Progress) (running : s.preset.progress.isSome = true) :
      Change σ s (s.modPreset fun p => { p with progress := some g })
  /-- R171, R177: a load ends, and staging is OPEN. -/
  | endLoad (sl : SlotId) (owner : OpOwner) (op : s.preset.nv = some (.load sl owner)) : Change σ s (s.idleNv.openStaging)
  /-- R141: a load of the part ends with its commit pending. -/
  | commitLoad (sl : SlotId) (owner : OpOwner) (set : ChanSet) (some_chan : set ≠ 0)
      (op : s.preset.nv = some (.load sl owner)) : Change σ s ((s.pendPartCommit set).idleNv)
  /-- R172: a record is not sound: the slot is CORRUPT, and a restore copy begins. -/
  | corrupt (sl : SlotId) (owner : OpOwner) (r : Restore) (ends : σ.ends)
      (op : s.preset.nv = some (.load sl owner)) :
      Change σ s (((s.setSlot sl { s.preset.directory[sl] with state := .corrupt }).idleNv).modStaging fun g =>
        { g with restore := some r })
  /-- R172: the restore copy ends, and staging is OPEN. -/
  | restored (running : s.staging.restore.isSome = true) :
      Change σ s (s.modStaging fun g => { g with restore := none, state := .openState, owner := none })
  /-- R175, R177: the boot outcome is settled. -/
  | boot (o : BootOutcome) (read : s.preset.nv = some .startUpRead → s.staging.restore.isSome = true) :
      Change σ s (s.modPreset fun p => { p with bootOutcome := some o })
  /-- R185: lines of the links change. -/
  | lines (v : Vector Link 4) (up : ∀ j, σ.asks j → s.links[j].up = true → v[j].up = true)
      (boot : s.preset.bootOutcome = none → ∀ j : LinkId, v[j].up = true → s.links[j].up = true) :
      Change σ s ({ s with links := v } : State)
  /-- R186: requesters are dropped. -/
  | drop (f : Requester → Requester) :
      Change σ s ((s.modPreset fun p => { p with requester := p.requester.map f }).modStaging fun g =>
        { g with restore := g.restore.map fun r => { r with requester := r.requester.map f } })
  /-- R146: a copy of copy-back ends with others left. -/
  | copied (c : Chan) (rest : List Chan) (list : s.staging.copyList = c :: rest) (left : rest ≠ []) :
      Change σ s (s.modStaging fun g => { g with copyList := rest })
  /-- R146: the last copy of copy-back ends, and staging is OPEN. -/
  | copiedLast (state : s.staging.state = .copyBack) :
      Change σ s (s.modStaging fun g => { g with copyList := [], state := .openState, owner := none })
  /-- R160: a repair has ended, and its channel is REFERENCE_PENDING. -/
  | repaired (r : Repair) (running : s.scanner.repair = some r) :
      Change σ s ((s.modWatch r.chan fun w =>
        { w with state := .referencePending, reference := none, source := none }).modScanner fun n =>
        { n with repair := none })
  /-- R162: an integrity report. -/
  | report (r : Report) : Change σ s (s.modScanner fun n => { n with report := r })
  /-- R153: the next pass begins, or none. -/
  | pass (p : Option Pass) (scanning : s.scanner.lock = true ∨ s.scanner.pass.isSome = true)
      (stored : s.memoriesOk → ∀ q ∈ p, q.view.wf defaultByte) :
      Change σ s (s.modScanner fun n => { n with pass := p })
  /-- R154: a pass takes a reference. -/
  | reference (c : Chan) (crc : Word32) (src : RepairSource) (pending : s.scanner.watch[c].state = .referencePending) :
      Change σ s (s.modWatch c fun w =>
        { w with state := .checking, reference := some crc, source := some src })
  /-- R155: a check is counted. -/
  | checked (c : Chan) : Change σ s (s.modWatch c fun w => { w with checks := w.checks + 1 })
  /-- R155, R157: a channel is FAULT, and joins the queue or not. -/
  | fault (c : Chan) (q : List Chan) (checking : s.scanner.watch[c].state = .checking)
      (queue : q = s.scanner.queue ∨ q = s.scanner.queue ++ [c]) :
      Change σ s ((s.modWatch c fun w => { w with state := .fault }).modScanner fun n => { n with queue := q })
  /-- R158: the head of the repair queue leaves it. -/
  | unqueue (c : Chan) (rest : List Chan) (queue : s.scanner.queue = c :: rest) :
      Change σ s (s.modScanner fun n => { n with queue := rest })
  /-- R158: the head of the repair queue has its repair begun. -/
  | repair (c : Chan) (sl : SlotId) (rest : List Chan) (queue : s.scanner.queue = c :: rest)
      (idle : s.scanner.repair = none) :
      Change σ s (s.modScanner fun n =>
        { n with queue := rest, repair := some { chan := c, slot := sl, phase := .loading } })
  /-- R160: the repair in progress takes another phase. -/
  | phase (ph : RepairPhase) :
      Change σ s (s.modScanner fun n => { n with repair := n.repair.map fun r => { r with phase := ph } })
  /-- R159, R160: the repair in progress ends. -/
  | noRepair : Change σ s (s.modScanner fun n => { n with repair := none })
  /-- R175: the setup record's values are taken. -/
  | takeSetup (m : Cells) (o : SetupOutcome) (stored : m.wf zeroByte) :
      Change σ s (s.modPreset fun p => { p with setup := m, setupOutcome := some o })
  /-- R176: the directory scan ends START_UP_READ. -/
  | scanned (ends : σ.ends) (op : s.preset.nv = some .startUpRead) (taken : s.preset.setupOutcome.isSome = true) :
      Change σ s (s.withScanned.idleNv)
  /-- R176, R177: the directory scan ends START_UP_READ, and the start-up load begins. -/
  | scannedLoad (sl : SlotId) (ends : σ.ends) (op : s.preset.nv = some .startUpRead) (taken : s.preset.setupOutcome.isSome = true)
      (valid : s.withScanned.slotState sl = .valid) :
      Change σ s (s.withScanned.idleNv.startLoad sl .startUp 0)
  /-- R143, R144: a pending commit is activated. -/
  | activate (p : PendingCommit) (ticks : σ.ticks) (state : s.staging.state = .commitPending)
      (pending : s.staging.commit = some p) : Change σ s (s.activate p)

/-- A change, with what it does to the links' traffic left open. -/
inductive Move (σ : Scope) (s t : State) : Prop
  | intro {u : State} (change : Change σ s u) (next : t.core = u.core)

/-- A run of moves. -/
abbrev Moves (σ : Scope) : State → State → Prop := Relation.ReflTransGen (Move σ)

variable {σ : Scope} {s t u : State}

/-- What every move keeps, a run of moves keeps. -/
theorem Moves.keeps {P : State → Prop} (hP : ∀ s t, Move σ s t → P s → P t) (h : Moves σ s t) (hs : P s) : P t := by
  induction h with
  | refl => exact hs
  | tail _ hm ih => exact hP _ _ hm ih

theorem Moves.of_core (h : t.core = s.core) : Moves σ s t := .single (.intro .quiet h)

/-- Traffic after a run of moves is part of it. -/
theorem Moves.then_core (h : Moves σ s t) (hu : u.core = t.core) : Moves σ s u := h.tail (.intro .quiet hu)

/-- Traffic before a run of moves is part of it. -/
theorem Moves.core_then (hs : t.core = s.core) (h : Moves σ t u) : Moves σ s u := .head (.intro .quiet hs) h

theorem Moves.single (h : Move σ s t) : Moves σ s t := Relation.ReflTransGen.single h

end Sys2Proof.Machine
end

section
/-! The judgement of a message is a run of moves: each request's own rule, by its cases, and then the head of a queue and
the service of a claimant. -/

namespace Sys2Proof.Machine

variable {σ : Scope} {s t : State}

/-! ### Canonical memories -/

theorem applyWrite_wf {layout : Nat → Field} {d : Nat → Byte} {m : Cells} (offset : Nat) (payload : List Byte)
    (h : m.wf d) : (applyWrite layout d m offset payload).wf d := by
  unfold applyWrite
  split
  · exact h
  · exact Cells.write_wf d m _ _ h

theorem State.memoriesOk.record (h : s.memoriesOk) (b : Bank) (c : Chan) : (s.record b c).wf defaultByte := (h.1 b).2 c

theorem State.memoriesOk.header (h : s.memoriesOk) (b : Bank) : (s.header b).wf zeroByte := (h.1 b).1

/-! ### Frame slots and the barrier where no mode changes -/

/-- The laws of the frames look at the slots, the members, B and the modes alone. -/
theorem State.framesOk_of_same (hc : t.capture = s.capture) (hm : t.barrier.members = s.barrier.members)
    (hf : t.barrier.frame = s.barrier.frame) (hp : ∀ c : Chan, t.pipes[c].mode = s.pipes[c].mode) (h : s.framesOk) :
    t.framesOk := fun c => by
  have hc' := h c
  rw [hc, hm, hf, hp c]
  exact hc'

/-- A change of the pipelines and of the Barrier that keeps modes, members and B is a move. -/
theorem Moves.of_requests (hm : t.barrier.members = s.barrier.members)
    (hf : t.barrier.frame = s.barrier.frame) (hp : ∀ c : Chan, t.pipes[c].mode = s.pipes[c].mode)
    (next : t.core = ({ s with barrier := t.barrier, pipes := t.pipes } : State).core) : Moves σ s t :=
  .single (.intro (.frames { s with barrier := t.barrier, pipes := t.pipes }
    (s.framesOk_of_same (t := { s with barrier := t.barrier, pipes := t.pipes }) rfl hm hf hp) id) next)

theorem eachChan_moves {f : Chan → State → State} (hf : ∀ c s, Moves σ s (f c s)) (cs : List Chan) (s : State) :
    Moves σ s (eachChan f cs s) := by
  induction cs generalizing s with
  | nil => exact .refl
  | cons c cs ih => exact (hf c s).trans (ih (f c s))

/-! ### Parameters -/

theorem chanSetOf_ne_zero {b : Byte} {set : ChanSet} (h : chanSetOf b = some set) : set ≠ 0 := by
  unfold chanSetOf at h
  split at h
  · cases h
  · next hb =>
    obtain rfl : b.setWidth 6 = set := Option.some.inj h
    simp only [not_or, not_le] at hb
    intro h0
    have h1 : b.toNat % 2 ^ 6 = 0 := by simpa using congrArg BitVec.toNat h0
    exact hb.1 (BitVec.eq_of_toNat_eq (by simp; omega))

theorem commitParams_set_ne_zero {ps : List Byte} {set : ChanSet} {kind : Activation} {crc : Word32}
    (h : commitParams ps = some (set, kind, crc)) : set ≠ 0 := by
  unfold commitParams at h
  split at h
  · cases h
  · split at h
    · next hs _ => cases h; exact chanSetOf_ne_zero hs
    · next hs _ => cases h; exact chanSetOf_ne_zero hs
    · cases h

/-! ### Requests -/

theorem State.cancelCommit_commit (s : State) : s.cancelCommit.staging.commit = none := by
  unfold State.cancelCommit
  split
  · rfl
  · next h => exact h

theorem State.cancelCommit_moves (h : s.staging.state = .commitPending) : Moves σ s s.cancelCommit := by
  unfold State.cancelCommit
  split
  · next p _ =>
    refine .single (.intro (.cancel h) ?_)
    cases p.owner with
    | link k tag =>
      exact State.modStaging_core (s.complete_core k tag .cancelled [])
        (fun g => { g with commit := none, state := .openState, owner := none }) fun _ => rfl
    | part => rfl
  · exact .refl

/-- R127 to R129: a hold ends, its commit cancelled first. -/
theorem State.cancelAndEndHold_moves (s : State) :
    Moves σ s (if s.staging.state = .commitPending then s.cancelCommit else s).endHold := by
  split
  · next h =>
    exact (State.cancelCommit_moves h).tail (.intro (.endHold (.inl s.cancelCommit_commit)) (by simp [State.endHold]))
  · next h => exact .single (.intro (.endHold (.inr h)) (by simp [State.endHold]))

theorem takeHoldAcquire_moves (k : LinkId) (tag : Byte) (s : State) (hk : σ.asks k) :
    Moves σ s (takeHoldAcquire k tag s) := by
  unfold takeHoldAcquire
  split
  · exact .of_core (by simp)
  · split
    · exact .of_core (by simp)
    · next unlocked =>
      split
      · exact .of_core (by simp)
      · next free =>
        split
        · exact .of_core (by simp)
        · exact .single (.intro (.takeHold k hk (by simpa using free) (by simpa using unlocked)) (by simp))

theorem takeHoldRelease_moves (k : LinkId) (tag : Byte) (s : State) : Moves σ s (takeHoldRelease k tag s) := by
  unfold takeHoldRelease
  split
  · exact s.cancelAndEndHold_moves.then_core (by simp)
  · exact .of_core (by simp)

theorem takeHoldBreak_moves (k : LinkId) (tag : Byte) (s : State) : Moves σ s (takeHoldBreak k tag s) := by
  unfold takeHoldBreak
  split
  · exact s.cancelAndEndHold_moves.then_core (by simp)
  · exact .of_core (by simp)

theorem takeCommitCancel_moves (k : LinkId) (tag : Byte) (s : State) : Moves σ s (takeCommitCancel k tag s) := by
  unfold takeCommitCancel
  split
  · refine Moves.then_core ?_ (State.complete_core _ _ _ _ _)
    split
    · next h => exact State.cancelCommit_moves h
    · exact .refl
  · exact .of_core (by simp)

theorem State.checkCommit_moves (k : LinkId) (tag : Byte) (set : ChanSet) (kind : Activation) (crc : Word32) (m : Msg)
    (holds : s.staging.hold = some k) (opened : s.staging.state = .openState) (noStore : s.storeInFlight = false)
    (some_chan : set ≠ 0) : Moves σ s (s.checkCommit k tag set kind crc m) := by
  unfold State.checkCommit
  simp only
  split
  · exact .of_core (by simp)
  · split
    · exact .of_core (by simp)
    · exact .single (.intro (.accept k tag set kind holds opened noStore some_chan) (by simp [State.acceptCommit]))

theorem takeCommit_moves (k : LinkId) (tag : Byte) (ps : List Byte) (s : State) : Moves σ s (takeCommit k tag ps s) := by
  unfold takeCommit
  split
  · exact .of_core (by simp)
  · next hps =>
    split
    · exact .of_core (by simp)
    · next h hold =>
      split
      · exact .of_core (by simp)
      · next hk =>
        split
        · exact .of_core (by simp)
        · next opened =>
          split
          · exact .of_core (by simp)
          · next noStore =>
            obtain rfl : h = k := by simpa using hk
            exact State.checkCommit_moves h tag _ _ _ _ hold (by simpa [State.isOpen] using opened) (by simpa using noStore)
              (commitParams_set_ne_zero hps)

theorem takeShowLock_moves (k : LinkId) (tag : Byte) (s : State) : Moves σ s (takeShowLock k tag s) := by
  unfold takeShowLock
  split
  · exact .of_core (by simp)
  · next unlocked =>
    split
    · exact .of_core (by simp)
    · next free =>
      split
      · exact .of_core (by simp)
      · exact .single (.intro (.lock (by simpa using unlocked) (by simpa using free)) (by simp))

theorem takeShowUnlock_moves (k : LinkId) (tag : Byte) (s : State) : Moves σ s (takeShowUnlock k tag s) := by
  unfold takeShowUnlock
  split
  · exact .of_core (by simp)
  · split
    · exact .of_core (by simp)
    · next idle => exact .single (.intro (.unlock (by simpa using idle)) (by simp))

theorem State.withdrawMode_moves (r : ModeReq) (s : State) : Moves σ s (s.withdrawMode r) := by
  refine Moves.of_requests rfl rfl (fun c => ?_) ?_
  · simp only [State.withdrawMode, Fin.getElem_fin, Vector.getElem_ofFn]
    split <;> rfl
  · have h := s.complete_core r.link r.tag .superseded []
    exact congrArg (fun u : State => { u with pipes := (s.withdrawMode r).pipes }) h

theorem State.withdrawOverlap_moves (set : ChanSet) (c : Chan) (s : State) : Moves σ s (s.withdrawOverlap set c) := by
  unfold State.withdrawOverlap
  split
  · split
    · exact .refl
    · exact s.withdrawMode_moves _
  · exact .refl

theorem State.pendMode_moves (mode : Mode) (req : ModeReq) (c : Chan) (s : State) :
    Moves σ s (s.modPipe c fun p => { p with pendingMode := some mode, pendingReq := some req }) := by
  refine Moves.of_requests rfl rfl (fun d => ?_) rfl
  by_cases h : d = c
  · subst h; rw [State.modPipe_pipes_same]
  · rw [State.modPipe_pipes_ne _ _ _ _ h]

theorem takeChannelMode_moves (k : LinkId) (tag : Byte) (ps : List Byte) (s : State) :
    Moves σ s (takeChannelMode k tag ps s) := by
  unfold takeChannelMode
  split
  · exact .of_core (by simp)
  · next set mode _ =>
    refine Moves.then_core (.trans (eachChan_moves (State.withdrawOverlap_moves set) _ s)
      (eachChan_moves (State.pendMode_moves mode ⟨k, tag, set⟩) _ _)) (State.keep_core _ _ _)

theorem State.pendLimit_moves (v : Option Nat) (req : Option (LinkId × Byte)) (s : State) :
    Moves σ s (s.modBarrier fun b => { b with pendingLimit := v, pendingReq := req }) :=
  Moves.of_requests rfl rfl (fun _ => rfl) rfl

theorem takeBarrierLimit_moves (k : LinkId) (tag : Byte) (ps : List Byte) (s : State) :
    Moves σ s (takeBarrierLimit k tag ps s) := by
  unfold takeBarrierLimit
  split
  · exact .of_core (by simp)
  · next v _ =>
    refine Moves.then_core (.trans (Moves.of_core ?_) (State.pendLimit_moves (some v.toNat) (some (k, tag)) _))
      (State.keep_core _ _ _)
    split <;> simp

theorem takePresetStore_moves (k : LinkId) (tag : Byte) (ps : List Byte) (s : State) :
    Moves σ s (takePresetStore k tag ps s) := by
  unfold takePresetStore
  split
  · exact .of_core (by simp)
  · next sl _ =>
    split
    · exact .of_core (by simp)
    · next free =>
      split
      · exact .of_core (by simp)
      · next noCommit =>
        split
        · exact .of_core (by simp)
        · next idle =>
          refine .single (.intro (.beginStore sl (some { link := k, tag := tag, live := true }) (by simpa using free) noCommit
            (by simpa [State.nvIdle] using idle)) ?_)
          exact (State.keep_core _ _ _).trans rfl

theorem takePresetLoad_moves (k : LinkId) (tag : Byte) (ps : List Byte) (s : State) :
    Moves σ s (takePresetLoad k tag ps s) := by
  unfold takePresetLoad
  split
  · exact .of_core (by simp)
  · next sl _ =>
    split
    · exact .of_core (by simp)
    · split
      · exact .of_core (by simp)
      · split
        · exact .of_core (by simp)
        · split
          · exact .of_core (by simp)
          · next notEmpty =>
            split
            · exact .of_core (by simp)
            · next notCorrupt =>
              split
              · exact .of_core (by simp)
              · next ready =>
                obtain ⟨opened, idle⟩ : s.staging.state = .openState ∧ s.preset.nv = none := by
                  simpa [State.isOpen, State.nvIdle] using ready
                refine .single (.intro (.beginLoad sl (.link k) 0 (some { link := k, tag := tag, live := true }) notEmpty notCorrupt
                  idle opened) ?_)
                exact ((((s.unwait (.request k tag)).modPreset fun p =>
                  { p with nv := some (.load sl (.link k)), requester := some { link := k, tag := tag, live := true } }).startLoad
                    sl (.link k) 0).keep_core k (.command tag 0x0B ps)).trans rfl

theorem takePresetErase_moves (k : LinkId) (tag : Byte) (ps : List Byte) (s : State) :
    Moves σ s (takePresetErase k tag ps s) := by
  unfold takePresetErase
  split
  · exact .of_core (by simp)
  · next sl _ =>
    split
    · exact .of_core (by simp)
    · split
      · exact .of_core (by simp)
      · next used =>
        split
        · exact .of_core (by simp)
        · next idle =>
          refine .single (.intro (.beginErase sl (some { link := k, tag := tag, live := true }) used
            (by simpa [State.nvIdle] using idle)) ?_)
          exact (State.keep_core _ _ _).trans rfl

theorem takeSetupStore_moves (k : LinkId) (tag : Byte) (ps : List Byte) (s : State) :
    Moves σ s (takeSetupStore k tag ps s) := by
  unfold takeSetupStore
  split
  · exact .of_core (by simp)
  · split
    · exact .of_core (by simp)
    · next idle =>
      refine .single (.intro (.beginSetupStore (setupRecordBytes s.preset.setup) (some { link := k, tag := tag, live := true })
        (by simpa [State.nvIdle] using idle)) ?_)
      exact (State.keep_core _ _ _).trans rfl

/-! ### Judgements -/

theorem takeCommand_moves (k : LinkId) (tag code : Byte) (ps : List Byte) (s : State) (hk : σ.asks k) :
    Moves σ s (takeCommand k tag code ps s) := by
  unfold takeCommand
  split
  · exact takeHoldAcquire_moves k tag s hk
  · exact takeHoldRelease_moves k tag s
  · exact takeHoldBreak_moves k tag s
  · exact takeCommit_moves k tag ps s
  · exact takeCommitCancel_moves k tag s
  · exact takeShowLock_moves k tag s
  · exact takeShowUnlock_moves k tag s
  · exact takeChannelMode_moves k tag ps s
  · exact takeBarrierLimit_moves k tag ps s
  · exact takePresetStore_moves k tag ps s
  · exact takePresetLoad_moves k tag ps s
  · exact takePresetErase_moves k tag ps s
  · exact takeSetupStore_moves k tag ps s
  · exact .of_core (by simp)
  · exact .of_core (by simp)

theorem judgeCommand_moves (k : LinkId) (tag code : Byte) (ps : List Byte) (s : State) (hk : σ.asks k) :
    Moves σ s (judgeCommand k tag code ps s) := by
  unfold judgeCommand
  split
  · exact .of_core (by simp)
  · split
    · exact .of_core (by simp)
    · exact takeCommand_moves k tag code ps s hk

theorem takeStagingRead_core (k : LinkId) (tag : Byte) (m : Msg) (r : Region) (offset : Word32) (length : Nat) (s : State) :
    (takeStagingRead k tag m r offset length s).core = s.core := by
  unfold takeStagingRead
  split <;> simp

/-- A READ changes nothing but traffic. -/
theorem judgeRead_core (k : LinkId) (tag region channel : Byte) (offset : Word32) (length : BitVec 16) (s : State) :
    (judgeRead k tag region channel offset length s).core = s.core := by
  unfold judgeRead
  split
  · simp
  · next r _ =>
    split
    · simp
    · split
      · simp
      · cases r <;> simp [takeRead, takeStagingRead_core]

theorem judgeRequest_moves (k : LinkId) (m : Msg) (s : State) (hk : σ.asks k) : Moves σ s (judgeRequest k m s) := by
  cases m with
  | read tag region channel offset length => exact .of_core (judgeRead_core k tag region channel offset length s)
  | command tag code ps => exact judgeCommand_moves k tag code ps s hk
  | write => exact .refl
  | clear => exact .refl

theorem State.writeRecord_moves (c : Chan) (offset : Nat) (payload : List Byte) (s : State) :
    Moves σ s (s.writeRecord c offset payload) := by
  unfold State.writeRecord
  split
  · exact .refl
  · exact .single (.intro (.record c _ (fun h => Cells.write_wf _ _ _ _ (applyWrite_wf offset payload (h.record _ c)))) rfl)

theorem State.writeHeader_moves (offset : Nat) (payload : List Byte) (s : State) :
    Moves σ s (s.writeHeader offset payload) :=
  .single (.intro (.header _ (fun h => applyWrite_wf offset payload (h.header _))) rfl)

theorem State.writeSetup_moves (offset : Nat) (payload : List Byte) (s : State) :
    Moves σ s (s.writeSetup offset payload) :=
  .single (.intro (.setupCopy _ (fun h => applyWrite_wf offset payload h.2.2.1)) rfl)

/-- R130: what a WRITE to staging that is applied leaves. -/
theorem judgeStagingWrite_applied {k : LinkId} {act : State → State} (h : judgeStagingWrite k act s = .applied t) :
    t = act s := by
  unfold judgeStagingWrite at h
  split at h
  · cases h
  · split at h
    · cases h
    · split at h
      · cases h
      · split at h <;> cases h
        rfl

theorem judgeOwner_moves {k : LinkId} {r : Region} {offset : Nat} {payload : List Byte}
    (h : judgeOwner k r offset payload s = .applied t) : Moves σ s t := by
  cases r with
  | stagingRecord c => rw [judgeStagingWrite_applied h]; exact s.writeRecord_moves c offset payload
  | stagingHeader => rw [judgeStagingWrite_applied h]; exact s.writeHeader_moves offset payload
  | setup => cases h; exact s.writeSetup_moves offset payload
  | activeRecord => cases h
  | activeHeader => cases h
  | status => cases h
  | directory => cases h

theorem judgeWrite_moves {k : LinkId} {region channel : Byte} {offset : Word32} {payload : List Byte}
    (h : judgeWrite k region channel offset payload s = .applied t) : Moves σ s t := by
  unfold judgeWrite at h
  split at h
  · cases h
  · split at h
    · cases h
    · split at h
      · cases h
      · split at h
        · cases h
        · exact judgeOwner_moves h

theorem State.judgeHead_moves (k : LinkId) (s : State) (hk : s.links[k].rx ≠ [] → σ.asks k) :
    Moves σ s (s.judgeHead k) := by
  unfold State.judgeHead
  split
  · exact .refl
  · unfold takeWrite
    split
    · next h => exact (judgeWrite_moves h).then_core (by simp)
    · exact .of_core (by simp)
    · exact .of_core (by simp)
  · exact .of_core (by simp)
  · next h => exact (judgeRequest_moves k _ _ (hk (h ▸ List.cons_ne_nil _ _))).core_then (s.popHead_core k)
  · next h => exact (judgeRequest_moves k _ _ (hk (h ▸ List.cons_ne_nil _ _))).core_then (s.popHead_core k)

theorem State.serve_moves (w : Claimant) (s : State) (hk : ∀ k : LinkId, s.links[k].rx ≠ [] ∨ s.links[k].wait ≠ [] → σ.asks k) :
    Moves σ s (s.serve w) := by
  cases w with
  | write k =>
    unfold State.serve
    simp only
    split
    · exact s.judgeHead_moves k fun h => hk k (.inl h)
    · exact .refl
  | request k tag =>
    unfold State.serve
    simp only
    split
    · next m h =>
      split
      · exact judgeRequest_moves k m s (hk k (.inr fun h0 => by rw [State.waitingMsg, h0] at h; cases h))
      · exact .refl
    · exact .refl
  | repair => exact .refl

/-- The judgements of a settling: what every move keeps, it keeps. -/
theorem settle_moves (hσ : ∀ k, σ.asks k) (n : Nat) (ws : List Claimant) (ks : List LinkId) (s : State) :
    Moves σ s (settle n ws ks s) :=
  settle_keeps (Moves σ s) (fun w _ h => h.trans (State.serve_moves w _ fun k _ => hσ k))
    (fun k _ h => h.trans (State.judgeHead_moves k _ fun _ => hσ k)) n ws ks s .refl

theorem settled_moves (hσ : ∀ k, σ.asks k) (s t : State) : Moves σ t (s.settled t) :=
  (settle_moves hσ _ _ _ _).then_core (State.beginSends_core _)

end Sys2Proof.Machine
end

section
/-! The ends of operations, the scanner, start-up and the links' lines as runs of moves. -/

namespace Sys2Proof.Machine

variable {σ : Scope} {s t : State}

/-! ### Canonical memories -/

theorem Body.changeByte_wf (p : Host.Cell) {b : Body} (h : b.wf) : (b.changeByte p).wf := by
  unfold Body.changeByte
  split
  · exact ⟨Cells.write_wf _ _ _ _ h.1, h.2⟩
  · simp only
    split
    · next hc =>
      refine ⟨h.1, fun c => ?_⟩
      by_cases hcc : (p.1 - Config.headerSize) / Config.recordSize = c.val
      · simpa [hcc] using Cells.write_wf defaultByte _ _ [p.2] (h.2 c)
      · simpa [Vector.getElem_set_ne _ _ hcc] using h.2 c
    · exact h

theorem Body.change_wf (changed : List Host.Cell) {b : Body} (h : b.wf) : (b.change changed).wf := by
  unfold Body.change
  induction changed generalizing b with
  | nil => exact h
  | cons p ps ih => exact ih (Body.changeByte_wf p h)

theorem setOrigin_wf {r : Cells} (kind slot : Byte) (h : r.wf defaultByte) : (Rec.setOrigin r kind slot).wf defaultByte :=
  Cells.write_wf _ _ _ _ h

theorem setName_wf {h : Cells} (name : List Byte) (hh : h.wf zeroByte) : (Header.setName h name).wf zeroByte :=
  Cells.write_wf _ _ _ _ hh

/-! ### Ends of NV operations -/

theorem State.storeEnd_moves (s : State) (hσ : σ.ends) : Moves σ s s.storeEnd := by
  unfold State.storeEnd
  split
  · next sl body op read => exact .single (.intro (.endStore sl body (body.info s.staging.gen) hσ op read) (by simp))
  · exact .refl

theorem State.eraseEnd_moves (s : State) (hσ : σ.ends) : Moves σ s s.eraseEnd := by
  unfold State.eraseEnd
  split
  · next sl op => exact .single (.intro (.endErase sl hσ op) (by simp))
  · exact .refl

theorem State.setupEnd_moves (s : State) : Moves σ s s.setupEnd := by
  unfold State.setupEnd
  split
  · next bytes op _ =>
    exact .single (.intro (.endSetupStore (Cells.write zeroByte s.flash.setup 0 bytes)
      (fun h => Cells.write_wf _ _ _ _ h.2.2.2.2.1) op) ((State.completeFor_core _ _ _ _).trans (State.raise_core _ _)))
  · exact .refl

/-! ### Loads -/

theorem Link.tryUp_of_up {l : Link} (h : l.up = true) : l.tryUp = l := by simp [Link.tryUp, h]

theorem Vector.ofFn_link (f : LinkId → Link) (j : LinkId) : (Vector.ofFn f)[j] = f j := by simp

theorem State.settleBoot_moves (o : BootOutcome) (s : State)
    (read : s.preset.nv = some .startUpRead → s.staging.restore.isSome = true) : Moves σ s (s.settleBoot o) :=
  (Moves.single (.intro (.boot o read) rfl)).tail
    (.intro (.lines (Vector.ofFn fun k : LinkId => s.links[k].tryUp)
      (fun j _ (h : s.links[j].up = true) => by rw [Vector.ofFn_link, Link.tryUp_of_up h]; exact h)
      (fun h => by cases h)) rfl)

theorem State.copyActive_moves (c : Chan) (s : State) : Moves σ s (s.copyActive c) :=
  .single (.intro (.record c _ (fun h => setOrigin_wf _ _ (h.record _ c))) rfl)

theorem State.copyActiveName_moves (s : State) : Moves σ s s.copyActiveName :=
  .single (.intro (.header _ (fun h => setName_wf _ (h.header _))) rfl)

theorem State.landRecord_moves (c : Chan) (bytes : List Byte) (s : State) : Moves σ s (s.landRecord c bytes) :=
  .single (.intro (.record c _ (fun h => applyWrite_wf _ _ (h.record _ c))) rfl)

theorem State.landName_moves (owner : OpOwner) (s : State) : Moves σ s (s.landName owner) := by
  unfold State.landName
  split
  · exact s.copyActiveName_moves
  · exact .refl

theorem State.takeBodyName_moves (sl : SlotId) (s : State) : Moves σ s (s.takeBodyName sl) :=
  .single (.intro (.header _ (fun h => setName_wf _ (h.header _))) rfl)

theorem State.changeLoadedBody_moves (changed : List Host.Cell) (s : State) : Moves σ s (s.changeLoadedBody changed) := by
  unfold State.changeLoadedBody
  split
  · next sl _ _ => exact .single (.intro (.body sl _ (fun h => Body.change_wf changed (h.2.2.2.1 sl))) rfl)
  · exact .refl

theorem State.report_moves (r : Report) (s : State) : Moves σ s (s.report r) := .single (.intro (.report r) (State.raise_core _ _))

theorem State.failRepair_moves (c : Chan) (s : State) : Moves σ s (s.failRepair c) :=
  (Moves.single (.intro .noRepair rfl)).trans (State.report_moves (.repairFailed c) _)

theorem State.commitStartUp_moves {sl : SlotId} {owner : OpOwner} (op : s.preset.nv = some (.load sl owner)) :
    Moves σ s s.commitStartUp := by
  unfold State.commitStartUp
  split
  · exact (Moves.single (.intro (.commitLoad sl owner 0x3F (by decide) op) rfl)).trans (State.settleBoot_moves _ _ fun h => by cases h)
  · exact (Moves.single (.intro (.endLoad sl owner op) rfl)).trans (State.settleBoot_moves _ _ fun h => by cases h)

theorem one_shiftLeft_ne_zero (c : Chan) : (1 <<< c.val : ChanSet) ≠ 0 := by
  revert c
  decide

theorem State.commitRepair_moves (c : Chan) {sl : SlotId} {owner : OpOwner} (op : s.preset.nv = some (.load sl owner)) :
    Moves σ s (s.commitRepair c) := by
  unfold State.commitRepair
  simp only
  split
  · exact (Moves.single (.intro (.commitLoad sl owner _ (one_shiftLeft_ne_zero c) op) rfl)).tail (.intro (.phase .commitPending) rfl)
  · exact (Moves.single (.intro (.endLoad sl owner op) rfl)).trans (State.failRepair_moves _ _)

theorem State.endLoad_moves {sl : SlotId} {owner : OpOwner} (op : s.preset.nv = some (.load sl owner)) :
    Moves σ s (s.endLoad sl owner) := by
  have op' : (s.takeBodyName sl).preset.nv = some (.load sl owner) := op
  refine (s.takeBodyName_moves sl).trans ?_
  unfold State.endLoad
  cases owner with
  | link k => exact .single (.intro (.endLoad sl _ op') (by simp))
  | startUp => exact State.commitStartUp_moves op'
  | repair => exact .refl

theorem State.recordSound_moves {sl : SlotId} {owner : OpOwner} {p : Progress} (op : s.preset.nv = some (.load sl owner))
    (hp : s.preset.progress = some p) : Moves σ s (s.recordSound sl owner p) := by
  unfold State.recordSound
  simp only
  have sound : Moves σ s (s.setStagingRecord p.landing
      (Rec.setOrigin (s.stagingRecord p.landing) originPreset (BitVec.ofNat 8 sl.val))) :=
    .single (.intro (.record p.landing _ (fun h => setOrigin_wf _ _ (h.record _ _))) rfl)
  refine sound.trans ?_
  split
  · exact State.commitRepair_moves _ op
  · split
    · exact State.endLoad_moves op
    · exact .single (.intro (.progress { landing := p.landing + 1, sound := p.sound ++ [p.landing] }
        (show s.preset.progress.isSome = true from Option.isSome_of_mem hp)) rfl)

theorem State.recordBad_moves (c : Chan) {sl : SlotId} {owner : OpOwner} (hσ : σ.ends)
    (op : s.preset.nv = some (.load sl owner)) :
    Moves σ s (s.recordBad sl c) := by
  refine .single (.intro (.corrupt sl owner { chan := c, requester := s.preset.requester } hσ op) ?_)
  exact State.modStaging_core (s := (s.setSlot sl { s.preset.directory[sl] with state := .corrupt }).idleNv)
    (State.idleNv_core ((s.setSlot sl { s.preset.directory[sl] with state := .corrupt }).raise_core .preset))
    (fun g => { g with restore := some { chan := c, requester := s.preset.requester } }) fun _ => rfl

theorem State.recordLanded_moves (s : State) (hσ : σ.ends) : Moves σ s s.recordLanded := by
  unfold State.recordLanded
  split
  · next sl owner p op hp =>
    simp only
    have hland : ∀ bytes, ((s.landRecord p.landing bytes).landName owner).preset = s.preset := fun bytes => by
      unfold State.landName
      split <;> rfl
    let bytes := Rec.bytes s.flash.bodies[sl].records[p.landing]
    refine .trans ((s.landRecord_moves p.landing bytes).trans (State.landName_moves owner _)) ?_
    split
    · exact State.recordSound_moves (by rw [hland]; exact op) (by rw [hland]; exact hp)
    · exact State.recordBad_moves _ hσ (by rw [hland]; exact op)
  · exact .refl

theorem State.restoreEnd_moves (s : State) : Moves σ s s.restoreEnd := by
  unfold State.restoreEnd
  split
  · exact .refl
  · next r running =>
    have running' : (s.copyActive r.chan).staging.restore.isSome = true := Option.isSome_of_mem running
    have opened : Moves σ s ((((s.copyActive r.chan).modStaging fun g => { g with restore := none })).openStaging) :=
      (s.copyActive_moves r.chan).tail (.intro (.restored running') rfl)
    simp only
    split
    · exact ((s.copyActive_moves r.chan).trans (State.settleBoot_moves (.corrupt r.chan) _ fun _ => running')).tail
        (.intro (.restored running') rfl)
    · exact opened.trans (State.failRepair_moves _ _)
    · exact opened.then_core (State.completeFor_core _ _ _ _)

/-! ### Copy-back and the scanner -/

theorem State.beginPass_moves (c : Chan) (s : State) (h : s.scanner.lock = true ∨ s.scanner.pass.isSome = true) :
    Moves σ s (s.beginPass c) :=
  .single (.intro (.pass (some { chan := c, view := s.activeRecord c }) h
    (fun hm q hq => by obtain rfl := Option.mem_some.1 hq; exact hm.record _ c)) rfl)

theorem State.nextPass_moves (c : Chan) (s : State) (h : s.scanner.lock = true ∨ s.scanner.pass.isSome = true) :
    Moves σ s (s.nextPass c) := by
  unfold State.nextPass
  split
  · exact s.beginPass_moves _ h
  · exact .single (.intro (.pass none h (fun _ q hq => by cases hq)) rfl)

theorem State.endRepair_moves (s : State) : Moves σ s s.endRepair := by
  unfold State.endRepair
  split
  · next r running =>
    simp only
    refine .trans ((Moves.single (.intro (.repaired r running) rfl)).trans (State.report_moves (.repaired r.chan) _)) ?_
    split
    · next h => exact State.beginPass_moves _ _ (.inl (by simp only [Bool.and_eq_true] at h; exact h.1))
    · exact .refl
  · exact .refl

theorem State.copyEnd_moves (s : State) (state : s.staging.state = .copyBack) : Moves σ s s.copyEnd := by
  unfold State.copyEnd
  split
  · exact .refl
  · next c rest list =>
    have list' : (s.copyActive c).staging.copyList = c :: rest := list
    simp only
    split
    · next last =>
      subst last
      have hcore : (((s.copyActive c).modStaging fun g => { g with copyList := [] }).copyActiveName.openStaging).core =
          ((s.copyActive c).copyActiveName.modStaging fun g =>
            { g with copyList := [], state := .openState, owner := none }).core := rfl
      exact .trans (((s.copyActive_moves c).trans (State.copyActiveName_moves _)).tail (.intro (.copiedLast state) hcore))
        (State.endRepair_moves _)
    · next left => exact (s.copyActive_moves c).tail (.intro (.copied c rest list' left) rfl)

theorem State.findFault_moves (c : Chan) (s : State) (checking : s.scanner.watch[c].state = .checking) :
    Moves σ s (s.findFault c) := by
  unfold State.findFault
  simp only
  have hreport : ∀ q, Moves σ ((s.modWatch c fun w => { w with state := .fault }).modScanner fun n => { n with queue := q })
      (((s.modWatch c fun w => { w with state := .fault }).modScanner fun n => { n with queue := q }).report (.fault c)) :=
    fun q => State.report_moves (.fault c) _
  split
  · exact Moves.then_core ((Moves.single (.intro (.fault c _ checking (.inr rfl)) rfl)).trans (hreport _)) (by
      rw [State.queueRepair, State.await_core]
      exact (State.modScanner_core (State.raise_core _ _) _).trans (State.raise_core _ _).symm)
  · exact (Moves.single (.intro (.fault c s.scanner.queue checking (.inl rfl)) rfl)).trans (hreport _)

theorem State.compareReference_moves (c : Chan) (view : Cells) (s : State)
    (checking : s.scanner.watch[c].state = .checking) : Moves σ s (s.compareReference c view) := by
  unfold State.compareReference
  simp only
  refine .trans (.single (.intro (.checked c) rfl)) ?_
  split
  · exact .refl
  · exact State.findFault_moves c _ (by rw [State.modWatch_watch_same]; exact checking)

/-- R155: finding a fault leaves a lock set, and a pass in progress. -/
theorem State.compareReference_scanner (c : Chan) (view : Cells) (s : State) :
    (s.compareReference c view).scanner.lock = s.scanner.lock ∧
      (s.compareReference c view).scanner.pass = s.scanner.pass := by
  unfold State.compareReference State.findFault
  simp only
  split
  · exact ⟨rfl, rfl⟩
  · split <;> exact ⟨rfl, rfl⟩

theorem State.passEnd_moves (s : State) : Moves σ s s.passEnd := by
  unfold State.passEnd
  split
  · exact .refl
  · next p hp =>
    have hpass : s.scanner.pass.isSome = true := by simp [hp]
    simp only
    split
    · next h =>
      exact .trans (.single (.intro (.reference p.chan _ _ h) rfl)) (State.nextPass_moves _ _ (.inr hpass))
    · next h =>
      refine (State.compareReference_moves p.chan p.view s h).trans (State.nextPass_moves _ _ (.inr ?_))
      rw [(s.compareReference_scanner p.chan p.view).2]
      exact hpass
    · exact State.nextPass_moves _ _ (.inr hpass)
    · exact State.nextPass_moves _ _ (.inr hpass)

/-- R155: the slot that a repair may load is VALID. -/
theorem State.validSource_valid {c : Chan} {sl : SlotId} (h : s.validSource c = some sl) : s.slotState sl = .valid := by
  unfold State.validSource at h
  split at h
  · split at h
    · next hv => cases h; exact hv
    · cases h
  · cases h

theorem State.startRepair_moves (c : Chan) (sl : SlotId) (rest : List Chan) (s : State) (queue : s.scanner.queue = c :: rest)
    (noRepair : s.scanner.repair = none) (valid : s.slotState sl = .valid) (idle : s.preset.nv = none)
    (opened : s.staging.state = .openState) :
    Moves σ s ((s.modScanner fun n => { n with queue := rest }).startRepair c sl) :=
  (Moves.single (.intro (.repair c sl rest queue noRepair) rfl)).tail
    (.intro (.beginLoad sl .repair c s.preset.requester (by intro h; cases valid.symm.trans h)
      (by intro h; cases valid.symm.trans h) idle opened) rfl)

theorem State.tryRepairs_moves (q : List Chan) (s : State) (queue : s.scanner.queue = q)
    (noRepair : s.scanner.repair = none) (idle : s.preset.nv = none) (opened : s.staging.state = .openState) :
    Moves σ s (s.tryRepairs q) := by
  induction q generalizing s with
  | nil =>
    refine .of_core ?_
    show ({ s with scanner := { s.scanner with queue := [] } } : State).core = s.core
    rw [← queue]
  | cons c rest ih =>
    unfold State.tryRepairs
    split
    · next sl valid => exact s.startRepair_moves c sl rest queue noRepair (State.validSource_valid valid) idle opened
    · exact .trans ((Moves.single (.intro (.unqueue c rest queue) rfl)).trans (State.report_moves (.repairFailed c) _))
        (ih _ rfl noRepair idle opened)

theorem State.beginRepair_moves (s : State) : Moves σ s s.beginRepair := by
  unfold State.beginRepair
  split
  · next due =>
    obtain ⟨⟨⟨-, noRepair⟩, opened⟩, idle⟩ : ((s.scanner.queue ≠ [] ∧ s.scanner.repair = none) ∧
        s.staging.state = .openState) ∧ s.preset.nv = none := by
      simpa [State.canRepair, State.isOpen, State.nvIdle] using due
    simp only
    refine Moves.then_core (s.tryRepairs_moves _ rfl noRepair idle opened) ?_
    split <;> simp
  · exact .refl

/-! ### Start-up -/

theorem State.scanExamine_moves (s : State) (hσ : σ.ends) (op : s.preset.nv = some .startUpRead)
    (taken : s.preset.setupOutcome.isSome = true) : Moves σ s s.scanDirectory.idleNv.examineBoot := by
  have scanned := s.scanDirectory_core
  unfold State.examineBoot
  generalize s.scanDirectory = u at scanned
  have hpreset : u.preset = s.withScanned.preset := (congrArg State.preset scanned : u.core.preset = _)
  have idle : Moves σ s u.idleNv := .single (.intro (.scanned hσ op taken) (State.idleNv_core scanned))
  split
  · exact idle.trans (State.settleBoot_moves _ _ fun h => by cases h)
  · next sl _ =>
    split
    · next valid =>
      refine .single (.intro (.scannedLoad sl hσ op taken (by rw [← valid, State.slotState, ← hpreset]; rfl)) ?_)
      exact congrArg (State.startLoad sl .startUp 0) (State.idleNv_core scanned)
    · exact idle.trans (State.settleBoot_moves _ _ fun h => by cases h)

theorem takenFields_wf (m : Cells) : (takenFields m).wf zeroByte :=
  Cells.write_wf _ _ _ _ ⟨List.Pairwise.nil, fun _ h => by cases h⟩

theorem setupDefaults_wf : setupDefaults.wf zeroByte :=
  Cells.write_wf _ _ _ _ ⟨List.Pairwise.nil, fun _ h => by cases h⟩

/-- R54: the Timebase that starts meets its laws. -/
theorem startTimebase_ok (m : Cells) (h : (setupByte m 12).toNat ≤ 9) : (startTimebase m).ok := by
  refine ⟨h, ?_⟩
  simp [startTimebase, Timebase.reset, Timebase.nominal]

theorem State.handOut_moves (m : Cells) (o : SetupOutcome) (s : State) (stored : m.wf zeroByte)
    (rate : (setupByte m 12).toNat ≤ 9) : Moves σ s (s.handOut m o) := by
  let s₁ := s.modPreset fun p => { p with setup := m, setupOutcome := some o }
  let s₂ := s₁.modTimebase fun _ => startTimebase m
  let s₃ := s₂.modBarrier fun b => { b with limit := (setupByte m 14).toNat }
  have h₁ : Moves σ s s₁ := .single (.intro (.takeSetup m o stored) rfl)
  have h₂ : Moves σ s₁ s₂ := .single (.intro (.clock _ (.inr fun _ => startTimebase_ok m rate)) rfl)
  have h₃ : Moves σ s₂ s₃ := Moves.of_requests rfl rfl (fun _ => rfl) rfl
  refine ((h₁.trans h₂).trans h₃).tail (.intro (.lines (Vector.ofFn fun k : LinkId => s.links[k].configure m k) ?_ ?_) rfl)
  · intro j _ hj
    rw [Vector.ofFn_link]
    exact hj
  · intro _ j hj
    rw [Vector.ofFn_link] at hj
    exact hj

theorem read_takenFields (m : Cells) (a : Nat) (h : a < 16) : setupByte (takenFields m) a = setupByte m a := by
  have hl : a < (Cells.bytes zeroByte m 0 16).length := by simpa [Cells.bytes] using h
  have hr := Cells.read_write_in zeroByte [] 0 (Cells.bytes zeroByte m 0 16) a hl
  rw [Nat.zero_add] at hr
  rw [setupByte, takenFields, hr]
  simp [Cells.bytes, setupByte]

theorem State.setupRead_moves (s : State) : Moves σ s s.setupRead := by
  unfold State.setupRead
  split
  · next sound =>
    refine s.handOut_moves _ _ (takenFields_wf _) ?_
    rw [read_takenFields _ _ (by decide)]
    simp only [setupSound, setupConsistent, Bool.and_eq_true, decide_eq_true_eq] at sound
    exact sound.2.1.1.2
  · exact (s.handOut_moves _ _ setupDefaults_wf (by decide)).then_core (State.raise_core _ _)

/-! ### Links' lines -/

theorem State.linkUp_moves (k : LinkId) (s : State) :
    Moves σ s (if s.preset.bootOutcome.isSome then s.modLink k Link.tryUp else s) := by
  split
  · next settled =>
    refine .single (.intro (.lines (s.modLink k Link.tryUp).links (fun j _ h => ?_)
      (fun h => by rw [h] at settled; cases settled)) rfl)
    rw [State.modLink_links_get]
    split
    · next hj => subst hj; rw [Link.tryUp_of_up h]; exact h
    · exact h
  · exact .refl

theorem State.dropRequester_moves (k : LinkId) (s : State) : Moves σ s (s.dropRequester k) :=
  .single (.intro (.drop (Requester.drop k)) rfl)

theorem Pipe.dropRequest_mode (k : LinkId) (p : Pipe) : (p.dropRequest k).mode = p.mode := by
  unfold Pipe.dropRequest
  split
  · split <;> rfl
  · rfl

theorem Barrier.dropRequest_same (k : LinkId) (b : Barrier) :
    (b.dropRequest k).members = b.members ∧ (b.dropRequest k).frame = b.frame := by
  unfold Barrier.dropRequest
  split
  · split <;> exact ⟨rfl, rfl⟩
  · exact ⟨rfl, rfl⟩

theorem State.dropRequests_moves (k : LinkId) (s : State) : Moves σ s (s.dropRequests k) :=
  Moves.of_requests (Barrier.dropRequest_same k _).1 (Barrier.dropRequest_same k _).2
    (fun c => by simp [State.dropRequests, Pipe.dropRequest_mode]) rfl

theorem State.releaseDown_moves (k : LinkId) (s : State) : Moves σ s (s.releaseDown k) := by
  unfold State.releaseDown
  split
  · exact s.cancelAndEndHold_moves
  · exact .refl

/-- R186: what follows a link's going DOWN, whose queues are lost, is a run of moves. -/
theorem State.linkDown_moves (k : LinkId) (s : State) (hσ : ¬ σ.asks k) : Moves σ s (s.linkDown k) := by
  have down : Moves σ s ((s.modLink k Link.goDown).forgetClaims k) := by
    refine .single (.intro (.lines (s.modLink k Link.goDown).links (fun j hj h => ?_) (fun _ j h => ?_)) rfl)
    · rw [State.modLink_links_ne _ _ _ _ fun e => hσ (by rwa [← e])]
      exact h
    · rw [State.modLink_links_get] at h
      split at h
      · cases h
      · exact h
  refine .trans (((down.trans (State.releaseDown_moves k _)).trans (State.dropRequester_moves k _)).trans
    (State.dropRequests_moves k _)) (Moves.of_core ?_)
  unfold State.linkDown
  split
  · exact State.modLink_core _ _ _ rfl
  · rfl

end Sys2Proof.Machine
end

section
/-! A channel's three slot records, slot by slot: the laws of R68, what a transition does to each slot, and that a
transition keeps the laws and the SHOWING slot. -/

namespace Sys2Proof.Machine

variable {v : Slots} {n : Word32}

/-! ### Three slots as a list -/

theorem Slots.toList_eq (v : Slots) : v.toList = [v[0], v[1], v[2]] := by
  obtain ⟨⟨l⟩, hl⟩ := v
  match l, hl with
  | [_, _, _], _ => rfl

/-- Of three, at most one passes a test: no two do. -/
theorem Slots.countP_le_one_iff (p : SlotRec → Bool) (v : Slots) :
    v.toList.countP p ≤ 1 ↔ ∀ i j : SlotIx, p v[i] = true → p v[j] = true → i = j := by
  rw [v.toList_eq]
  simp only [List.countP_cons, List.countP_nil, Fin.forall_fin_succ, Fin.getElem_fin]
  cases h0 : p v[0] <;> cases h1 : p v[1] <;> cases h2 : p v[2] <;> simp [h0, h1, h2]

theorem Slots.all_iff (p : SlotRec → Bool) (v : Slots) : v.toList.all p = true ↔ ∀ i : SlotIx, p v[i] = true := by
  rw [v.toList_eq]
  simp [Fin.forall_fin_succ]

theorem Slots.any_iff (p : SlotRec → Bool) (v : Slots) : v.toList.any p = true ↔ ∃ i : SlotIx, p v[i] = true := by
  rw [v.toList_eq]
  simp [Fin.exists_fin_succ]

theorem Slots.mem_iff (r : SlotRec) (v : Slots) : r ∈ v.toList ↔ ∃ i : SlotIx, v[i] = r := by
  rw [v.toList_eq]
  simp [Fin.exists_fin_succ, eq_comm]

/-- R68, slot by slot. -/
theorem Slots.ok_iff (v : Slots) : v.ok ↔
    (∀ i j : SlotIx, v[i].isFilling = true → v[j].isFilling = true → i = j) ∧
    (∀ i j : SlotIx, v[i].isShowing = true → v[j].isShowing = true → i = j) ∧
    ∀ i : SlotIx, v[i].fieldsOk = true := by
  rw [Slots.ok, Slots.countP_le_one_iff, Slots.countP_le_one_iff, Slots.all_iff]

theorem Slots.showsB_iff (v : Slots) (n : Word32) : v.showsB (some n) = true ↔ ∃ i : SlotIx, v[i].shows n = true :=
  v.any_iff _

/-! ### What a transition does to each slot -/

theorem Slots.getElem_each (f : SlotIx → SlotRec → SlotRec) (v : Slots) (i : SlotIx) : (v.each f)[i] = f i v[i] := by
  simp [Slots.each]

theorem Slots.getElem_set (v : Slots) (i j : SlotIx) (r : SlotRec) :
    (Vector.set v i r)[j] = if j = i then r else v[j] := by
  split
  · next h => subst h; simp
  · next h => exact Vector.getElem_set_ne _ _ fun e => h (Fin.ext e.symm)

/-- A slot that a test accepts is found only if it passes. -/
theorem Slots.find_some {p : SlotRec → Bool} {i : SlotIx} (h : v.find p = some i) : p v[i] = true :=
  List.find?_some (p := fun i : SlotIx => p v[i]) h

theorem Slots.find_none {p : SlotRec → Bool} (h : v.find p = none) (i : SlotIx) : p v[i] = false := by
  simpa using List.find?_eq_none.1 h i (List.mem_finRange i)

theorem Slots.find_isSome {p : SlotRec → Bool} {i : SlotIx} (h : p v[i] = true) : ∃ j, v.find p = some j := by
  cases hf : v.find p with
  | some j => exact ⟨j, rfl⟩
  | none => exact absurd h (by simp [-Fin.getElem_fin, Slots.find_none hf i])

theorem SlotRec.ready?_eq_some {r : SlotRec} : r.ready? = some n ↔ ∃ w h, r = .ready n w h := by
  cases r <;> simp [SlotRec.ready?]

theorem SlotRec.shown?_eq_some {r : SlotRec} : r.shown? = some n ↔ ∃ w h, r = .showing n w h false := by
  cases r with
  | showing m w h marked => cases marked <;> simp [SlotRec.shown?]
  | free => simp [SlotRec.shown?]
  | filling => simp [SlotRec.shown?]
  | ready => simp [SlotRec.shown?]

/-- A frame number is READY exactly in a READY slot that holds it. -/
theorem Slots.mem_readyFrames : n ∈ v.readyFrames ↔ ∃ (i : SlotIx) (w h : Nat), v[i] = .ready n w h := by
  simp only [Slots.readyFrames, List.mem_filterMap, SlotRec.ready?_eq_some]
  constructor
  · rintro ⟨r, hr, w, h, rfl⟩
    obtain ⟨i, hi⟩ := (v.mem_iff _).1 hr
    exact ⟨i, w, h, hi⟩
  · rintro ⟨i, w, h, hi⟩
    exact ⟨_, (v.mem_iff _).2 ⟨i, hi⟩, w, h, rfl⟩

theorem Slots.holdsReady_iff : v.holdsReady n = true ↔ ∃ (i : SlotIx) (w h : Nat), v[i] = .ready n w h := by
  rw [Slots.holdsReady, decide_eq_true_iff, Slots.mem_readyFrames]

theorem Slots.readyIx_some {i : SlotIx} (h : v.readyIx n = some i) : ∃ w h, v[i] = .ready n w h := by
  simpa [SlotRec.ready?_eq_some, -Fin.getElem_fin] using Slots.find_some h

theorem Slots.readyIx_isSome (h : v.holdsReady n = true) : ∃ i, v.readyIx n = some i := by
  obtain ⟨i, w, ht, hi⟩ := Slots.holdsReady_iff.1 h
  exact Slots.find_isSome (i := i) (by rw [hi]; simp [SlotRec.ready?])

/-- What showing a READY frame at index `ix` makes of the slot at index `i`. -/
def SlotRec.shownAt (drop : Word32 → Bool) (ix i : SlotIx) (r : SlotRec) : SlotRec :=
  match r with
  | .ready m w h => if i = ix then .showing m w h false else if drop m then .free else r
  | .showing _ _ _ _ => .free
  | _ => r

theorem Slots.show_of_ix {drop : Word32 → Bool} {ix : SlotIx} (h : v.readyIx n = some ix) :
    v.show drop n = v.each (SlotRec.shownAt drop ix) := by
  unfold Slots.show
  rw [h]
  rfl

theorem Slots.show_of_none {drop : Word32 → Bool} (h : v.readyIx n = none) : v.show drop n = v := by
  unfold Slots.show
  rw [h]

/-! ### The laws are kept -/

/-- A change slot by slot that fills, shows and breaks no slot keeps R68. -/
theorem Slots.ok_of_each {f : SlotIx → SlotRec → SlotRec} (h : v.ok)
    (hf : ∀ i r, (f i r).isFilling = true → r.isFilling = true)
    (hs : ∀ i r, (f i r).isShowing = true → r.isShowing = true)
    (hk : ∀ i r, r.fieldsOk = true → (f i r).fieldsOk = true) : (v.each f).ok := by
  obtain ⟨h1, h2, h3⟩ := v.ok_iff.1 h
  refine (Slots.ok_iff _).2 ⟨fun i j hi hj => ?_, fun i j hi hj => ?_, fun i => ?_⟩
  · rw [Slots.getElem_each] at hi hj
    exact h1 i j (hf i _ hi) (hf j _ hj)
  · rw [Slots.getElem_each] at hi hj
    exact h2 i j (hs i _ hi) (hs j _ hj)
  · rw [Slots.getElem_each]
    exact hk i _ (h3 i)

/-- A change slot by slot that keeps what is SHOWING keeps frame B shown. -/
theorem Slots.showsB_of_each {f : SlotIx → SlotRec → SlotRec} (hf : ∀ i r m, r.shows m = true → (f i r).shows m = true)
    {b : Option Word32} (h : v.showsB b = true) : (v.each f).showsB b = true := by
  cases b with
  | none => cases h
  | some m =>
    obtain ⟨i, hi⟩ := (v.showsB_iff m).1 h
    exact (Slots.showsB_iff _ m).2 ⟨i, by rw [Slots.getElem_each]; exact hf i _ m hi⟩

theorem Slots.allFree_get (i : SlotIx) : Slots.allFree[i] = .free := by simp [Slots.allFree]

theorem Slots.allFree_ok : Slots.allFree.ok := by
  refine (Slots.ok_iff _).2 ⟨fun i j hi _ => ?_, fun i j hi _ => ?_, fun i => ?_⟩
  · rw [Slots.allFree_get] at hi; cases hi
  · rw [Slots.allFree_get] at hi; cases hi
  · rw [Slots.allFree_get]; rfl

theorem Slots.freeFilling_ok (h : v.ok) : v.freeFilling.ok :=
  Slots.ok_of_each h (fun _ r => by cases r <;> simp [SlotRec.isFilling])
    (fun _ r => by cases r <;> simp [SlotRec.isFilling, SlotRec.isShowing])
    (fun _ r => by cases r <;> simp [SlotRec.isFilling, SlotRec.fieldsOk])

theorem Slots.freeFilling_showsB {b : Option Word32} (h : v.showsB b = true) : v.freeFilling.showsB b = true :=
  Slots.showsB_of_each (fun _ r m => by cases r <;> simp [SlotRec.isFilling, SlotRec.shows]) h

theorem Slots.freeFilling_noFilling (v : Slots) (i : SlotIx) : v.freeFilling[i].isFilling = false := by
  rw [Slots.freeFilling, Slots.getElem_each]
  cases h : v[i].isFilling <;> simp [SlotRec.isFilling] at h ⊢
  exact h

theorem Slots.freeReady_ok (h : v.ok) : v.freeReady.ok :=
  Slots.ok_of_each h (fun _ r => by cases r <;> simp [SlotRec.isFilling]) (fun _ r => by cases r <;> simp [SlotRec.isShowing])
    (fun _ r => by cases r <;> simp [SlotRec.fieldsOk])

theorem Slots.freeReady_showsB {b : Option Word32} (h : v.showsB b = true) : v.freeReady.showsB b = true :=
  Slots.showsB_of_each (fun _ r m => by cases r <;> simp [SlotRec.shows]) h

theorem Slots.mark_ok (h : v.ok) : v.mark.ok :=
  Slots.ok_of_each h (fun _ r => by cases r <;> simp [SlotRec.isFilling]) (fun _ r => by cases r <;> simp [SlotRec.isShowing])
    (fun _ r => by cases r <;> simp [SlotRec.fieldsOk])

theorem Slots.mark_showsB {b : Option Word32} (h : v.showsB b = true) : v.mark.showsB b = true :=
  Slots.showsB_of_each (fun _ r m => by cases r <;> simp [SlotRec.shows]) h

/-- A resync fills no slot. -/
theorem Slots.resync_noFilling (h : ∀ i : SlotIx, v[i].isFilling = false) (i : SlotIx) :
    v.freeReady.mark[i].isFilling = false := by
  have hi := h i
  rw [Slots.mark, Slots.getElem_each, Slots.freeReady, Slots.getElem_each]
  cases hr : v[i] <;> simp_all [SlotRec.isFilling, -Fin.getElem_fin]

theorem SlotRec.shownAt_isFilling {drop : Word32 → Bool} {ix i : SlotIx} {r : SlotRec}
    (h : (r.shownAt drop ix i).isFilling = true) : r.isFilling = true := by
  cases r with
  | ready m w ht =>
    simp only [SlotRec.shownAt] at h
    split at h
    · cases h
    · split at h <;> cases h
  | free => exact h
  | filling => exact h
  | showing => cases h

theorem SlotRec.shownAt_isShowing {drop : Word32 → Bool} {ix i : SlotIx} {r : SlotRec}
    (h : (r.shownAt drop ix i).isShowing = true) : i = ix := by
  cases r with
  | ready m w ht =>
    simp only [SlotRec.shownAt] at h
    split at h
    · next e => exact e
    · split at h <;> cases h
  | free => cases h
  | filling => cases h
  | showing => cases h

theorem SlotRec.shownAt_fieldsOk {drop : Word32 → Bool} {ix i : SlotIx} {r : SlotRec} (h : r.fieldsOk = true) :
    (r.shownAt drop ix i).fieldsOk = true := by
  cases r with
  | ready m w ht =>
    simp only [SlotRec.shownAt]
    split
    · exact h
    · split
      · rfl
      · exact h
  | free => exact h
  | filling => exact h
  | showing => rfl

/-- A READY frame shown: R68 is kept. -/
theorem Slots.show_ok (drop : Word32 → Bool) (n : Word32) (h : v.ok) : (v.show drop n).ok := by
  cases hix : v.readyIx n with
  | none => rw [Slots.show_of_none hix]; exact h
  | some ix =>
    rw [Slots.show_of_ix hix]
    obtain ⟨h1, -, h3⟩ := v.ok_iff.1 h
    refine (Slots.ok_iff _).2 ⟨fun i j hi hj => ?_, fun i j hi hj => ?_, fun i => ?_⟩
    · rw [Slots.getElem_each] at hi hj
      exact h1 i j (SlotRec.shownAt_isFilling hi) (SlotRec.shownAt_isFilling hj)
    · rw [Slots.getElem_each] at hi hj
      rw [SlotRec.shownAt_isShowing hi, SlotRec.shownAt_isShowing hj]
    · rw [Slots.getElem_each]
      exact SlotRec.shownAt_fieldsOk (h3 i)

/-- A READY frame shown is the frame shown. -/
theorem Slots.show_showsB (drop : Word32 → Bool) (h : v.holdsReady n = true) : (v.show drop n).showsB (some n) = true := by
  obtain ⟨ix, hix⟩ := Slots.readyIx_isSome h
  obtain ⟨w, ht, hr⟩ := Slots.readyIx_some hix
  refine (Slots.showsB_iff _ n).2 ⟨ix, ?_⟩
  rw [Slots.show_of_ix hix, Slots.getElem_each, hr]
  simp [SlotRec.shownAt, SlotRec.shows]

/-- A slot set to a record with sound fields keeps R68, when no other slot fills or shows with it. -/
theorem Slots.set_ok {i : SlotIx} {r : SlotRec} (h : v.ok) (hr : r.fieldsOk = true) (hs : r.isShowing = false)
    (hf : ∀ j : SlotIx, j ≠ i → r.isFilling = true → v[j].isFilling = false) : Slots.ok (Vector.set v i r) := by
  obtain ⟨h1, h2, h3⟩ := v.ok_iff.1 h
  refine (Slots.ok_iff _).2 ⟨fun a b ha hb => ?_, fun a b ha hb => ?_, fun a => ?_⟩
  · rw [Slots.getElem_set] at ha hb
    split at ha <;> split at hb
    · next e₁ e₂ => rw [e₁, e₂]
    · next _ e₂ => rw [hf b e₂ ha] at hb; cases hb
    · next e₁ _ => rw [hf a e₁ hb] at ha; cases ha
    · exact h1 a b ha hb
  · rw [Slots.getElem_set] at ha hb
    split at ha
    · rw [hs] at ha; cases ha
    · split at hb
      · rw [hs] at hb; cases hb
      · exact h2 a b ha hb
  · rw [Slots.getElem_set]
    split
    · exact hr
    · exact h3 a

/-- A slot that does not show gives way, and frame B stays shown. -/
theorem Slots.set_showsB {i : SlotIx} {r : SlotRec} (hi : v[i].isShowing = false) {b : Option Word32}
    (h : v.showsB b = true) : Slots.showsB (Vector.set v i r) b = true := by
  cases b with
  | none => cases h
  | some m =>
    obtain ⟨j, hj⟩ := (v.showsB_iff m).1 h
    refine (Slots.showsB_iff _ m).2 ⟨j, ?_⟩
    rw [Slots.getElem_set, if_neg]
    · exact hj
    · intro e
      subst e
      cases hr : v[j] <;> simp_all [SlotRec.shows, SlotRec.isShowing, -Fin.getElem_fin]

/-- R78: a claimed slot is FREE or READY. -/
theorem Slots.claimIx_spec {i : SlotIx} (h : v.claimIx = some i) :
    v[i] = .free ∨ ∃ m w ht, v[i] = .ready m w ht := by
  unfold Slots.claimIx at h
  split at h
  · next hf => cases h; exact .inl (by simpa [-Fin.getElem_fin] using Slots.find_some hf)
  · split at h
    · next n _ => exact .inr ⟨n, Slots.readyIx_some h⟩
    · cases h

theorem Slots.claim_ok {w ht : Nat} (h : v.ok) (hsize : frameSizeOk w ht)
    (hf : ∀ i : SlotIx, v[i].isFilling = false) : (v.claim n w ht).ok := by
  unfold Slots.claim
  split
  · refine Slots.set_ok h ?_ rfl fun j _ _ => hf j
    simp only [SlotRec.fieldsOk, decide_eq_true_iff]
    exact ⟨hsize, Nat.zero_le _⟩
  · exact h

theorem Slots.claim_showsB {w ht : Nat} {b : Option Word32} (h : v.showsB b = true) :
    (v.claim n w ht).showsB b = true := by
  unfold Slots.claim
  split
  · next i hi =>
    refine Slots.set_showsB ?_ h
    obtain e | ⟨m, w', ht', e⟩ := Slots.claimIx_spec hi <;> rw [e] <;> rfl
  · exact h

end Sys2Proof.Machine
end

section
/-! The stages of the barrier decision, channel by channel (R88 to R96): what each does to the members, the slots and the
links, and what it leaves. -/

namespace Sys2Proof.Machine

variable {s t : State}

/-! ### Something done for each of some channels -/

theorem Vector.set_chan {α : Type} (v : Vector α 6) (c d : Chan) (x : α) :
    (v.set c x)[d] = if d = c then x else v[d] := by
  split
  · next h => subst h; simp
  · next h => exact Vector.getElem_set_ne _ _ fun e => h (Fin.ext e.symm)

/-- What each of a list of channels' steps keeps, they all keep. -/
theorem eachChan_keeps {P : State → Prop} {f : Chan → State → State} (hf : ∀ c s, P s → P (f c s)) (cs : List Chan)
    {s : State} (hs : P s) : P (eachChan f cs s) := by
  induction cs generalizing s with
  | nil => exact hs
  | cons c cs ih => exact ih (hf c s hs)

theorem eachChan_nil (f : Chan → State → State) (s : State) : eachChan f [] s = s := rfl

theorem eachChan_cons (f : Chan → State → State) (c : Chan) (cs : List Chan) (s : State) :
    eachChan f (c :: cs) s = eachChan f cs (f c s) := rfl

/-- Steps that each change the item of their own channel alone, from what the others leave: the items at the end, when
each channel has one step or a second step finds nothing more to do. -/
theorem eachChan_at {α : Type} (π : State → Vector α 6) {f : Chan → State → State} (g : Chan → State → α)
    (same : ∀ c s, (π (f c s))[c] = g c s) (others : ∀ c d s, d ≠ c → (π (f c s))[d] = (π s)[d])
    (blind : ∀ c d s, d ≠ c → g d (f c s) = g d s) {cs : List Chan} (once : cs.Nodup ∨ ∀ c s, g c (f c s) = g c s)
    (s : State) (c : Chan) : (π (eachChan f cs s))[c] = if c ∈ cs then g c s else (π s)[c] := by
  induction cs generalizing s with
  | nil => simp [eachChan_nil]
  | cons x cs ih =>
    rw [eachChan_cons, ih (once.imp_left fun h => h.of_cons)]
    by_cases hc : c = x
    · subst hc
      simp only [List.mem_cons, true_or, if_true]
      split
      · next hmem => exact (once.resolve_left fun h => (List.nodup_cons.1 h).1 hmem) c s
      · exact same c s
    · simp only [List.mem_cons, hc, false_or, blind x c s hc, others x c s hc]

theorem Link.raise_raise (l : Link) (e : EventKind) : (l.raise e).raise e = l.raise e :=
  Link.raise_pending_already _ e (by rw [Link.raise_pending]; ext i; simp; tauto)

/-- Steps of which some raise a kind, and do nothing else to the links: each link at the end. -/
theorem eachChan_raises (e : EventKind) {f : Chan → State → State} (p : Chan → State → Prop)
    (raises : ∀ c s (k : LinkId), p c s → (f c s).links[k] = s.links[k].raise e)
    (quiet : ∀ c s, ¬ p c s → (f c s).links = s.links) (blind : ∀ c d s, d ≠ c → (p d (f c s) ↔ p d s)) {cs : List Chan}
    (once : cs.Nodup ∨ ∀ c s, ¬ p c s → ¬ p c (f c s)) (s : State) (k : LinkId) [Decidable (∃ c ∈ cs, p c s)] :
    (eachChan f cs s).links[k] = if ∃ c ∈ cs, p c s then s.links[k].raise e else s.links[k] := by
  classical
  induction cs generalizing s with
  | nil => simp [eachChan_nil]
  | cons x cs ih =>
    rw [eachChan_cons, ih (once.imp_left fun h => h.of_cons)]
    by_cases hp : p x s
    · rw [raises x s k hp, if_pos (⟨x, List.mem_cons_self, hp⟩ : ∃ c ∈ x :: cs, p c s)]
      split
      · exact Link.raise_raise _ e
      · rfl
    · have hrest : ∀ c ∈ cs, (p c (f x s) ↔ p c s) := fun c hc => by
        by_cases hcx : c = x
        · subst hcx
          exact iff_of_false ((once.resolve_left fun h => (List.nodup_cons.1 h).1 hc) c s hp) hp
        · exact blind x c s hcx
      have hex : (∃ c ∈ cs, p c (f x s)) ↔ ∃ c ∈ cs, p c s :=
        exists_congr fun c => and_congr_right fun hc => hrest c hc
      simp only [hex, List.exists_mem_cons_iff, hp, false_or, quiet x s hp]

/-- Nothing happens where no channel's step does anything. -/
theorem eachChan_id {f : Chan → State → State} {cs : List Chan} (h : ∀ c ∈ cs, f c s = s) : eachChan f cs s = s := by
  induction cs with
  | nil => rfl
  | cons x cs ih =>
    rw [eachChan_cons, h x List.mem_cons_self]
    exact ih fun c hc => h c (List.mem_cons_of_mem _ hc)

/-! ### Changes of the members and their events alone -/

/-- The state `t` is `s` but for the members of the Barrier and the links. -/
def State.sameButMembers (s t : State) : Prop :=
  t = { s with barrier := { s.barrier with members := t.barrier.members }, links := t.links }

theorem State.sameButMembers_refl (s : State) : s.sameButMembers s := rfl

theorem State.sameButMembers_trans {s t u : State} (h : s.sameButMembers t) (h' : t.sameButMembers u) :
    s.sameButMembers u := by
  unfold State.sameButMembers at *
  rw [h', h]

theorem State.sameButMembers_of_eachChan {f : Chan → State → State} (hf : ∀ c s, State.sameButMembers s (f c s))
    (cs : List Chan) (s : State) : s.sameButMembers (eachChan f cs s) :=
  eachChan_keeps (P := s.sameButMembers) (fun c u hu => State.sameButMembers_trans hu (hf c u)) cs
    s.sameButMembers_refl

theorem State.setMembership_sameButMembers (c : Chan) (m : Member) (s : State) :
    s.sameButMembers (s.setMembership c m) := rfl

theorem State.setMembership_members (c d : Chan) (m : Member) (s : State) :
    (s.setMembership c m).barrier.members[d] = if d = c then m else s.barrier.members[d] :=
  Vector.set_chan _ c d m

theorem State.setMembership_links (c : Chan) (m : Member) (s : State) (k : LinkId) :
    (s.setMembership c m).links[k] = s.links[k].raise .membership :=
  (s.modMember c fun _ => m).raise_links_get _ k

theorem State.modMember_sameButMembers (c : Chan) (f : Member → Member) (s : State) :
    s.sameButMembers (s.modMember c f) := rfl

theorem State.modMember_members (c d : Chan) (f : Member → Member) (s : State) :
    (s.modMember c f).barrier.members[d] = if d = c then f s.barrier.members[c] else s.barrier.members[d] :=
  Vector.set_chan _ c d _

/-! ### R89: entering and leaving LIVE -/

theorem State.enterExit_of_enters {old : Vector Mode 6} {c : Chan} (h : s.isLive c = true) (h' : old[c] ≠ .live) :
    s.enterExit old c = s.setMembership c { membership := .excluded, candidate := false, late := some 0 } := by
  unfold State.enterExit
  rw [if_pos h, if_neg h']

theorem State.enterExit_of_leaves {old : Vector Mode 6} {c : Chan} (h : s.isLive c = false) (h' : old[c] = .live) :
    s.enterExit old c = s.setMembership c { membership := .none, candidate := false, late := none } := by
  unfold State.enterExit
  rw [if_neg (by simp [h]), if_pos h']

theorem State.enterExit_of_neither {old : Vector Mode 6} {c : Chan} (h : ¬ (s.isLive c = true ∧ old[c] ≠ .live))
    (h' : ¬ (s.isLive c = false ∧ old[c] = .live)) : s.enterExit old c = s := by
  unfold State.enterExit
  by_cases hl : s.isLive c = true
  · rw [if_pos hl, if_pos (by tauto)]
  · have hl' : s.isLive c = false := by simpa using hl
    rw [if_neg hl, if_neg (by tauto)]

theorem State.enterExit_sameButMembers (old : Vector Mode 6) (c : Chan) (s : State) :
    s.sameButMembers (s.enterExit old c) := by
  unfold State.enterExit
  split
  · split
    · rfl
    · exact s.setMembership_sameButMembers c _
  · split
    · exact s.setMembership_sameButMembers c _
    · rfl

theorem State.isLive_of_sameButMembers (h : s.sameButMembers t) (c : Chan) : t.isLive c = s.isLive c := by
  rw [State.sameButMembers] at h
  rw [h]
  rfl

/-- R89: what a channel's mode change makes of its membership. -/
theorem eachEnterExit_members (old : Vector Mode 6) (s : State) (c : Chan) :
    (eachChan (State.enterExit old) (List.finRange 6) s).barrier.members[c] =
      if s.isLive c = true ∧ old[c] ≠ .live then { membership := .excluded, candidate := false, late := some 0 }
      else if s.isLive c = false ∧ old[c] = .live then { membership := .none, candidate := false, late := none }
      else s.barrier.members[c] := by
  let g := fun (c : Chan) (s : State) => if s.isLive c = true ∧ old[c] ≠ .live then
      ({ membership := .excluded, candidate := false, late := some 0 } : Member)
    else if s.isLive c = false ∧ old[c] = .live then { membership := .none, candidate := false, late := none }
    else s.barrier.members[c]
  have hstep : ∀ c d (s : State), (s.enterExit old c).barrier.members[d] = if d = c then g c s else s.barrier.members[d] := by
    intro c d s
    by_cases h : s.isLive c = true ∧ old[c] ≠ .live
    · rw [State.enterExit_of_enters h.1 h.2, State.setMembership_members]
      simp only [g, if_pos h]
    · by_cases h' : s.isLive c = false ∧ old[c] = .live
      · rw [State.enterExit_of_leaves h'.1 h'.2, State.setMembership_members]
        simp only [g, if_neg h, if_pos h']
      · rw [State.enterExit_of_neither h h']
        simp only [g, if_neg h, if_neg h']
        split
        · next e => rw [e]
        · rfl
  have h := eachChan_at (fun s => s.barrier.members) g (f := State.enterExit old) (fun c s => by rw [hstep, if_pos rfl])
    (fun c d s hd => by rw [hstep, if_neg hd])
    (fun c d s hd => by
      simp only [g, State.isLive_of_sameButMembers (s.enterExit_sameButMembers old c), hstep, if_neg hd])
    (.inl (List.nodup_finRange 6)) s c
  rw [h, if_pos (List.mem_finRange c)]

theorem eachEnterExit_links (old : Vector Mode 6) (s : State) (k : LinkId)
    [Decidable (∃ c : Chan, (s.isLive c = true ∧ old[c] ≠ .live) ∨ s.isLive c = false ∧ old[c] = .live)] :
    (eachChan (State.enterExit old) (List.finRange 6) s).links[k] =
      if ∃ c : Chan, (s.isLive c = true ∧ old[c] ≠ .live) ∨ s.isLive c = false ∧ old[c] = .live
      then s.links[k].raise .membership else s.links[k] := by
  classical
  have h := eachChan_raises .membership (f := State.enterExit old)
    (fun c s => (s.isLive c = true ∧ old[c] ≠ .live) ∨ s.isLive c = false ∧ old[c] = .live)
    (fun c s k h => by
      obtain h | h := h
      · rw [State.enterExit_of_enters h.1 h.2, State.setMembership_links]
      · rw [State.enterExit_of_leaves h.1 h.2, State.setMembership_links])
    (fun c s h => by rw [State.enterExit_of_neither (fun e => h (.inl e)) (fun e => h (.inr e))])
    (fun c d s _ => by simp only [State.isLive_of_sameButMembers (s.enterExit_sameButMembers old c)])
    (.inl (List.nodup_finRange 6)) s k
  simpa [-Fin.getElem_fin] using h

theorem eachEnterExit_same (old : Vector Mode 6) (s : State) :
    s.sameButMembers (eachChan (State.enterExit old) (List.finRange 6) s) :=
  State.sameButMembers_of_eachChan (State.enterExit_sameButMembers old) _ s

/-! ### R90: the opening test -/

/-- R90: why a JOINED channel is excluded at the opening. -/
abbrev State.opens (s : State) (c : Chan) : Prop :=
  s.isJoined c = true ∧ ((s.slots c).marked = true ∨
    s.barrier.limit ≠ 0 ∧ s.barrier.limit ≤ (s.barrier.members[c].late).getD 0)

theorem limitReached_iff (limit : Nat) (count : Option Nat) :
    limitReached limit count = true ↔ limit ≠ 0 ∧ limit ≤ count.getD 0 := by
  simp [limitReached]

theorem State.openingTest_eq (c : Chan) (s : State) [Decidable (s.opens c)] :
    s.openingTest c = if s.opens c then s.exclude c else s := by
  unfold State.openingTest
  simp only [Bool.and_eq_true, Bool.or_eq_true, limitReached_iff]

theorem State.exclude_sameButMembers (c : Chan) (s : State) : s.sameButMembers (s.exclude c) := rfl

theorem State.exclude_members (c d : Chan) (s : State) :
    (s.exclude c).barrier.members[d] =
      if d = c then { s.barrier.members[c] with membership := .excluded, candidate := false } else s.barrier.members[d] :=
  State.setMembership_members c d _ s

theorem State.openingTest_sameButMembers (c : Chan) (s : State) : s.sameButMembers (s.openingTest c) := by
  classical
  rw [State.openingTest_eq]
  split
  · exact s.exclude_sameButMembers c
  · rfl

theorem State.opens_of_members (h : s.sameButMembers t) {c : Chan} (hm : t.barrier.members[c] = s.barrier.members[c]) :
    t.opens c ↔ s.opens c := by
  unfold State.opens State.isJoined
  rw [hm]
  rw [State.sameButMembers] at h
  rw [h]
  rfl

/-- A second test finds nothing more to do. -/
theorem State.not_opens_again (c : Chan) (s : State) : ¬ (s.openingTest c).opens c := by
  classical
  rw [State.openingTest_eq]
  split
  · rintro ⟨hj, -⟩
    rw [State.isJoined, State.exclude_members, if_pos rfl] at hj
    simp at hj
  · assumption

theorem eachOpeningTest_members (cs : List Chan) (s : State) (c : Chan) [Decidable (c ∈ cs ∧ s.opens c)] :
    (eachChan State.openingTest cs s).barrier.members[c] =
      if c ∈ cs ∧ s.opens c then { s.barrier.members[c] with membership := .excluded, candidate := false }
      else s.barrier.members[c] := by
  classical
  let g := fun (c : Chan) (s : State) => if s.opens c then
      { s.barrier.members[c] with membership := .excluded, candidate := false } else s.barrier.members[c]
  have hstep : ∀ c d (s : State), (s.openingTest c).barrier.members[d] = if d = c then g c s else s.barrier.members[d] := by
    intro c d s
    rw [State.openingTest_eq]
    by_cases h : s.opens c
    · rw [if_pos h, State.exclude_members]
      simp only [g, if_pos h]
    · simp only [g, if_neg h]
      split
      · next e => rw [e]
      · rfl
  have h := eachChan_at (fun s => s.barrier.members) g (f := State.openingTest) (fun c s => by rw [hstep, if_pos rfl])
    (fun c d s hd => by rw [hstep, if_neg hd])
    (fun c d s hd => by
      have hm : (s.openingTest c).barrier.members[d] = s.barrier.members[d] := by rw [hstep, if_neg hd]
      simp only [g, State.opens_of_members (s.openingTest_sameButMembers c) hm, hm])
    (.inr fun c s => (if_neg (s.not_opens_again c)).trans (by rw [hstep, if_pos rfl])) (cs := cs) s c
  rw [h]
  by_cases hc : c ∈ cs <;> by_cases ho : s.opens c <;> simp [g, hc, ho]

theorem eachOpeningTest_links (cs : List Chan) (s : State) (k : LinkId) [Decidable (∃ c : Chan, c ∈ cs ∧ s.opens c)] :
    (eachChan State.openingTest cs s).links[k] =
      if ∃ c : Chan, c ∈ cs ∧ s.opens c then s.links[k].raise .membership else s.links[k] := by
  classical
  exact eachChan_raises .membership (f := State.openingTest) (fun c s => s.opens c)
    (fun c s k h => by rw [State.openingTest_eq, if_pos h]; exact State.setMembership_links c _ s k)
    (fun c s h => by rw [State.openingTest_eq, if_neg h])
    (fun c d s hd => State.opens_of_members (s.openingTest_sameButMembers c) (by
      rw [State.openingTest_eq]
      split
      · rw [State.exclude_members, if_neg hd]
      · rfl)) (.inr fun c s _ => s.not_opens_again c) s k

theorem eachOpeningTest_same (cs : List Chan) (s : State) : s.sameButMembers (eachChan State.openingTest cs s) :=
  State.sameButMembers_of_eachChan State.openingTest_sameButMembers _ s

/-! ### R91: a set swaps -/

/-- The state `t` is `s` but for Capture and the members of the Barrier. -/
def State.sameButSlots (s t : State) : Prop :=
  t = { s with capture := t.capture, barrier := { s.barrier with members := t.barrier.members } }

theorem State.sameButSlots_trans {s t u : State} (h : s.sameButSlots t) (h' : t.sameButSlots u) : s.sameButSlots u := by
  unfold State.sameButSlots at *
  rw [h', h]

theorem State.modSlots_capture (c d : Chan) (f : Slots → Slots) (s : State) :
    (s.modSlots c f).capture[d] = if d = c then { s.capture[c] with slots := f s.capture[c].slots } else s.capture[d] :=
  Vector.set_chan _ c d _

theorem State.modSlots_slots (c d : Chan) (f : Slots → Slots) (s : State) :
    (s.modSlots c f).slots d = if d = c then f (s.slots c) else s.slots d := by
  unfold State.slots
  rw [State.modSlots_capture]
  split <;> rfl

/-- R91: what a swap does for one channel. -/
def State.swapChan (n : Word32) (c : Chan) (s : State) : State :=
  (s.modSlots c (Slots.swapTo n)).modMember c fun m => { m with late := some 0 }

theorem State.swapChan_sameButSlots (n : Word32) (c : Chan) (s : State) : s.sameButSlots (s.swapChan n c) := rfl

theorem State.swapSet_eq (n : Word32) (cs : List Chan) (s : State) :
    s.swapSet n cs = (eachChan (State.swapChan n) cs s).modBarrier fun b => { b with frame := some n } := rfl

theorem eachSwap_sameButSlots (n : Word32) (cs : List Chan) (s : State) :
    s.sameButSlots (eachChan (State.swapChan n) cs s) :=
  eachChan_keeps (P := s.sameButSlots) (fun c _ hu => State.sameButSlots_trans hu (State.swapChan_sameButSlots n c _)) cs rfl

theorem State.swapSet_members (n : Word32) {cs : List Chan} (hcs : cs.Nodup) (s : State) (c : Chan) :
    (s.swapSet n cs).barrier.members[c] =
      if c ∈ cs then { s.barrier.members[c] with late := some 0 } else s.barrier.members[c] := by
  rw [State.swapSet_eq]
  exact eachChan_at (fun s => s.barrier.members) (fun c s => { s.barrier.members[c] with late := some 0 })
    (f := State.swapChan n) (fun c s => by rw [State.swapChan, State.modMember_members, if_pos rfl]; rfl)
    (fun c d s hd => by rw [State.swapChan, State.modMember_members, if_neg hd]; rfl)
    (fun c d s hd => by rw [State.swapChan, State.modMember_members, if_neg hd]; rfl) (.inl hcs) s c

theorem State.swapSet_capture (n : Word32) {cs : List Chan} (hcs : cs.Nodup) (s : State) (c : Chan) :
    (s.swapSet n cs).capture[c] =
      if c ∈ cs then { s.capture[c] with slots := (s.slots c).swapTo n } else s.capture[c] := by
  rw [State.swapSet_eq]
  exact eachChan_at (fun s => s.capture) (fun c s => { s.capture[c] with slots := (s.slots c).swapTo n })
    (f := State.swapChan n)
    (fun c s => by rw [State.swapChan, State.modMember_capture, State.modSlots_capture, if_pos rfl]; rfl)
    (fun c d s hd => by rw [State.swapChan, State.modMember_capture, State.modSlots_capture, if_neg hd])
    (fun c d s hd => by
      simp only [State.slots, State.swapChan, State.modMember_capture, State.modSlots_capture, if_neg hd]) (.inl hcs) s c

theorem State.swapSet_frame (n : Word32) (cs : List Chan) (s : State) : (s.swapSet n cs).barrier.frame = some n := rfl

/-- A swap changes Capture and the Barrier's members and frame, and nothing else. -/
theorem State.swapSet_same (n : Word32) (cs : List Chan) (s : State) :
    s.swapSet n cs = { s with
      capture := (s.swapSet n cs).capture
      barrier := { s.barrier with members := (s.swapSet n cs).barrier.members, frame := some n } } := by
  have h := eachSwap_sameButSlots n cs s
  unfold State.sameButSlots at h
  rw [State.swapSet_eq]
  conv_lhs => rw [h]
  rfl

/-! ### R92, R93: lateness -/

/-- R92: a late count that has risen by 1, stopped at 255. -/
def Member.bumped (m : Member) : Nat := min 255 (m.late.getD 0 + 1)

/-- R92: a member's count rises. -/
def State.bump (c : Chan) (s : State) : State := s.modMember c fun m => { m with late := some m.bumped }

theorem State.countLate_of_holds {lead : Word32} {out : Chan → State → State} {c : Chan}
    (h : (s.slots c).holdsReady lead = true) : s.countLate lead out c = s := if_pos h

/-- R92: a member that lacks the lead number is late once more. -/
theorem State.countLate_of_lacks {lead : Word32} {out : Chan → State → State} {c : Chan}
    (h : (s.slots c).holdsReady lead = false) :
    s.countLate lead out c =
      if s.barrier.limit ≠ 0 ∧ s.barrier.limit ≤ s.barrier.members[c].bumped then out c (s.bump c) else s.bump c := by
  unfold State.countLate
  rw [if_neg (by simp [h])]
  have bumped : (s.bump c).barrier.members[c].late = some s.barrier.members[c].bumped := by
    rw [State.bump, State.modMember_members, if_pos rfl]
  show (if limitReached (s.bump c).barrier.limit (s.bump c).barrier.members[c].late then _ else _) = _
  simp only [limitReached_iff, bumped, Option.getD_some]
  rfl

end Sys2Proof.Machine
end

section
/-! The common frame and the lead number (R88), lateness over a set (R92, R93), and the two statements about a barrier
decision. -/

namespace Sys2Proof.Machine

variable {s t : State}

/-! ### R88: the common frame and the lead number -/

theorem newerThanB_iff (b : Option Word32) (n : Word32) : newerThanB b n = true ↔ ∀ m, b = some m → newer n m = true := by
  cases b <;> simp [newerThanB]

/-- In one half of the circle the newest of a list is newer than every other member. -/
theorem newestOf_newest {l : List Word32} {n base : Word32} (h : newestOf l = some n)
    (hl : ∀ m ∈ l, (m - base).toNat < 2 ^ 31) {m : Word32} (hm : m ∈ l) : m = n ∨ newer n m = true := by
  have := (newerEq_iff n m).1 ((newerEq_iff_offset_le (hl n (newestOf_mem h)) (hl m hm)).2 (newestOf_offset_ge hl h m hm))
  tauto

/-- R88: the frame numbers that a set has in common. -/
theorem State.mem_common {c : Chan} {rest : List Chan} {n : Word32} :
    n ∈ ((s.slots c).readyFrames.filter fun n =>
      newerThanB s.barrier.frame n && rest.all fun x => (s.slots x).holdsReady n) ↔
    (∀ b, s.barrier.frame = some b → newer n b = true) ∧ ∀ x ∈ c :: rest, (s.slots x).holdsReady n = true := by
  simp only [List.mem_filter, Bool.and_eq_true, newerThanB_iff, List.all_eq_true, List.forall_mem_cons, Slots.holdsReady,
    decide_eq_true_iff]
  tauto

theorem State.commonFrame_some {cs : List Chan} {n : Word32} (h : s.commonFrame cs = some n) :
    cs ≠ [] ∧ (∀ b, s.barrier.frame = some b → newer n b = true) ∧ (∀ x ∈ cs, (s.slots x).holdsReady n = true) ∧
      ∀ base : Word32,
        (∀ m, ((∀ b, s.barrier.frame = some b → newer m b = true) ∧ ∀ x ∈ cs, (s.slots x).holdsReady m = true) →
          (m - base).toNat < 2 ^ 31) →
        ∀ m, ((∀ b, s.barrier.frame = some b → newer m b = true) ∧ ∀ x ∈ cs, (s.slots x).holdsReady m = true) →
          m = n ∨ newer n m = true := by
  cases cs with
  | nil => cases h
  | cons c rest =>
    obtain ⟨later, holds⟩ := State.mem_common.1 (newestOf_mem h)
    exact ⟨List.cons_ne_nil _ _, later, holds, fun base hb m hm =>
      newestOf_newest h (fun m hm => hb m (State.mem_common.1 hm)) (State.mem_common.2 hm)⟩

theorem State.commonFrame_none {c : Chan} {rest : List Chan} {n : Word32} (h : s.commonFrame (c :: rest) = none)
    (later : ∀ b, s.barrier.frame = some b → newer n b = true) : ¬ ∀ x ∈ c :: rest, (s.slots x).holdsReady n = true := by
  intro holds
  have hmem := State.mem_common.2 ⟨later, holds⟩
  rw [(newestOf_eq_none_iff _).1 h] at hmem
  cases hmem

/-- R88: the frame numbers newer than B that a set holds. -/
theorem State.mem_held {cs : List Chan} {n : Word32} :
    n ∈ (cs.flatMap fun c => (s.slots c).readyFrames.filter (newerThanB s.barrier.frame)) ↔
    (∀ b, s.barrier.frame = some b → newer n b = true) ∧ ∃ c ∈ cs, (s.slots c).holdsReady n = true := by
  simp only [List.mem_flatMap, List.mem_filter, newerThanB_iff, Slots.holdsReady, decide_eq_true_iff]
  tauto

theorem State.leadNumber_some {cs : List Chan} {n : Word32} (h : s.leadNumber cs = some n) :
    ((∀ b, s.barrier.frame = some b → newer n b = true) ∧ ∃ c ∈ cs, (s.slots c).holdsReady n = true) ∧
      ∀ base : Word32,
        (∀ m, ((∀ b, s.barrier.frame = some b → newer m b = true) ∧ ∃ c ∈ cs, (s.slots c).holdsReady m = true) →
          (m - base).toNat < 2 ^ 31) →
        ∀ m, ((∀ b, s.barrier.frame = some b → newer m b = true) ∧ ∃ c ∈ cs, (s.slots c).holdsReady m = true) →
          m = n ∨ newer n m = true :=
  ⟨State.mem_held.1 (newestOf_mem h), fun _ hb _ hm =>
    newestOf_newest h (fun m hm => hb m (State.mem_held.1 hm)) (State.mem_held.2 hm)⟩

theorem State.leadNumber_none {cs : List Chan} (h : s.leadNumber cs = none) (n : Word32) :
    ¬ ((∀ b, s.barrier.frame = some b → newer n b = true) ∧ ∃ c ∈ cs, (s.slots c).holdsReady n = true) := by
  intro held
  have hmem := State.mem_held.2 held
  rw [(newestOf_eq_none_iff _).1 h] at hmem
  cases hmem

/-! ### R91: a READY frame shown, slot by slot -/

theorem Slots.swapTo_spec {v : Slots} {n : Word32} (h : v.holdsReady n = true) :
    ∃ i w ht, v[i] = .ready n w ht ∧ (v.swapTo n)[i] = .showing n w ht false ∧
      ∀ j : SlotIx, j ≠ i → (v.swapTo n)[j] =
        match v[j] with
        | .ready m w' h' => if newer n m then .free else .ready m w' h'
        | .showing _ _ _ _ => .free
        | r => r := by
  obtain ⟨i, hi⟩ := Slots.readyIx_isSome h
  obtain ⟨w, ht, hr⟩ := Slots.readyIx_some hi
  refine ⟨i, w, ht, hr, ?_, fun j hj => ?_⟩
  · rw [Slots.swapTo, Slots.show_of_ix hi, Slots.getElem_each, hr]
    simp [SlotRec.shownAt]
  · rw [Slots.swapTo, Slots.show_of_ix hi, Slots.getElem_each]
    cases v[j] <;> simp [SlotRec.shownAt, hj]

theorem Slots.runFreeTo_spec {v : Slots} {n : Word32} (h : v.holdsReady n = true) :
    ∃ i w ht, v[i] = .ready n w ht ∧ (v.runFreeTo n)[i] = .showing n w ht false ∧
      ∀ j : SlotIx, j ≠ i → (v.runFreeTo n)[j] =
        match v[j] with
        | .filling n' w' h' l => .filling n' w' h' l
        | _ => .free := by
  obtain ⟨i, hi⟩ := Slots.readyIx_isSome h
  obtain ⟨w, ht, hr⟩ := Slots.readyIx_some hi
  refine ⟨i, w, ht, hr, ?_, fun j hj => ?_⟩
  · rw [Slots.runFreeTo, Slots.show_of_ix hi, Slots.getElem_each, hr]
    simp [SlotRec.shownAt]
  · rw [Slots.runFreeTo, Slots.show_of_ix hi, Slots.getElem_each]
    cases v[j] <;> simp [SlotRec.shownAt, hj]

/-! ### R92, R93: lateness over a set -/

/-- R92, R93: a member that is late once more; `out` is what a count that reaches the limit makes of it. -/
def Member.later (limit : Nat) (out : Member → Member) (m : Member) : Member :=
  if limit ≠ 0 ∧ limit ≤ m.bumped then out { m with late := some m.bumped } else { m with late := some m.bumped }

/-- What is done to a channel whose count reaches the limit: its own member changes, and only members and links do. -/
structure OutStep (out : Chan → State → State) (o : Member → Member) : Prop where
  members : ∀ (c d : Chan) s,
    (out c s).barrier.members[d] = if d = c then o s.barrier.members[c] else s.barrier.members[d]
  same : ∀ c s, State.sameButMembers s (out c s)

theorem outStep_exclude :
    OutStep State.exclude fun m => { m with membership := .excluded, candidate := false } :=
  ⟨fun c d s => State.exclude_members c d s, fun c s => s.exclude_sameButMembers c⟩

theorem outStep_loseCandidacy : OutStep State.loseCandidacy fun m => { m with candidate := false } :=
  ⟨fun c d s => State.modMember_members c d _ s, fun _ _ => rfl⟩

section
variable {out : Chan → State → State} {o : Member → Member}

theorem OutStep.countLate_members (ho : OutStep out o) (lead : Word32) (c d : Chan) (s : State) :
    (s.countLate lead out c).barrier.members[d] =
      if d = c ∧ (s.slots c).holdsReady lead = false then s.barrier.members[c].later s.barrier.limit o
      else s.barrier.members[d] := by
  by_cases h : (s.slots c).holdsReady lead = true
  · rw [State.countLate_of_holds h, if_neg (by simp [h])]
  · have h' : (s.slots c).holdsReady lead = false := by simpa using h
    rw [State.countLate_of_lacks h']
    simp only [h', and_true, Member.later, State.bump]
    split
    · simp only [ho.members, State.modMember_members, if_true]
      split
      · rfl
      · rfl
    · rw [State.modMember_members]

theorem OutStep.countLate_same (ho : OutStep out o) (lead : Word32) (c : Chan) (s : State) :
    s.sameButMembers (s.countLate lead out c) := by
  unfold State.countLate
  split
  · rfl
  · simp only
    split
    · exact State.sameButMembers_trans (s.modMember_sameButMembers c _) (ho.same c _)
    · rfl

theorem OutStep.countLateness_same (ho : OutStep out o) (cs : List Chan) (s : State) :
    s.sameButMembers (s.countLateness out cs) := by
  unfold State.countLateness
  split
  · exact State.sameButMembers_of_eachChan (fun c s => ho.countLate_same _ c s) cs s
  · rfl

theorem State.limit_of_sameButMembers (h : s.sameButMembers t) : t.barrier.limit = s.barrier.limit := by
  rw [State.sameButMembers] at h
  rw [h]

theorem State.slots_of_sameButMembers (h : s.sameButMembers t) (c : Chan) : t.slots c = s.slots c := by
  rw [State.sameButMembers] at h
  rw [h]
  rfl

theorem State.countLateness_of_lead {cs : List Chan} {lead : Word32} (h : s.leadNumber cs = some lead) :
    s.countLateness out cs = eachChan (State.countLate lead out) cs s := by
  rw [State.countLateness, h]

theorem State.countLateness_of_none {cs : List Chan} (h : s.leadNumber cs = none) : s.countLateness out cs = s := by
  rw [State.countLateness, h]

theorem OutStep.eachCountLate_members (ho : OutStep out o) (lead : Word32) {cs : List Chan} (hcs : cs.Nodup) (s : State)
    (c : Chan) :
    (eachChan (State.countLate lead out) cs s).barrier.members[c] =
      if c ∈ cs then
        if (s.slots c).holdsReady lead = false then s.barrier.members[c].later s.barrier.limit o else s.barrier.members[c]
      else s.barrier.members[c] :=
  eachChan_at (fun s => s.barrier.members)
    (fun c s => if (s.slots c).holdsReady lead = false then s.barrier.members[c].later s.barrier.limit o
      else s.barrier.members[c])
    (fun c s => by rw [ho.countLate_members]; simp)
    (fun c d s hd => by rw [ho.countLate_members, if_neg (fun e => hd e.1)])
    (fun c d s hd => by
      have hm : (s.countLate lead out c).barrier.members[d] = s.barrier.members[d] := by
        rw [ho.countLate_members, if_neg (fun e => hd e.1)]
      simp only [State.slots_of_sameButMembers (ho.countLate_same lead c s),
        State.limit_of_sameButMembers (ho.countLate_same lead c s), hm]) (.inl hcs) s c

/-- R92, R93: a member that lacks the lead number of its set is late once more. -/
theorem OutStep.countLateness_behind (ho : OutStep out o) {cs : List Chan} (hcs : cs.Nodup) {c : Chan} (hc : c ∈ cs)
    {n : Word32} (lead : s.leadNumber cs = some n) (lacks : (s.slots c).holdsReady n = false) :
    (s.countLateness out cs).barrier.members[c] = s.barrier.members[c].later s.barrier.limit o := by
  rw [State.countLateness_of_lead lead, ho.eachCountLate_members n hcs, if_pos hc, if_pos lacks]

/-- R92, R93: every other member keeps its count. -/
theorem OutStep.countLateness_not_behind (ho : OutStep out o) {cs : List Chan} (hcs : cs.Nodup) {c : Chan}
    (h : ¬ (c ∈ cs ∧ ∃ n, s.leadNumber cs = some n ∧ (s.slots c).holdsReady n = false)) :
    (s.countLateness out cs).barrier.members[c] = s.barrier.members[c] := by
  cases hlead : s.leadNumber cs with
  | none => rw [State.countLateness_of_none hlead]
  | some lead =>
    rw [State.countLateness_of_lead hlead, ho.eachCountLate_members lead hcs]
    split
    · next hc => exact if_neg fun lacks => h ⟨hc, lead, hlead, lacks⟩
    · rfl

end

/-- R92: a member that is excluded brings MEMBERSHIP on every link. -/
theorem State.countLate_exclude_links {lead : Word32} {c : Chan} (k : LinkId)
    (h : (s.slots c).holdsReady lead = false ∧ s.barrier.limit ≠ 0 ∧ s.barrier.limit ≤ s.barrier.members[c].bumped) :
    (s.countLate lead State.exclude c).links[k] = s.links[k].raise .membership := by
  rw [State.countLate_of_lacks h.1, if_pos h.2]
  exact State.setMembership_links c _ _ k

theorem State.countLate_exclude_quiet {lead : Word32} {c : Chan}
    (h : ¬ ((s.slots c).holdsReady lead = false ∧ s.barrier.limit ≠ 0 ∧ s.barrier.limit ≤ s.barrier.members[c].bumped)) :
    (s.countLate lead State.exclude c).links = s.links := by
  by_cases hr : (s.slots c).holdsReady lead = true
  · rw [State.countLate_of_holds hr]
  · have hr' : (s.slots c).holdsReady lead = false := by simpa using hr
    rw [State.countLate_of_lacks hr', if_neg (fun e => h ⟨hr', e⟩)]
    rfl

theorem countLateness_exclude_links {cs : List Chan} (hcs : cs.Nodup) (s : State) {c : Chan} (hc : c ∈ cs) {n : Word32}
    (lead : s.leadNumber cs = some n) (lacks : (s.slots c).holdsReady n = false) (limited : s.barrier.limit ≠ 0)
    (reached : s.barrier.limit ≤ s.barrier.members[c].bumped) (k : LinkId) :
    (s.countLateness State.exclude cs).links[k] = s.links[k].raise .membership := by
  classical
  unfold State.countLateness
  rw [lead]
  refine (eachChan_raises .membership (f := State.countLate n State.exclude)
    (fun c s => (s.slots c).holdsReady n = false ∧ s.barrier.limit ≠ 0 ∧ s.barrier.limit ≤ s.barrier.members[c].bumped)
    (fun c s k h => State.countLate_exclude_links k h) (fun c s h => State.countLate_exclude_quiet h) (fun c d s hd => ?_)
    (.inl hcs) s k).trans (if_pos ⟨c, hc, lacks, limited, reached⟩)
  have hm := outStep_exclude.countLate_members n c d s
  rw [if_neg (fun e => hd e.1)] at hm
  rw [hm, State.slots_of_sameButMembers (outStep_exclude.countLate_same n c s),
    State.limit_of_sameButMembers (outStep_exclude.countLate_same n c s)]

theorem countLateness_loseCandidacy_links (cs : List Chan) (s : State) :
    (s.countLateness State.loseCandidacy cs).links = s.links := by
  unfold State.countLateness
  split
  · refine eachChan_keeps (P := fun u => u.links = s.links) (fun c u hu => ?_) cs rfl
    rw [← hu]
    unfold State.countLate
    split
    · rfl
    · simp only
      split <;> rfl
  · rfl

/-! ### R93: the channels of a readmission round join -/

theorem State.join_members (c d : Chan) (s : State) :
    (s.join c).barrier.members[d] =
      if d = c then { membership := .joined, candidate := false, late := some 0 } else s.barrier.members[d] :=
  State.setMembership_members c d _ s

theorem State.join_sameButMembers (c : Chan) (s : State) : s.sameButMembers (s.join c) := rfl

theorem joins_members {cs : List Chan} (hcs : cs.Nodup) (s : State) (c : Chan) :
    (eachChan State.join cs s).barrier.members[c] =
      if c ∈ cs then { membership := .joined, candidate := false, late := some 0 } else s.barrier.members[c] :=
  eachChan_at (fun s => s.barrier.members) (fun _ _ => { membership := .joined, candidate := false, late := some 0 })
    (fun c s => by rw [State.join_members, if_pos rfl]) (fun c d s hd => by rw [State.join_members, if_neg hd])
    (fun _ _ _ _ => rfl) (.inl hcs) s c

theorem joins_links {cs : List Chan} (hcs : cs.Nodup) (hne : cs ≠ []) (s : State) (k : LinkId) :
    (eachChan State.join cs s).links[k] = s.links[k].raise .membership := by
  classical
  obtain ⟨c, hc⟩ := List.exists_mem_of_ne_nil cs hne
  exact (eachChan_raises .membership (f := State.join) (fun _ _ => True) (fun c s k _ => State.setMembership_links c _ s k)
    (fun _ _ h => absurd trivial h) (fun _ _ _ _ => Iff.rfl) (.inl hcs) s k).trans (if_pos ⟨c, hc, trivial⟩)

theorem joins_sameButMembers (cs : List Chan) (s : State) : s.sameButMembers (eachChan State.join cs s) :=
  State.sameButMembers_of_eachChan State.join_sameButMembers cs s

/-! ### The two stages of a set -/

theorem State.joinedStage_some {cs : List Chan} {n : Word32} (h : s.commonFrame cs = some n) :
    s.joinedStage cs = (s.swapSet n cs, some n) := by
  unfold State.joinedStage
  rw [h]

theorem State.joinedStage_none {cs : List Chan} (h : s.commonFrame cs = none) :
    s.joinedStage cs = (s.countLateness State.exclude cs, none) := by
  unfold State.joinedStage
  rw [h]

theorem State.readmissionRound_some {cs : List Chan} {n : Word32} (h : s.commonFrame cs = some n) :
    s.readmissionRound cs = (eachChan State.join cs (s.swapSet n cs), some n) := by
  unfold State.readmissionRound
  rw [h]

theorem State.readmissionRound_none {cs : List Chan} (h : s.commonFrame cs = none) :
    s.readmissionRound cs = (s.countLateness State.loseCandidacy cs, none) := by
  unfold State.readmissionRound
  rw [h]

/-- Settles O40: the common frame and the lead number as picks among what the set holds, then each stage channel by
channel, with and without a common frame. -/
theorem theJoinedSetSwapsOrCountsLateness : Obligations.TheJoinedSetSwapsOrCountsLateness := by
  classical
  intro s cs hcs
  refine ⟨fun n h => ?_, fun n h => ?_, fun h n => State.leadNumber_none h n, fun n h => ?swap, fun h => ?late,
    fun n h => ?round, fun h => ?roundLate⟩
  · obtain ⟨-, later, holds, newest⟩ := State.commonFrame_some h
    exact ⟨⟨later, holds⟩, newest⟩
  · exact State.leadNumber_some h
  case swap =>
    obtain ⟨hne, later, holds, -⟩ := State.commonFrame_some h
    simp only [State.joinedStage_some h]
    refine ⟨hne, later, holds, trivial, rfl, fun c hc => ⟨?_, ?_⟩, fun c hc => ⟨?_, ?_⟩, ?_⟩
    · rw [State.swapSet_members n hcs, if_pos hc]
    · have hslots : (s.swapSet n cs).slots c = (s.slots c).swapTo n := by
        unfold State.slots
        rw [State.swapSet_capture n hcs, if_pos hc]
        rfl
      have hspec := Slots.swapTo_spec (holds c hc)
      rw [← hslots] at hspec
      exact hspec
    · rw [State.swapSet_capture n hcs, if_neg hc]
    · rw [State.swapSet_members n hcs, if_neg hc]
    · have hsame := State.swapSet_same n cs s
      rw [hsame]
  case late =>
    have hsame := outStep_exclude.countLateness_same cs s
    simp only [State.joinedStage_none h]
    refine ⟨fun c rest n e later => by subst e; exact State.commonFrame_none h later, trivial, ?_, ?_, fun c => ⟨?_, ?_, ?_⟩⟩
    · rw [hsame]
    · rw [hsame]
    · intro hb
      exact outStep_exclude.countLateness_not_behind hcs hb
    · rintro ⟨hc, n, lead, lacks⟩ hl
      rw [outStep_exclude.countLateness_behind hcs hc lead lacks, Member.later, if_neg]
      · rfl
      · rintro ⟨h0, h1⟩
        simp only [Member.bumped] at h1
        omega
    · rintro ⟨hc, n, lead, lacks⟩ h0 h1
      refine ⟨?_, fun k => ?_⟩
      · rw [outStep_exclude.countLateness_behind hcs hc lead lacks, Member.later, if_pos ⟨h0, h1⟩]
        rfl
      · exact countLateness_exclude_links hcs s hc lead lacks h0 h1 k
  case round =>
    obtain ⟨hne, -⟩ := State.commonFrame_some h
    have hsame := joins_sameButMembers cs (s.swapSet n cs)
    simp only [State.readmissionRound_some h, State.joinedStage_some h]
    refine ⟨trivial, ?_, ?_, fun c => ?_, fun k => ?_, ?_⟩
    · rw [hsame]; rfl
    · rw [hsame]
    · rw [joins_members hcs]
      split
      · rfl
      · next hc => rw [State.swapSet_members n hcs, if_neg hc]
    · rw [joins_links hcs hne, State.swapSet_same n cs s]
    · rw [hsame, State.swapSet_same n cs s]
  case roundLate =>
    have hsame := outStep_loseCandidacy.countLateness_same cs s
    simp only [State.readmissionRound_none h]
    refine ⟨trivial, ?_, fun c => ⟨fun hb => ?_, fun hb => ?_⟩⟩
    · rw [State.sameButMembers, countLateness_loseCandidacy_links] at hsame
      exact hsame
    · exact outStep_loseCandidacy.countLateness_not_behind hcs hb
    · obtain ⟨hc, n, lead, lacks⟩ := hb
      rw [outStep_loseCandidacy.countLateness_behind hcs hc lead lacks, Member.later]
      by_cases hl : s.barrier.limit ≠ 0 ∧ s.barrier.limit ≤ s.barrier.members[c].bumped
      · rw [if_pos hl]
        exact congrArg (fun x => ({ s.barrier.members[c] with late := some _, candidate := x } : Member)) (if_pos hl).symm
      · rw [if_neg hl]
        exact congrArg (fun x => ({ s.barrier.members[c] with late := some _, candidate := x } : Member)) (if_neg hl).symm

end Sys2Proof.Machine
end

section
/-! The rest of a barrier decision: EXCLUDED channels (R94, R95), the empty set (R96), the pending limit (R90) and the order
of the stages. -/

namespace Sys2Proof.Machine

variable {s t : State}

/-! ### R90: the pending limit -/

theorem State.applyLimit_of_none (h : s.barrier.pendingLimit = none) : s.applyLimit = s := by
  rw [State.applyLimit, h]

theorem State.applyLimit_no_request {v : Nat} (h : s.barrier.pendingLimit = some v) (h' : s.barrier.pendingReq = none) :
    s.applyLimit = { s with barrier := { s.barrier with limit := v, pendingLimit := none, pendingReq := none } } := by
  rw [State.applyLimit, h, h']
  rfl

theorem State.applyLimit_request {v : Nat} {k : LinkId} {tag : Byte} (h : s.barrier.pendingLimit = some v)
    (h' : s.barrier.pendingReq = some (k, tag)) :
    s.applyLimit = State.complete k tag .success []
      { s with barrier := { s.barrier with limit := v, pendingLimit := none, pendingReq := none } } := by
  rw [State.applyLimit, h, h']
  rfl

/-- The pending limit changes the limit and its request's link alone. -/
theorem State.applyLimit_same (s : State) :
    s.applyLimit.capture = s.capture ∧ s.applyLimit.pipes = s.pipes ∧ s.applyLimit.timebase = s.timebase ∧
      s.applyLimit.barrier.members = s.barrier.members ∧ s.applyLimit.barrier.frame = s.barrier.frame := by
  unfold State.applyLimit
  split
  · exact ⟨rfl, rfl, rfl, rfl, rfl⟩
  · simp only
    split <;> exact ⟨rfl, rfl, rfl, rfl, rfl⟩

/-! ### R95: running free -/

theorem State.runFree_of_newer {c : Chan} {n : Word32} (h : newestOf (s.slots c).readyFrames = some n)
    (h' : ∀ m, (s.slots c).shown = some m → newer n m = true) : s.runFree c = s.modSlots c (Slots.runFreeTo n) := by
  rw [State.runFree, h]
  cases hm : (s.slots c).shown with
  | none => rfl
  | some m => exact if_pos (h' m hm)

theorem State.runFree_of_none {c : Chan} (h : newestOf (s.slots c).readyFrames = none) : s.runFree c = s := by
  rw [State.runFree, h]

theorem State.runFree_of_older {c : Chan} {n m : Word32} (h : newestOf (s.slots c).readyFrames = some n)
    (h' : (s.slots c).shown = some m) (h'' : newer n m = false) : s.runFree c = s := by
  rw [State.runFree, h, h']
  exact if_neg (by simp [h''])

/-! ### R94, R95: an EXCLUDED channel -/

section
variable {anyJoined : Bool} {swapped : Option Word32} {skip : List Chan} {c : Chan}

theorem State.excludedStage_skipped (h : s.isExcluded c = false ∨ c ∈ skip) :
    s.excludedStage anyJoined swapped skip c = s := by
  unfold State.excludedStage
  refine if_neg ?_
  rw [Bool.and_eq_true, decide_eq_true_iff]
  rintro ⟨he, hs⟩
  obtain h | h := h
  · rw [h] at he; cases he
  · exact hs h

theorem State.excludedStage_holds {b : Word32} (he : s.isExcluded c = true) (hs : c ∉ skip) (hb : s.barrier.frame = some b)
    (holds : (s.slots c).holdsReady b = true) :
    s.excludedStage true swapped skip c = (s.modSlots c (Slots.swapTo b)).join c := by
  unfold State.excludedStage
  rw [if_pos (by simp [he, hs]), hb]
  exact if_pos holds

theorem State.excludedStage_reached {b : Word32} (he : s.isExcluded c = true) (hs : c ∉ skip) (hb : s.barrier.frame = some b)
    (lacks : (s.slots c).holdsReady b = false) (hsw : swapped = some b) (shown : (s.slots c).shown = some b) :
    s.excludedStage true swapped skip c = s.join c := by
  unfold State.excludedStage
  rw [if_pos (by simp [he, hs]), hb]
  simp only [lacks, Bool.false_eq_true, if_false]
  exact if_pos ⟨hsw, shown⟩

theorem State.excludedStage_free (he : s.isExcluded c = true) (hs : c ∉ skip)
    (h : anyJoined = false ∨ (¬ ∃ b, s.barrier.frame = some b ∧ (s.slots c).holdsReady b = true) ∧
      ¬ ∃ b, s.barrier.frame = some b ∧ swapped = some b ∧ (s.slots c).shown = some b) :
    s.excludedStage anyJoined swapped skip c = s.runFree c := by
  unfold State.excludedStage
  rw [if_pos (by simp [he, hs])]
  cases anyJoined with
  | false => rfl
  | true =>
    obtain h | ⟨holds, reached⟩ := h
    · cases h
    · cases hb : s.barrier.frame with
      | none => rfl
      | some b =>
        simp only
        rw [if_neg (fun e => holds ⟨b, hb, e⟩), if_neg (fun e => reached ⟨b, hb, e.1, e.2⟩)]

/-- R94, R95: the four things that an EXCLUDED channel's stage may do. -/
theorem State.excludedStage_cases (anyJoined : Bool) (swapped : Option Word32) (skip : List Chan) (c : Chan) (s : State) :
    s.excludedStage anyJoined swapped skip c = s ∨
    (s.isExcluded c = true ∧ ∃ b, s.barrier.frame = some b ∧
      ((s.slots c).holdsReady b = true ∧ s.excludedStage anyJoined swapped skip c = (s.modSlots c (Slots.swapTo b)).join c ∨
        (s.slots c).shown = some b ∧ s.excludedStage anyJoined swapped skip c = s.join c)) ∨
    (s.isExcluded c = true ∧ s.excludedStage anyJoined swapped skip c = s.runFree c) := by
  by_cases hskip : s.isExcluded c = false ∨ c ∈ skip
  · exact .inl (State.excludedStage_skipped hskip)
  · obtain ⟨he, hs⟩ : s.isExcluded c = true ∧ c ∉ skip := by simpa using hskip
    by_cases free : anyJoined = false ∨ (¬ ∃ b, s.barrier.frame = some b ∧ (s.slots c).holdsReady b = true) ∧
      ¬ ∃ b, s.barrier.frame = some b ∧ swapped = some b ∧ (s.slots c).shown = some b
    · exact .inr (.inr ⟨he, State.excludedStage_free he hs free⟩)
    · obtain ⟨hj, hor⟩ := not_or.1 free
      obtain rfl : anyJoined = true := by simpa using hj
      by_cases holds : ∃ b, s.barrier.frame = some b ∧ (s.slots c).holdsReady b = true
      · obtain ⟨b, hb, holds⟩ := holds
        exact .inr (.inl ⟨he, b, hb, .inl ⟨holds, State.excludedStage_holds he hs hb holds⟩⟩)
      · obtain ⟨b, hb, hsw, shown⟩ := not_not.1 fun hr => hor ⟨holds, hr⟩
        have lacks : (s.slots c).holdsReady b = false := by
          rw [← Bool.not_eq_true]
          exact fun h => holds ⟨b, hb, h⟩
        exact .inr (.inl ⟨he, b, hb, .inr ⟨shown, State.excludedStage_reached he hs hb lacks hsw shown⟩⟩)

end

/-! ### R96: no member left -/

theorem State.emptySet_of_members (h : ∃ c : Chan, s.isJoined c = true ∨ s.isCandidate c = true) : s.emptySet = s := by
  unfold State.emptySet
  refine if_pos ?_
  obtain ⟨c, hc⟩ := h
  exact List.any_eq_true.2 ⟨c, List.mem_finRange c, by simpa using hc⟩

theorem State.emptySet_of_no_members (h : ∀ c : Chan, s.isJoined c = false ∧ s.isCandidate c = false) :
    s.emptySet = eachChan (fun c s => s.modMember c fun m => { m with candidate := true, late := some 0 })
      (chansWhere s.isExcluded) s := by
  unfold State.emptySet
  refine if_neg ?_
  rw [List.any_eq_true]
  rintro ⟨c, -, hc⟩
  simp [h c] at hc

theorem mem_chansWhere {p : Chan → Bool} {c : Chan} : c ∈ chansWhere p ↔ p c = true := by
  simp [chansWhere, List.mem_finRange]

theorem chansWhere_nodup (p : Chan → Bool) : (chansWhere p).Nodup := (List.nodup_finRange 6).filter _

theorem State.emptySet_members (h : ∀ c : Chan, s.isJoined c = false ∧ s.isCandidate c = false) (c : Chan) :
    s.emptySet.barrier.members[c] =
      if s.isExcluded c then { s.barrier.members[c] with candidate := true, late := some 0 }
      else s.barrier.members[c] := by
  rw [State.emptySet_of_no_members h]
  refine (eachChan_at (fun s => s.barrier.members)
    (fun c s => { s.barrier.members[c] with candidate := true, late := some 0 })
    (fun c s => by rw [State.modMember_members, if_pos rfl]) (fun c d s hd => by rw [State.modMember_members, if_neg hd])
    (fun c d s hd => by simp only [State.modMember_members, if_neg hd]) (.inl (chansWhere_nodup _)) s c).trans ?_
  simp only [mem_chansWhere]

theorem State.emptySet_same (s : State) :
    s.emptySet = { s with barrier := { s.barrier with members := s.emptySet.barrier.members } } := by
  unfold State.emptySet
  split
  · rfl
  · exact eachChan_keeps (P := fun u => u = { s with barrier := { s.barrier with members := u.barrier.members } })
      (fun c u hu => by rw [hu]; rfl) _ rfl

/-! ### The order of the stages -/

theorem State.any_isLive (s : State) : (List.finRange 6).any s.isLive = true ↔ ∃ c, s.isLive c = true := by
  simp [List.mem_finRange]

theorem State.barrierDecision_of_dark (old : Vector Mode 6) (h : ∀ c : Chan, s.isLive c = false) :
    s.barrierDecision old =
      ((eachChan (State.enterExit old) (List.finRange 6) s).applyLimit.modBarrier fun b => { b with frame := none }, none) := by
  unfold State.barrierDecision
  refine if_neg ?_
  rw [State.any_isLive]
  rintro ⟨c, hc⟩
  rw [State.isLive_of_sameButMembers (eachEnterExit_same old s), h c] at hc
  cases hc

theorem State.barrierDecision_of_live (old : Vector Mode 6) (h : ∃ c : Chan, s.isLive c = true) :
    s.barrierDecision old = (eachChan (State.enterExit old) (List.finRange 6) s).decideLive := by
  unfold State.barrierDecision
  refine if_pos ?_
  rw [State.any_isLive]
  obtain ⟨c, hc⟩ := h
  exact ⟨c, by rwa [State.isLive_of_sameButMembers (eachEnterExit_same old s)]⟩

/-- R91, R93: the stage of the JOINED channels, or of the candidates where none is JOINED. -/
theorem State.swapStage_eq (s : State) :
    s.swapStage =
      if chansWhere s.isJoined ≠ [] then s.joinedStage (chansWhere s.isJoined)
      else if chansWhere s.isCandidate ≠ [] then s.readmissionRound (chansWhere s.isCandidate) else (s, none) := by
  unfold State.swapStage
  simp only [ne_eq, ite_not]

/-- R89 to R96: the stages of a decision with at least one LIVE channel, in order. -/
theorem State.decideLive_eq (s : State) :
    let o := eachChan State.openingTest (chansWhere s.isJoined) s.applyLimit
    let d := o.swapStage
    s.decideLive =
      ((eachChan (State.excludedStage ((List.finRange 6).any d.1.isJoined) d.2
        ((chansWhere s.isJoined).filter d.1.isExcluded)) (List.finRange 6) d.1).emptySet, d.2) := rfl

/-! ### What a rejoining channel leaves -/

theorem State.rejoin_spec (b : Word32) (c : Chan) (s : State) :
    let t := (s.modSlots c (Slots.swapTo b)).join c
    t.slots c = (s.slots c).swapTo b ∧
      t.barrier.members[c] = { membership := .joined, candidate := false, late := some 0 } ∧
      (∀ k : LinkId, t.links[k] = s.links[k].raise .membership) ∧
      (∀ x : Chan, x ≠ c → t.capture[x] = s.capture[x] ∧ t.barrier.members[x] = s.barrier.members[x]) ∧
      t.barrier.frame = s.barrier.frame := by
  refine ⟨?_, ?_, fun k => ?_, fun x hx => ⟨?_, ?_⟩, rfl⟩
  · exact (State.modSlots_slots c c _ s).trans (if_pos rfl)
  · exact (State.join_members c c _).trans (if_pos rfl)
  · exact State.setMembership_links c _ _ k
  · exact (State.modSlots_capture c x _ s).trans (if_neg hx)
  · exact (State.join_members c x _).trans (if_neg hx)

/-- R95: what a channel that runs free leaves. -/
theorem State.runFreeTo_spec {n : Word32} {c : Chan} (h : newestOf (s.slots c).readyFrames = some n) :
    let t := s.modSlots c (Slots.runFreeTo n)
    (∃ i w h, (s.slots c)[i] = .ready n w h ∧ (t.slots c)[i] = .showing n w h false ∧
      ∀ j : SlotIx, j ≠ i → (t.slots c)[j] =
        match (s.slots c)[j] with
        | .filling n' w' h' l => .filling n' w' h' l
        | _ => .free) ∧
    t = s.modCapture c fun cap => { cap with slots := t.slots c } := by
  intro t
  have hslots : t.slots c = (s.slots c).runFreeTo n := (State.modSlots_slots c c _ s).trans (if_pos rfl)
  have holds : (s.slots c).holdsReady n = true := by
    rw [Slots.holdsReady, decide_eq_true_iff]
    exact newestOf_mem h
  refine ⟨?_, ?_⟩
  · have hspec := Slots.runFreeTo_spec holds
    rw [← hslots] at hspec
    exact hspec
  · rw [hslots]
    rfl

/-- Settles O41, stage by stage: the opening channel by channel, the order of the stages, and the cases of an EXCLUDED
channel. -/
theorem excludedChannelsRejoinOrRunFree : Obligations.ExcludedChannelsRejoinOrRunFree := by
  intro s
  refine ⟨fun old => ?opening, fun joined => ?test, fun c anyJoined swapped skip => ⟨?skipped, fun he hs =>
    ⟨fun hj b hb holds => ?holds, fun hj holds reached => ?reached, fun free => ⟨fun n hn hnew => ?free, fun hn => ?stay,
      fun n m hn hm hold => ?stale⟩⟩⟩, State.emptySet_of_members,
    fun h => ⟨State.emptySet_members h, s.emptySet_same⟩⟩
  case opening =>
    have hsame := eachEnterExit_same old s
    have hmembers := eachEnterExit_members old s
    have hlinks := fun k => eachEnterExit_links old s k
    have hdark := State.barrierDecision_of_dark (s := s) old
    have hlive := State.barrierDecision_of_live (s := s) old
    generalize eachChan (State.enterExit old) (List.finRange 6) s = t at hsame hmembers hlinks hdark hlive ⊢
    have hlimit : t.barrier.pendingLimit = s.barrier.pendingLimit := by rw [hsame]
    have hreq : t.barrier.pendingReq = s.barrier.pendingReq := by rw [hsame]
    refine ⟨hmembers, hlinks, hsame, fun h => State.applyLimit_of_none (hlimit.trans h),
      fun v h => ⟨fun h' => State.applyLimit_no_request (hlimit.trans h) (hreq.trans h'),
        fun k tag h' => State.applyLimit_request (hlimit.trans h) (hreq.trans h')⟩, hdark, fun h => ?_⟩
    rw [hlive h, State.decideLive_eq, State.swapStage_eq]
    rfl
  case test => 
    exact ⟨fun c => eachOpeningTest_members joined s c, fun k => eachOpeningTest_links joined s k,
      eachOpeningTest_same joined s⟩
  case skipped => exact State.excludedStage_skipped
  case holds =>
    subst hj
    simp only [State.excludedStage_holds he hs hb holds]
    exact State.rejoin_spec b c s
  case reached =>
    subst hj
    obtain ⟨b, hb, hsw, shown⟩ := reached
    have lacks : (s.slots c).holdsReady b = false := by
      rw [← Bool.not_eq_true]
      exact fun h => holds ⟨b, hb, h⟩
    simp only [State.excludedStage_reached he hs hb lacks hsw shown]
    exact ⟨rfl, (State.join_members c c s).trans (if_pos rfl), fun k => State.setMembership_links c _ s k⟩
  case free =>
    rw [State.excludedStage_free he hs free, State.runFree_of_newer hn hnew]
    exact State.runFreeTo_spec hn
  case stay => rw [State.excludedStage_free he hs free, State.runFree_of_none hn]
  case stale => rw [State.excludedStage_free he hs free, State.runFree_of_older hn hm hold]

end Sys2Proof.Machine
end

section
/-! The laws of the frame slots and of membership (R67, R68, R82, R86, R103) through arrivals and through a tick. -/

namespace Sys2Proof.Machine

variable {σ : Scope} {s t : State}

/-! ### One channel's Capture or member changed -/

/-- A change of a Capture in mode `m` that keeps its laws and the frame that it shows. -/
structure Capture.Keeps (m : Mode) (cap cap' : Capture) : Prop where
  ok : cap.ok m → cap'.ok m
  shows : ∀ b, cap.slots.showsB b = true → cap'.slots.showsB b = true

theorem State.framesOk_modCapture {c : Chan} {f : Capture → Capture}
    (hf : Capture.Keeps s.pipes[c].mode s.capture[c] (f s.capture[c])) (h : s.framesOk) : (s.modCapture c f).framesOk := by
  intro d
  rw [State.modCapture_capture, Vector.set_chan]
  split
  · next e =>
    subst e
    obtain ⟨hcap, hnone, hlate, hcand, hjoined⟩ := h d
    exact ⟨hf.ok hcap, hnone, hlate, hcand, fun hj => hf.shows _ (hjoined hj)⟩
  · exact h d

theorem State.framesOk_modMember {c : Chan} {f : Member → Member}
    (hf : (f s.barrier.members[c]).ok s.barrier.frame s.pipes[c].mode s.capture[c].slots) (h : s.framesOk) :
    (s.modMember c f).framesOk := by
  intro d
  refine ⟨(h d).1, ?_⟩
  rw [State.modMember_members]
  split
  · next e => subst e; exact hf
  · exact (h d).2

theorem State.modCapture_moves {c : Chan} {f : Capture → Capture}
    (hf : Capture.Keeps s.pipes[c].mode s.capture[c] (f s.capture[c])) : Moves σ s (s.modCapture c f) :=
  .single (.intro (.frames (s.modCapture c f) (State.framesOk_modCapture hf) id) rfl)

/-- A change of the slots that keeps R68 and what they show, on a channel that captures. -/
theorem Capture.keeps_slots {m : Mode} {cap : Capture} {f : Slots → Slots} (hm : m.captures = true)
    (hok : cap.slots.ok → (f cap.slots).ok)
    (hshow : ∀ b, cap.slots.showsB b = true → (f cap.slots).showsB b = true) :
    Capture.Keeps m cap { cap with slots := f cap.slots } :=
  ⟨fun ⟨hs, hstale, _, hlimit⟩ => ⟨hok hs, hstale, fun h => absurd (hm.symm.trans h) (by decide), hlimit⟩, hshow⟩

/-- A change of the slots that keeps R68, what they show, and that all are FREE. -/
theorem Capture.keeps_slots_free {m : Mode} {cap : Capture} {f : Slots → Slots} (hfree : f Slots.allFree = Slots.allFree)
    (hok : cap.slots.ok → (f cap.slots).ok)
    (hshow : ∀ b, cap.slots.showsB b = true → (f cap.slots).showsB b = true) :
    Capture.Keeps m cap { cap with slots := f cap.slots } :=
  ⟨fun ⟨hs, hstale, hf, hlimit⟩ => ⟨hok hs, hstale, fun h => by rw [hf h]; exact hfree, hlimit⟩, hshow⟩

/-! ### Arrivals -/

theorem State.inputReason_moves (c : Chan) (r : InputReason) (s : State) : Moves σ s (s.inputReason c r) :=
  Moves.then_core (State.modCapture_moves ⟨fun h => h, fun _ h => h⟩) (State.raise_core _ _)

theorem Slots.freeFilling_allFree : Slots.freeFilling Slots.allFree = Slots.allFree := by decide

theorem Slots.freeReady_allFree : Slots.freeReady Slots.allFree = Slots.allFree := by decide

theorem State.failFill_moves (c : Chan) (r : InputReason) (s : State) : Moves σ s (s.failFill c r) :=
  .trans (b := s.modSlots c Slots.freeFilling)
    (State.modCapture_moves (Capture.keeps_slots_free Slots.freeFilling_allFree Slots.freeFilling_ok
      fun _ => Slots.freeFilling_showsB)) (State.inputReason_moves c r _)

theorem State.signalSeen_moves (c : Chan) (s : State) : Moves σ s (s.signalSeen c) := by
  have restart : Moves σ s (s.modCapture c fun cap =>
      { cap with signal := true, lossLimit := some (s.timebase.now + 2 * s.timebase.period) }) :=
    State.modCapture_moves ⟨fun ⟨hs, hstale, hfree, _⟩ => ⟨hs, hstale, hfree, by simp⟩, fun _ h => h⟩
  unfold State.signalSeen
  simp only
  split
  · exact restart
  · exact restart.then_core (State.raise_core _ _)

theorem State.signalLoss_moves (c : Chan) (s : State) : Moves σ s (s.signalLoss c) := by
  have lost : Moves σ s (s.modCapture c fun cap => { cap with signal := false, lossLimit := none }) :=
    State.modCapture_moves ⟨fun ⟨hs, hstale, hfree, _⟩ => ⟨hs, hstale, hfree, by simp⟩, fun _ h => h⟩
  unfold State.signalLoss
  simp only
  split
  · exact .trans (Moves.then_core lost (State.raise_core _ _)) (State.failFill_moves c .lost _)
  · exact Moves.then_core lost (State.raise_core _ _)

theorem State.passTime_moves (elapsed : Nat) (s : State) : Moves σ s (s.passTime elapsed) :=
  .single (.intro (.clock _ (.inr id)) rfl)

theorem State.sizeMatches_frameSizeOk {c : Chan} {w h : Nat} (hm : s.sizeMatches c w h = true) : frameSizeOk w h := by
  simp only [State.sizeMatches, Bool.and_eq_true, decide_eq_true_iff] at hm
  exact ⟨hm.1.2, hm.2⟩

/-- R77: a resync keeps R68 and what is shown. -/
theorem State.resync_moves (c : Chan) (s : State) (hm : s.pipes[c].mode.captures = true) : Moves σ s (s.resync c) :=
  .trans (b := s.modCapture c fun cap => { cap with slots := cap.slots.freeReady.mark, stale := 0 })
    (State.modCapture_moves
      ⟨fun ⟨hs, _, _, hlimit⟩ => ⟨Slots.mark_ok (Slots.freeReady_ok hs), Nat.zero_le _,
        fun h => absurd (hm.symm.trans h) (by decide), hlimit⟩, fun _ h => Slots.mark_showsB (Slots.freeReady_showsB h)⟩)
    (State.inputReason_moves c .resync _)

theorem State.resync_slots (c : Chan) (s : State) : (s.resync c).capture[c].slots = s.capture[c].slots.freeReady.mark := by
  show (s.capture.set c _ |>.set c _)[c].slots = _
  simp

/-- R75, R76: a header judged with no slot FILLING, on a channel that captures. -/
theorem State.judgeHeader_moves (c : Chan) (n : Word32) (id w h : Nat) (s : State) (hm : s.pipes[c].mode.captures = true)
    (hf : ∀ i : SlotIx, s.capture[c].slots[i].isFilling = false) : Moves σ s (s.judgeHeader c n id w h) := by
  unfold State.judgeHeader
  split
  · exact s.inputReason_moves c .misroute
  · split
    · exact s.inputReason_moves c .size
    · next hsize =>
      have hsize : frameSizeOk w h := State.sizeMatches_frameSizeOk (by simpa using hsize)
      split
      · refine (s.resync_moves c hm).trans (State.modCapture_moves (Capture.keeps_slots hm (fun hok => ?_)
          fun b => Slots.claim_showsB))
        refine Slots.claim_ok hok hsize fun i => ?_
        simp only [State.resync_slots]
        exact Slots.resync_noFilling hf i
      · next hstale =>
        split
        · exact State.modCapture_moves
            ⟨fun ⟨hs, _, _, hlimit⟩ => ⟨Slots.claim_ok hs hsize hf, Nat.zero_le _,
              fun h => absurd (hm.symm.trans h) (by decide), hlimit⟩, fun _ => Slots.claim_showsB⟩
        · refine .trans (b := s.modCapture c fun cap => { cap with stale := cap.stale + 1 })
            (State.modCapture_moves ⟨fun ⟨hs, _, hfree, hlimit⟩ => ⟨hs, ?_, hfree, hlimit⟩, fun _ h => h⟩)
            (State.inputReason_moves c .stale _)
          show s.capture[c].stale + 1 ≤ 4
          omega

theorem State.failFill_capture (c : Chan) (r : InputReason) (s : State) :
    (s.failFill c r).capture[c].slots = s.capture[c].slots.freeFilling := by
  show ((s.modSlots c Slots.freeFilling).inputReason c r).capture[c].slots = _
  simp [State.inputReason, State.modSlots]

theorem State.takeHeader_moves (c : Chan) (n : Word32) (id w h : Nat) (s : State) (hm : s.pipes[c].mode.captures = true) :
    Moves σ s (s.takeHeader c n id w h) := by
  unfold State.takeHeader
  simp only
  split
  · refine (s.failFill_moves c .short).trans (State.judgeHeader_moves c n id w h _ hm fun i => ?_)
    simp only [State.failFill_capture]
    exact Slots.freeFilling_noFilling _ i
  · next hf =>
    refine State.judgeHeader_moves c n id w h s hm fun i => ?_
    rw [Slots.any_iff] at hf
    simpa using fun e => hf ⟨i, e⟩

/-- The slot that fills changes its own record: R68 holds of the rest. -/
theorem Slots.set_filling_ok {v : Slots} {i : SlotIx} {r : SlotRec} (h : v.ok) (hi : v[i].isFilling = true)
    (hr : r.fieldsOk = true) (hs : r.isShowing = false) : Slots.ok (Vector.set v i r) := by
  refine Slots.set_ok h hr hs fun j hj _ => ?_
  rw [← Bool.not_eq_true]
  exact fun e => hj ((v.ok_iff.1 h).1 j i e hi)

theorem SlotRec.filling_not_showing {r : SlotRec} (h : r.isFilling = true) : r.isShowing = false := by
  cases r <;> simp_all [SlotRec.isFilling, SlotRec.isShowing]

theorem Capture.keeps_filling {m : Mode} {cap : Capture} {i : SlotIx} {r : SlotRec} (hm : m.captures = true)
    (hi : cap.slots[i].isFilling = true) (hr : cap.slots.ok → r.fieldsOk = true) (hs : r.isShowing = false) :
    Capture.Keeps m cap { cap with slots := cap.slots.set i r } :=
  Capture.keeps_slots (f := fun v => v.set i r) hm (fun h => Slots.set_filling_ok h hi (hr h) hs)
    fun _ h => Slots.set_showsB (SlotRec.filling_not_showing hi) h

theorem State.takeLine_moves (c : Chan) (pixels : List Pixel) (s : State) (hm : s.pipes[c].mode.captures = true) :
    Moves σ s (s.takeLine c pixels) := by
  unfold State.takeLine
  split
  · exact .refl
  · next i hi =>
    have hfill := Slots.find_some hi
    split
    · next n w h lines hr =>
      split
      · exact s.failFill_moves c .long
      · next hlines =>
        split
        · exact s.failFill_moves c .badLine
        · refine .single (.intro (.frames (State.modSlots c (fun v => v.set i (.filling n w h (lines + 1)))
            { s with frameMem := Cells.write zeroByte s.frameMem (pixelAddress c i 0 lines) (lineBytes pixels) }) (fun hok => ?_) (fun hwf => Cells.write_wf zeroByte _ (pixelAddress c i 0 lines)
            (lineBytes pixels) hwf)) rfl)
          refine State.framesOk_modCapture (s := { s with
            frameMem := Cells.write zeroByte s.frameMem (pixelAddress c i 0 lines) (lineBytes pixels) })
            (Capture.keeps_filling hm hfill (fun hs => ?_) rfl) hok
          have hfields := (Slots.ok_iff _).1 hs |>.2.2 i
          simp only [hr, SlotRec.fieldsOk, decide_eq_true_iff] at hfields ⊢
          exact ⟨hfields.1, by omega⟩
    · exact .refl

theorem State.takeEnd_moves (c : Chan) (s : State) (hm : s.pipes[c].mode.captures = true) : Moves σ s (s.takeEnd c) := by
  unfold State.takeEnd
  split
  · exact .refl
  · next i hi =>
    have hfill := Slots.find_some hi
    split
    · split
      · exact s.failFill_moves c .short
      · split
        · next hsize =>
          exact State.modCapture_moves (Capture.keeps_filling hm hfill
            (fun _ => by simpa [SlotRec.fieldsOk] using State.sizeMatches_frameSizeOk hsize) rfl)
        · exact s.failFill_moves c .size
    · exact .refl

/-- R71, R73: an arrival is a run of moves when what a capturing channel makes of it is. -/
theorem State.arrival_moves (c : Chan) (elapsed : Nat) {act : State → State} (s : State)
    (hact : ∀ u : State, u.pipes[c].mode.captures = true → Moves σ u (act u)) : Moves σ s (s.arrival c elapsed act) := by
  unfold State.arrival
  split
  · simp only
    have hseen := (s.passTime_moves elapsed).trans (State.signalSeen_moves (σ := σ) c _)
    split
    · next hm => exact hseen.trans (hact _ hm)
    · exact hseen
  · exact .refl

end Sys2Proof.Machine
end

section
/-! A frame tick keeps the laws of the frame slots and of membership (R67, R68, R82, R86, R103): the application of the modes
and the barrier decision, stage by stage, then adoption and the output frames. -/

namespace Sys2Proof.Machine

variable {σ : Scope} {s t u : State}

/-! ### Changes of Capture, Barrier and Pipelines alone -/

/-- But for traffic, `t` is `s` with another Capture, Barrier and Pipelines. -/
structure State.onlyFrames (s t : State) : Prop where
  next : t.core = ({ s with capture := t.capture, barrier := t.barrier, pipes := t.pipes } : State).core

theorem State.onlyFrames_trans (h : s.onlyFrames t) (h' : t.onlyFrames u) : s.onlyFrames u := by
  refine ⟨?_⟩
  calc u.core = ({ t.core with capture := u.capture, barrier := u.barrier, pipes := u.pipes } : State) := h'.next
    _ = ({ s with capture := u.capture, barrier := u.barrier, pipes := u.pipes } : State).core := by rw [h.next]; rfl

theorem State.onlyFrames_of_core (h : t.core = s.core) : s.onlyFrames t := by
  have hc : t.capture = s.capture := (congrArg State.capture h : t.core.capture = s.core.capture)
  have hb : t.barrier = s.barrier := (congrArg State.barrier h : t.core.barrier = s.core.barrier)
  have hp : t.pipes = s.pipes := (congrArg State.pipes h : t.core.pipes = s.core.pipes)
  refine ⟨?_⟩
  rw [hc, hb, hp]
  exact h

theorem State.onlyFrames_eachChan {f : Chan → State → State} (hf : ∀ c s, State.onlyFrames s (f c s)) (cs : List Chan)
    (s : State) : s.onlyFrames (eachChan f cs s) :=
  eachChan_keeps (P := s.onlyFrames) (fun c u hu => State.onlyFrames_trans hu (hf c u)) cs (State.onlyFrames_of_core rfl)

theorem State.setMembership_onlyFrames (c : Chan) (m : Member) (s : State) : s.onlyFrames (s.setMembership c m) :=
  State.onlyFrames_trans (t := s.modMember c fun _ => m) ⟨rfl⟩ (State.onlyFrames_of_core (State.raise_core _ _))

theorem State.modBarrier_onlyFrames (f : Barrier → Barrier) (s : State) : s.onlyFrames (s.modBarrier f) := ⟨rfl⟩

/-! ### Each stage of the decision changes the frames' state alone -/

theorem State.enterExit_onlyFrames (old : Vector Mode 6) (c : Chan) (s : State) : s.onlyFrames (s.enterExit old c) := by
  unfold State.enterExit
  split
  · split
    · exact State.onlyFrames_of_core rfl
    · exact s.setMembership_onlyFrames c _
  · split
    · exact s.setMembership_onlyFrames c _
    · exact State.onlyFrames_of_core rfl

theorem State.applyLimit_onlyFrames (s : State) : s.onlyFrames s.applyLimit := by
  unfold State.applyLimit
  split
  · exact State.onlyFrames_of_core rfl
  · next v _ =>
    refine State.onlyFrames_trans (t := s.modBarrier fun b => { b with limit := v, pendingLimit := none, pendingReq := none })
      ⟨rfl⟩ (State.onlyFrames_of_core ?_)
    simp only
    split
    · exact State.complete_core _ _ _ _ _
    · rfl

theorem State.openingTest_onlyFrames (c : Chan) (s : State) : s.onlyFrames (s.openingTest c) := by
  unfold State.openingTest
  split
  · exact s.setMembership_onlyFrames c _
  · exact State.onlyFrames_of_core rfl

theorem State.swapSet_onlyFrames (n : Word32) (cs : List Chan) (s : State) : s.onlyFrames (s.swapSet n cs) := by
  rw [State.swapSet_same]
  exact ⟨rfl⟩

theorem State.countLateness_onlyFrames {out : Chan → State → State} (ho : ∀ c s, State.onlyFrames s (out c s))
    (cs : List Chan) (s : State) : s.onlyFrames (s.countLateness out cs) := by
  unfold State.countLateness
  split
  · refine State.onlyFrames_eachChan (fun c s => ?_) cs s
    unfold State.countLate
    split
    · exact State.onlyFrames_of_core rfl
    · simp only
      split
      · exact State.onlyFrames_trans (t := s.modMember c fun m => { m with late := bumpLate m.late }) ⟨rfl⟩ (ho c _)
      · exact ⟨rfl⟩
  · exact State.onlyFrames_of_core rfl

theorem State.swapStage_onlyFrames (s : State) : s.onlyFrames s.swapStage.1 := by
  rw [State.swapStage_eq]
  split
  · unfold State.joinedStage
    split
    · exact s.swapSet_onlyFrames _ _
    · exact State.countLateness_onlyFrames (fun c s => s.setMembership_onlyFrames c _) _ s
  · split
    · unfold State.readmissionRound
      split
      · exact State.onlyFrames_trans (s.swapSet_onlyFrames _ _)
          (State.onlyFrames_eachChan (fun c s => s.setMembership_onlyFrames c _) _ _)
      · exact State.countLateness_onlyFrames (out := State.loseCandidacy) (fun _ _ => ⟨rfl⟩) _ s
    · exact State.onlyFrames_of_core rfl

theorem State.runFree_onlyFrames (c : Chan) (s : State) : s.onlyFrames (s.runFree c) := by
  unfold State.runFree
  split
  · exact State.onlyFrames_of_core rfl
  · split
    · split
      · exact ⟨rfl⟩
      · exact State.onlyFrames_of_core rfl
    · exact ⟨rfl⟩

theorem State.excludedStage_onlyFrames (anyJoined : Bool) (swapped : Option Word32) (skip : List Chan) (c : Chan) (s : State) :
    s.onlyFrames (s.excludedStage anyJoined swapped skip c) := by
  obtain h | ⟨-, b, -, ⟨-, h⟩ | ⟨-, h⟩⟩ | ⟨-, h⟩ := s.excludedStage_cases anyJoined swapped skip c
  · rw [h]; exact State.onlyFrames_of_core rfl
  · rw [h]
    exact State.onlyFrames_trans (t := s.modSlots c (Slots.swapTo b)) ⟨rfl⟩ (State.setMembership_onlyFrames c _ _)
  · rw [h]; exact s.setMembership_onlyFrames c _
  · rw [h]; exact s.runFree_onlyFrames c

theorem State.emptySet_onlyFrames (s : State) : s.onlyFrames s.emptySet := by
  rw [State.emptySet_same]
  exact ⟨rfl⟩

theorem State.decideLive_onlyFrames (s : State) : s.onlyFrames s.decideLive.1 := by
  rw [State.decideLive_eq]
  generalize ho : eachChan State.openingTest (chansWhere s.isJoined) s.applyLimit = o
  have opened : s.onlyFrames o :=
    State.onlyFrames_trans s.applyLimit_onlyFrames (ho ▸ State.onlyFrames_eachChan State.openingTest_onlyFrames _ _)
  have swapped : s.onlyFrames o.swapStage.1 := State.onlyFrames_trans opened o.swapStage_onlyFrames
  generalize o.swapStage = d at swapped
  dsimp only
  exact State.onlyFrames_trans
    (State.onlyFrames_trans swapped (State.onlyFrames_eachChan (State.excludedStage_onlyFrames _ _ _) _ _))
    (State.emptySet_onlyFrames _)

theorem State.barrierDecision_onlyFrames (old : Vector Mode 6) (s : State) : s.onlyFrames (s.barrierDecision old).1 := by
  have entered := State.onlyFrames_eachChan (State.enterExit_onlyFrames old) (List.finRange 6) s
  unfold State.barrierDecision
  generalize eachChan (State.enterExit old) (List.finRange 6) s = v at entered
  simp only
  split
  · exact State.onlyFrames_trans entered v.decideLive_onlyFrames
  · dsimp only
    exact State.onlyFrames_trans (State.onlyFrames_trans entered v.applyLimit_onlyFrames) (State.modBarrier_onlyFrames _ _)

end Sys2Proof.Machine
end

section
/-! A frame tick as a run of moves: each stage keeps the laws of the frame slots and of membership (R67, R68, R82, R86,
R103). -/

namespace Sys2Proof.Machine

variable {σ : Scope} {s t u : State}

/-! ### Members -/

/-- R86: a channel is LIVE exactly when it has a membership. -/
theorem State.isLive_iff (h : s.framesOk) (c : Chan) : s.isLive c = true ↔ s.barrier.members[c].membership ≠ .none := by
  obtain ⟨-, hnone, -⟩ := h c
  rw [State.isLive, decide_eq_true_iff, ne_eq, hnone, not_not]

theorem State.captures_of_isLive {c : Chan} (h : s.isLive c = true) : s.pipes[c].mode.captures = true := by
  rw [State.isLive, decide_eq_true_iff] at h
  rw [h]
  rfl

theorem Member.excluded_ok {b : Option Word32} {m : Mode} {v : Slots} (hm : m = .live) :
    Member.ok b m v { membership := .excluded, candidate := false, late := some 0 } := by
  simp [Member.ok, hm]

theorem Member.none_ok {b : Option Word32} {m : Mode} {v : Slots} (hm : m ≠ .live) :
    Member.ok b m v { membership := .none, candidate := false, late := none } := by
  simp [Member.ok, hm]

theorem State.setMembership_framesOk {c : Chan} {m : Member}
    (hm : m.ok s.barrier.frame s.pipes[c].mode s.capture[c].slots) (h : s.framesOk) : (s.setMembership c m).framesOk :=
  State.framesOk_modMember (f := fun _ => m) hm h

/-- R90, R92: a member that is excluded. -/
theorem State.exclude_framesOk {c : Chan} (hm : s.barrier.members[c].membership ≠ .none) (h : s.framesOk) :
    (s.exclude c).framesOk := by
  obtain ⟨-, hnone, hlate, -, -⟩ := h c
  refine State.setMembership_framesOk ⟨?_, ?_, fun e => ?_, fun e => ?_⟩ h
  · exact iff_of_false (fun e => by cases e) fun e => hm (hnone.2 e)
  · exact iff_of_false (fun e => hm (hlate.1 e)) fun e => by cases e
  · cases e
  · cases e

/-- R93, R94: a LIVE channel that shows B joins. -/
theorem State.join_framesOk {c : Chan} (hl : s.isLive c = true) (hb : (s.slots c).showsB s.barrier.frame = true)
    (h : s.framesOk) : (s.join c).framesOk := by
  rw [State.isLive, decide_eq_true_iff] at hl
  refine State.setMembership_framesOk ⟨?_, ?_, fun e => ?_, fun _ => hb⟩ h
  · exact iff_of_false (fun e => by cases e) fun e => e hl
  · exact iff_of_false (fun e => by cases e) fun e => by cases e
  · cases e

/-- A member gets a late count, and stays what it is. -/
theorem State.late_framesOk {c : Chan} {n : Nat} {f : Member → Member}
    (hf : f s.barrier.members[c] = { s.barrier.members[c] with late := some n })
    (hm : s.barrier.members[c].membership ≠ .none) (h : s.framesOk) : (s.modMember c f).framesOk := by
  obtain ⟨-, hnone, hlate, hcand, hjoined⟩ := h c
  refine State.framesOk_modMember ?_ h
  rw [hf]
  exact ⟨hnone, iff_of_false (fun e => by cases e) hm, hcand, hjoined⟩

/-- A member that is not JOINED becomes a candidate or loses its candidacy. -/
theorem State.candidate_framesOk {c : Chan} {b : Bool} {n : Option Nat} {f : Member → Member}
    (hf : f s.barrier.members[c] = { s.barrier.members[c] with candidate := b, late := n })
    (hm : b = true → s.barrier.members[c].membership = .excluded)
    (hn : n = none ↔ s.barrier.members[c].membership = .none) (h : s.framesOk) : (s.modMember c f).framesOk := by
  obtain ⟨-, hnone, -, -, hjoined⟩ := h c
  refine State.framesOk_modMember ?_ h
  rw [hf]
  exact ⟨hnone, hn, hm, hjoined⟩

/-! ### R114, R89: modes, and what they make of the memberships -/

/-- The laws between the application of the modes and the decision's opening: memberships are those of the old modes. -/
def State.framesOkFrom (old : Vector Mode 6) (s : State) : Prop :=
  ∀ c : Chan, s.capture[c].ok s.pipes[c].mode ∧
    (s.barrier.members[c].membership = .none ↔ old[c] ≠ .live) ∧
    (s.barrier.members[c].late = none ↔ s.barrier.members[c].membership = .none) ∧
    (s.barrier.members[c].candidate = true → s.barrier.members[c].membership = .excluded) ∧
    (s.barrier.members[c].membership = .joined → s.pipes[c].mode = .live →
      s.capture[c].slots.showsB s.barrier.frame = true)

/-- The pending requests complete: only traffic. -/
theorem completeModes_core (reqs : List ModeReq) (p : List Byte) (s : State) :
    (reqs.foldl (fun s r => s.complete r.link r.tag .success p) s).core = s.core := by
  induction reqs generalizing s with
  | nil => rfl
  | cons r reqs ih => exact (ih _).trans (State.complete_core _ _ _ _ _)

/-- What the application of the modes makes of the Pipelines. -/
def State.modePipes (count : Word32) (s : State) : Vector Pipe 6 := Vector.ofFn fun c : Chan => s.pipes[c].applyMode count

/-- What the application of the modes makes of Capture. -/
def State.modeCapture (count : Word32) (s : State) : Vector Capture 6 :=
  Vector.ofFn fun c : Chan =>
    if (s.modePipes count)[c].mode ≠ s.pipes[c].mode ∧ (s.modePipes count)[c].mode.captures = false
    then s.capture[c].stop else s.capture[c]

theorem State.applyModes_core (count : Word32) (s : State) :
    (s.applyModes count).core =
      ({ s with pipes := s.modePipes count, capture := s.modeCapture count } : State).core :=
  completeModes_core _ _ _

theorem State.applyModes_pipes (count : Word32) (s : State) : (s.applyModes count).pipes = s.modePipes count :=
  congrArg State.pipes (s.applyModes_core count)

theorem State.applyModes_capture (count : Word32) (s : State) : (s.applyModes count).capture = s.modeCapture count :=
  congrArg State.capture (s.applyModes_core count)

theorem State.applyModes_barrier (count : Word32) (s : State) : (s.applyModes count).barrier = s.barrier :=
  (congrArg State.barrier (s.applyModes_core count) : (s.applyModes count).core.barrier = _)

theorem State.modeCapture_get (count : Word32) (s : State) (c : Chan) :
    (s.modeCapture count)[c] =
      if (s.modePipes count)[c].mode ≠ s.pipes[c].mode ∧ (s.modePipes count)[c].mode.captures = false
      then s.capture[c].stop else s.capture[c] := by
  simp [State.modeCapture]

theorem Capture.stop_ok {m m' : Mode} {cap : Capture} (h : cap.ok m) : cap.stop.ok m' := by
  obtain ⟨-, -, -, hlimit⟩ := h
  exact ⟨Slots.allFree_ok, Nat.zero_le _, fun _ => rfl, hlimit⟩

/-- R82: the modes applied, each channel's Capture is as its new mode wants it. -/
theorem State.applyModes_framesOkFrom (count : Word32) (h : s.framesOk) : (s.applyModes count).framesOkFrom s.modes := by
  intro c
  obtain ⟨hcap, hnone, hlate, hcand, hjoined⟩ := h c
  rw [State.applyModes_pipes, State.applyModes_capture, State.applyModes_barrier, State.modeCapture_get]
  have hold : s.modes[c] = s.pipes[c].mode := by simp [State.modes]
  rw [hold]
  refine ⟨?_, hnone, hlate, hcand, fun hj hl => ?_⟩
  · split
    · exact Capture.stop_ok hcap
    · next hsame =>
      obtain ⟨hs, hstale, hfree, hlimit⟩ := hcap
      refine ⟨hs, hstale, fun hc => hfree ?_, hlimit⟩
      have : (s.modePipes count)[c].mode = s.pipes[c].mode := by
        by_contra e
        exact hsame ⟨e, hc⟩
      rw [← this]
      exact hc
  · rw [if_neg]
    · exact hjoined hj
    · rintro ⟨-, hc⟩
      rw [hl] at hc
      cases hc

/-- R89: channels that enter and leave LIVE take their memberships. -/
theorem eachEnterExit_framesOk {old : Vector Mode 6} (h : s.framesOkFrom old) :
    (eachChan (State.enterExit old) (List.finRange 6) s).framesOk := by
  have hsame := eachEnterExit_same old s
  have hmembers := eachEnterExit_members old s
  generalize eachChan (State.enterExit old) (List.finRange 6) s = v at hsame hmembers
  intro c
  obtain ⟨hcap, hnone, hlate, hcand, hjoined⟩ := h c
  have hc := hmembers c
  rw [State.sameButMembers] at hsame
  rw [hsame]
  dsimp only
  refine ⟨hcap, ?_⟩
  rw [hc]
  by_cases hl : s.pipes[c].mode = .live
  · have hl' : s.isLive c = true := by rw [State.isLive, decide_eq_true_iff]; exact hl
    by_cases ho : old[c] = .live
    · rw [if_neg (fun e => e.2 ho), if_neg (fun e => by rw [hl'] at e; cases e.1)]
      exact ⟨hnone.trans (iff_of_false (fun e => e ho) fun e => e hl), hlate, hcand, fun hj => hjoined hj hl⟩
    · rw [if_pos ⟨hl', ho⟩]
      exact Member.excluded_ok hl
  · have hl' : s.isLive c = false := by rw [State.isLive, decide_eq_false_iff_not]; exact hl
    rw [if_neg (fun e => by rw [hl'] at e; cases e.1)]
    by_cases ho : old[c] = .live
    · rw [if_pos ⟨hl', ho⟩]
      exact Member.none_ok hl
    · rw [if_neg (fun e => ho e.2)]
      have hno := hnone.2 ho
      exact ⟨iff_of_true hno hl, hlate, hcand, fun hj => by rw [hno] at hj; cases hj⟩

/-! ### R90 to R96: the stages of the decision -/

theorem State.applyLimit_framesOk (h : s.framesOk) : s.applyLimit.framesOk := by
  obtain ⟨hc, hp, -, hm, hf⟩ := s.applyLimit_same
  exact State.framesOk_of_same hc hm hf (fun c => by rw [hp]) h

theorem State.openingTest_framesOk (c : Chan) (h : s.framesOk) : (s.openingTest c).framesOk := by
  unfold State.openingTest
  split
  · next hj =>
    rw [Bool.and_eq_true] at hj
    have hj : s.barrier.members[c].membership = .joined := by simpa [State.isJoined] using hj.1
    exact State.exclude_framesOk (by rw [hj]; decide) h
  · exact h

/-- R92, R93: lateness counted over LIVE channels. -/
theorem countLateness_framesOk {out : Chan → State → State} (pipes : ∀ c s, (out c s).pipes = s.pipes)
    (lawful : ∀ (c : Chan) (s : State), s.isLive c = true → s.framesOk → (out c s).framesOk) {cs : List Chan}
    (hl : ∀ c ∈ cs, s.isLive c = true) (h : s.framesOk) : (s.countLateness out cs).framesOk := by
  unfold State.countLateness
  split
  · next lead _ =>
    clear * - pipes lawful hl h
    induction cs generalizing s with
    | nil => exact h
    | cons c cs ih =>
      have hc := hl c List.mem_cons_self
      have kept : (s.countLate lead out c).pipes = s.pipes ∧ (s.countLate lead out c).framesOk := by
        unfold State.countLate
        split
        · exact ⟨rfl, h⟩
        · have late : (s.modMember c fun m => { m with late := bumpLate m.late }).framesOk :=
            State.late_framesOk rfl ((State.isLive_iff h c).1 hc) h
          simp only
          split
          · exact ⟨pipes c _, lawful c _ hc late⟩
          · exact ⟨rfl, late⟩
      exact ih (fun d hd => by rw [State.isLive, kept.1]; exact hl d (List.mem_cons_of_mem _ hd)) kept.2
  · exact h

/-- R91: a set of LIVE channels that holds every JOINED one swaps to a frame that all of it holds READY. -/
theorem State.swapSet_framesOk {n : Word32} {cs : List Chan} (hcs : cs.Nodup) (hl : ∀ c ∈ cs, s.isLive c = true)
    (hj : ∀ c, s.isJoined c = true → c ∈ cs) (holds : ∀ c ∈ cs, (s.slots c).holdsReady n = true) (h : s.framesOk) :
    (s.swapSet n cs).framesOk := by
  intro c
  obtain ⟨⟨hs, hstale, hfree, hlimit⟩, hnone, hlate, hcand, hjoined⟩ := h c
  rw [State.swapSet_members n hcs, State.swapSet_capture n hcs, State.swapSet_frame, State.swapSet_same]
  dsimp only
  by_cases hc : c ∈ cs
  · rw [if_pos hc, if_pos hc]
    have hlive := hl c hc
    exact ⟨⟨Slots.show_ok _ n hs, hstale,
        fun e => absurd ((State.captures_of_isLive hlive).symm.trans e) (by decide), hlimit⟩, hnone,
      iff_of_false (fun e => by cases e) ((State.isLive_iff h c).1 hlive), hcand, fun _ => Slots.show_showsB _ (holds c hc)⟩
  · rw [if_neg hc, if_neg hc]
    exact ⟨⟨hs, hstale, hfree, hlimit⟩, hnone, hlate, hcand,
      fun e => absurd (hj c (by rw [State.isJoined, decide_eq_true_iff]; exact e)) hc⟩

/-- R93: LIVE channels that show B join. -/
theorem joins_framesOk {cs : List Chan} (hl : ∀ c ∈ cs, s.isLive c = true)
    (hb : ∀ c ∈ cs, (s.slots c).showsB s.barrier.frame = true) (h : s.framesOk) : (eachChan State.join cs s).framesOk := by
  induction cs generalizing s with
  | nil => exact h
  | cons c cs ih =>
    exact ih (s := s.join c) (fun d hd => hl d (List.mem_cons_of_mem _ hd)) (fun d hd => hb d (List.mem_cons_of_mem _ hd))
      (State.join_framesOk (hl c List.mem_cons_self) (hb c List.mem_cons_self) h)

theorem State.swapStage_framesOk (h : s.framesOk) : s.swapStage.1.framesOk := by
  have joined_live (c) (hc : c ∈ chansWhere s.isJoined) : s.isLive c = true := by
    have hj : s.barrier.members[c].membership = .joined := by simpa [State.isJoined] using mem_chansWhere.1 hc
    rw [State.isLive_iff h, hj]
    decide
  have candidate_live (c) (hc : c ∈ chansWhere s.isCandidate) : s.isLive c = true := by
    have he := (h c).2.2.2.1 (mem_chansWhere.1 hc)
    rw [State.isLive_iff h, he]
    decide
  rw [State.swapStage_eq]
  split
  · unfold State.joinedStage
    split
    · next n hn =>
      obtain ⟨-, -, holds, -⟩ := State.commonFrame_some hn
      exact State.swapSet_framesOk (chansWhere_nodup _) joined_live (fun c hc => mem_chansWhere.2 hc) holds h
    · exact countLateness_framesOk (out := State.exclude) (fun _ _ => rfl)
        (fun c u hl hu => State.exclude_framesOk ((State.isLive_iff hu c).1 hl) hu) joined_live h
  · next hnone =>
    split
    · unfold State.readmissionRound
      split
      · next n hn =>
        obtain ⟨-, -, holds, -⟩ := State.commonFrame_some hn
        have none_joined (c) (hc : s.isJoined c = true) : c ∈ chansWhere s.isCandidate := by
          have := mem_chansWhere.2 hc
          rw [not_not.1 hnone] at this
          cases this
        refine joins_framesOk (fun c hc => ?_) (fun c hc => ?_)
          (State.swapSet_framesOk (chansWhere_nodup _) candidate_live none_joined holds h)
        · rw [State.isLive, State.swapSet_same]
          exact candidate_live c hc
        · rw [State.swapSet_frame, State.slots, State.swapSet_capture n (chansWhere_nodup _), if_pos hc]
          exact Slots.show_showsB _ (holds c hc)
      · exact countLateness_framesOk (out := State.loseCandidacy) (fun _ _ => rfl)
          (fun c u _ hu => State.candidate_framesOk (f := fun m => { m with candidate := false }) rfl (fun e => by cases e)
            (hu c).2.2.1 hu) candidate_live h
    · exact h

/-- A LIVE channel that is not JOINED shows another frame. -/
theorem State.show_framesOk {c : Chan} (drop : Word32 → Bool) (n : Word32) (hm : s.pipes[c].mode.captures = true)
    (hj : s.isJoined c = false) (h : s.framesOk) : (s.modSlots c (Slots.show drop n)).framesOk := by
  rw [State.isJoined, decide_eq_false_iff_not] at hj
  intro d
  rw [State.modSlots_capture]
  split
  · next e =>
    subst e
    obtain ⟨⟨hs, hstale, -, hlimit⟩, hnone, hlate, hcand, -⟩ := h d
    exact ⟨⟨Slots.show_ok drop n hs, hstale, fun e => absurd (hm.symm.trans e) (by decide), hlimit⟩, hnone, hlate, hcand,
      fun e => absurd e hj⟩
  · exact h d

theorem SlotRec.shows_of_shown? {r : SlotRec} {n : Word32} (h : r.shown? = some n) : r.shows n = true := by
  obtain ⟨w, ht, rfl⟩ := SlotRec.shown?_eq_some.1 h
  simp [SlotRec.shows]

theorem Slots.showsB_of_shown {v : Slots} {n : Word32} (h : v.shown = some n) : v.showsB (some n) = true := by
  obtain ⟨r, hr, hn⟩ := List.exists_of_findSome?_eq_some h
  obtain ⟨i, hi⟩ := (v.mem_iff r).1 hr
  exact (Slots.showsB_iff v n).2 ⟨i, by rw [hi]; exact SlotRec.shows_of_shown? hn⟩

theorem State.not_joined_of_excluded {c : Chan} (h : s.isExcluded c = true) : s.isJoined c = false := by
  rw [State.isExcluded, decide_eq_true_iff] at h
  rw [State.isJoined, decide_eq_false_iff_not, h]
  decide

theorem State.live_of_excluded {c : Chan} (he : s.isExcluded c = true) (h : s.framesOk) : s.isLive c = true := by
  rw [State.isExcluded, decide_eq_true_iff] at he
  rw [State.isLive_iff h, he]
  decide

/-- R95: an EXCLUDED channel runs free. -/
theorem State.runFree_framesOk {c : Chan} (he : s.isExcluded c = true) (h : s.framesOk) : (s.runFree c).framesOk := by
  have shown (n : Word32) : (s.modSlots c (Slots.runFreeTo n)).framesOk :=
    State.show_framesOk (fun _ => true) n (State.captures_of_isLive (State.live_of_excluded he h))
      (State.not_joined_of_excluded he) h
  unfold State.runFree
  split
  · exact h
  · next n _ =>
    split
    · split
      · exact shown n
      · exact h
    · exact shown n

/-- R94, R95: an EXCLUDED channel's stage. -/
theorem State.excludedStage_framesOk (anyJoined : Bool) (swapped : Option Word32) (skip : List Chan) (c : Chan)
    (h : s.framesOk) : (s.excludedStage anyJoined swapped skip c).framesOk := by
  obtain e | ⟨he, b, hb, ⟨holds, e⟩ | ⟨shown, e⟩⟩ | ⟨he, e⟩ := s.excludedStage_cases anyJoined swapped skip c
  · rw [e]; exact h
  · rw [e]
    have hl := State.live_of_excluded he h
    refine State.join_framesOk (s := s.modSlots c (Slots.swapTo b)) hl ?_
      (State.show_framesOk _ b (State.captures_of_isLive hl) (State.not_joined_of_excluded he) h)
    rw [State.modSlots_slots, if_pos rfl]
    show Slots.showsB _ s.barrier.frame = true
    rw [hb]
    exact Slots.show_showsB _ holds
  · rw [e]
    exact State.join_framesOk (State.live_of_excluded he h) (by rw [hb]; exact Slots.showsB_of_shown shown) h
  · rw [e]; exact State.runFree_framesOk he h

/-- R96: EXCLUDED channels become candidates. -/
theorem eachCandidate_framesOk {cs : List Chan} (hex : ∀ c ∈ cs, s.isExcluded c = true) (h : s.framesOk) :
    (eachChan (fun c s => s.modMember c fun m => { m with candidate := true, late := some 0 }) cs s).framesOk := by
  induction cs generalizing s with
  | nil => exact h
  | cons c cs ih =>
    have hc : s.barrier.members[c].membership = .excluded := by simpa [State.isExcluded] using hex c List.mem_cons_self
    refine ih (s := s.modMember c fun m => { m with candidate := true, late := some 0 }) (fun d hd => ?_)
      (State.candidate_framesOk (f := fun m => { m with candidate := true, late := some 0 }) rfl (fun _ => hc)
        (by rw [hc]; exact iff_of_false (fun e => by cases e) fun e => by cases e) h)
    rw [State.isExcluded, State.modMember_members, decide_eq_true_iff]
    split
    · exact hc
    · simpa [State.isExcluded] using hex d (List.mem_cons_of_mem _ hd)

theorem State.emptySet_framesOk (h : s.framesOk) : s.emptySet.framesOk := by
  unfold State.emptySet
  split
  · exact h
  · exact eachCandidate_framesOk (fun c hc => mem_chansWhere.1 hc) h

theorem eachStage_framesOk {f : Chan → State → State} (hf : ∀ (c : Chan) (s : State), s.framesOk → (f c s).framesOk)
    (cs : List Chan) (s : State) (h : s.framesOk) : (eachChan f cs s).framesOk :=
  eachChan_keeps (P := State.framesOk) hf cs h

theorem State.decideLive_framesOk (s : State) (h : s.framesOk) : s.decideLive.1.framesOk := by
  have opened := eachStage_framesOk (fun c _ => State.openingTest_framesOk c) (chansWhere s.isJoined) s.applyLimit
    (State.applyLimit_framesOk h)
  rw [State.decideLive_eq]
  generalize eachChan State.openingTest (chansWhere s.isJoined) s.applyLimit = o at opened
  have swapped := State.swapStage_framesOk opened
  generalize o.swapStage = d at swapped
  have excluded := eachStage_framesOk (fun c _ => State.excludedStage_framesOk ((List.finRange 6).any d.1.isJoined) d.2
    ((chansWhere s.isJoined).filter d.1.isExcluded) c) (List.finRange 6) d.1 swapped
  dsimp only
  generalize eachChan _ _ d.1 = x at excluded ⊢
  exact State.emptySet_framesOk excluded

/-- R89: with no LIVE channel no channel is JOINED, and B may go. -/
theorem State.noFrame_framesOk (hl : ∀ c : Chan, s.isLive c = false) (h : s.framesOk) :
    (s.modBarrier fun b => { b with frame := none }).framesOk := by
  intro c
  obtain ⟨hcap, hnone, hlate, hcand, -⟩ := h c
  refine ⟨hcap, hnone, hlate, hcand, fun hj => ?_⟩
  have hn := hnone.2 (by simpa [State.isLive, -Fin.getElem_fin] using hl c)
  exact absurd (hn.symm.trans hj) (by decide)

/-- R89 to R96: a decision on memberships of the old modes leaves those of the new. -/
theorem State.barrierDecision_framesOk {old : Vector Mode 6} (h : s.framesOkFrom old) :
    (s.barrierDecision old).1.framesOk := by
  have entered := eachEnterExit_framesOk h
  unfold State.barrierDecision
  generalize eachChan (State.enterExit old) (List.finRange 6) s = v at entered
  simp only
  split
  · exact v.decideLive_framesOk entered
  · next hdark =>
    refine State.noFrame_framesOk (fun c => ?_) (State.applyLimit_framesOk entered)
    rw [State.any_isLive] at hdark
    rw [State.isLive, v.applyLimit_same.2.1, ← Bool.not_eq_true]
    exact fun e => hdark ⟨c, e⟩

/-! ### R109, R117: adoption and output frames -/

theorem Mode.not_live_of_frozen {m : Mode} (h : m.frozen = true) : m ≠ .live ∧ m.captures = true := by
  cases m <;> simp_all [Mode.frozen, Mode.captures]

theorem State.adoption_framesOk (c : Chan) (h : s.framesOk) : (s.adoption c).framesOk := by
  unfold State.adoption
  split
  · next hf =>
    rw [Bool.and_eq_true] at hf
    obtain ⟨hlive, hcap⟩ := Mode.not_live_of_frozen hf.1
    split
    · next n _ =>
      refine State.show_framesOk (fun _ => false) n hcap ?_ h
      rw [State.isJoined, decide_eq_false_iff_not, (h c).2.1.2 hlive]
      decide
    · exact h
  · exact h

theorem State.adoption_onlyFrames (c : Chan) (s : State) : s.onlyFrames (s.adoption c) := by
  unfold State.adoption
  split
  · split
    · exact ⟨rfl⟩
    · exact State.onlyFrames_of_core rfl
  · exact State.onlyFrames_of_core rfl

theorem State.frameStarts_onlyFrames (s : State) : s.onlyFrames s.frameStarts := ⟨rfl⟩

theorem State.frameStarts_framesOk (s : State) (h : s.framesOk) : s.frameStarts.framesOk :=
  State.framesOk_of_same (s := s) (t := s.frameStarts) rfl rfl rfl (fun c => by simp [State.frameStarts]) h

/-! ### R55: the tick -/

theorem State.applyModes_onlyFrames (count : Word32) (s : State) : s.onlyFrames (s.applyModes count) := by
  refine ⟨?_⟩
  rw [State.applyModes_pipes, State.applyModes_capture, State.applyModes_barrier]
  exact s.applyModes_core count

/-- But for traffic, `t` is `s` with another Timebase, Capture, Barrier and Pipelines, and R67 to R103 are kept. -/
structure State.Runs (s t : State) : Prop where
  next : t.core = ({ s with
    timebase := t.timebase, capture := t.capture, barrier := t.barrier, pipes := t.pipes } : State).core
  lawful : s.framesOk → t.framesOk

theorem State.Runs.trans (h : s.Runs t) (h' : t.Runs u) : s.Runs u := by
  refine ⟨?_, fun hs => h'.lawful (h.lawful hs)⟩
  calc u.core = ({ t.core with
          timebase := u.timebase, capture := u.capture, barrier := u.barrier, pipes := u.pipes } : State) := h'.next
    _ = ({ s with timebase := u.timebase, capture := u.capture, barrier := u.barrier, pipes := u.pipes } : State).core := by
      rw [h.next]
      rfl

theorem State.runs_of_onlyFrames (h : s.onlyFrames t) (hok : s.framesOk → t.framesOk) : s.Runs t := by
  have ht : t.timebase = s.timebase := (congrArg State.timebase h.next : t.core.timebase = _)
  refine ⟨?_, hok⟩
  rw [ht]
  exact h.next

theorem State.runs_of_core (h : t.core = s.core) : s.Runs t := by
  refine State.runs_of_onlyFrames (State.onlyFrames_of_core h) (State.framesOk_of_same ?_ ?_ ?_ fun c => ?_)
  · exact (congrArg State.capture h : t.core.capture = s.core.capture)
  · exact congrArg (·.barrier.members) h
  · exact congrArg (·.barrier.frame) h
  · exact congrArg (·.pipes[c].mode) h

theorem State.modTimebase_runs (f : Timebase → Timebase) (s : State) : s.Runs (s.modTimebase f) := ⟨rfl, id⟩

theorem Moves.of_runs (hσ : σ.ticks) (h : s.Runs t) : Moves σ s t :=
  .trans (b := s.modTimebase fun _ => t.timebase) (.single (.intro (.clock (fun _ => t.timebase) (.inl hσ)) rfl))
    (.single (.intro (.frames { t with frameMem := s.frameMem } h.lawful id) h.next))

/-- What a command that may give a tick does: between two such changes, the pending commit may be activated. -/
def State.Ticked (s t : State) : Prop :=
  ∃ x y : State, s.Runs x ∧
    (y = x ∨ ∃ p, x.staging.state = .commitPending ∧ x.staging.commit = some p ∧ y = x.activate p) ∧ y.Runs t

theorem State.ticked_of_runs (h : s.Runs t) : s.Ticked t := ⟨t, t, h, .inl rfl, State.runs_of_core rfl⟩

theorem State.Runs.ticked (h : s.Runs t) (h' : t.Ticked u) : s.Ticked u := by
  obtain ⟨x, y, hx, hy, hu⟩ := h'
  exact ⟨x, y, h.trans hx, hy, hu⟩

theorem State.Ticked.runs (h : s.Ticked t) (h' : t.Runs u) : s.Ticked u := by
  obtain ⟨x, y, hx, hy, hu⟩ := h
  exact ⟨x, y, hx, hy, hu.trans h'⟩

theorem Moves.of_ticked (hσ : σ.ticks) (h : s.Ticked t) : Moves σ s t := by
  obtain ⟨x, y, hx, rfl | ⟨p, hstate, hcommit, rfl⟩, hy⟩ := h
  · exact (Moves.of_runs hσ hx).trans (Moves.of_runs hσ hy)
  · exact ((Moves.of_runs hσ hx).tail (.intro (.activate p hσ hstate hcommit) rfl)).trans (Moves.of_runs hσ hy)

theorem State.testActivation_cases (swapped : Option Word32) (s : State) :
    s.testActivation swapped = s ∨
      ∃ p, s.staging.state = .commitPending ∧ s.staging.commit = some p ∧ s.testActivation swapped = s.activate p := by
  unfold State.testActivation
  split
  · next p hstate hcommit =>
    split
    · exact .inr ⟨p, hstate, hcommit, rfl⟩
    · exact .inl rfl
  · exact .inl rfl

/-- R55: a tick. -/
theorem State.tick_ticked (s : State) : s.Ticked s.tick := by
  have counted : s.Runs s.countTick := s.modTimebase_runs _
  have modes : s.countTick.modes = s.modes := rfl
  have decided : s.countTick.Runs ((s.countTick.applyModes s.countTick.timebase.tickCount).barrierDecision s.modes).1 :=
    State.runs_of_onlyFrames
      (State.onlyFrames_trans (State.applyModes_onlyFrames _ _) (State.barrierDecision_onlyFrames _ _))
      fun h => State.barrierDecision_framesOk (modes ▸ State.applyModes_framesOkFrom _ h)
  unfold State.tick
  dsimp only
  generalize (s.countTick.applyModes s.countTick.timebase.tickCount).barrierDecision s.modes = d at decided
  have ended (u : State) : u.Runs (eachChan State.adoption (List.finRange 6) u).frameStarts :=
    State.runs_of_onlyFrames
      (State.onlyFrames_trans (State.onlyFrames_eachChan State.adoption_onlyFrames _ u) (State.frameStarts_onlyFrames _))
      fun h => State.frameStarts_framesOk _
        (eachStage_framesOk (fun c _ => State.adoption_framesOk c) (List.finRange 6) u h)
  exact ⟨d.1, d.1.testActivation d.2, counted.trans decided, d.1.testActivation_cases d.2, ended _⟩

end Sys2Proof.Machine
end

section
/-! The laws of the links (R185, R186, R191, R192, R198, R205): each operation on a link keeps them, and an UP link stays
UP where nothing takes it DOWN. -/

namespace Sys2Proof.Machine

variable {l : Link} {s t u : State} {k : LinkId} {tag : Byte}

/-- A link's laws are kept, and it is not taken DOWN. -/
def Link.Lawful (l l' : Link) : Prop := (l.ok → l'.ok) ∧ (l.up = true → l'.up = true)

theorem Link.lawful_refl (l : Link) : l.Lawful l := ⟨id, id⟩

theorem Link.Lawful.trans {l' l'' : Link} (h : l.Lawful l') (h' : l'.Lawful l'') : l.Lawful l'' :=
  ⟨h'.1 ∘ h.1, h'.2 ∘ h.2⟩

/-! ### Operations on a link -/

/-- A set of kinds lies within another, kind by kind. -/
theorem kinds_within_iff (a b : BitVec 11) : a &&& ~~~b = 0 ↔ ∀ i : Nat, a.getLsbD i = true → b.getLsbD i = true := by
  refine ⟨fun h i ha => ?_, fun h => BitVec.eq_of_getLsbD_eq fun i hi => ?_⟩
  · have bit := congrArg (BitVec.getLsbD · i) h
    have width := BitVec.lt_of_getLsbD ha
    simpa [ha, width] using bit
  · have within := h i
    cases ha : a.getLsbD i <;> simp_all

theorem notified_raised {pending notified e : BitVec 11} (h : notified &&& ~~~pending = 0) :
    notified &&& ~~~(pending ||| e) = 0 := by
  rw [kinds_within_iff] at h ⊢
  exact fun i hi => by simp [h i hi]

theorem notified_noticed {pending notified enabled : BitVec 11} (h : notified &&& ~~~pending = 0) :
    (notified ||| (enabled &&& pending)) &&& ~~~pending = 0 := by
  rw [kinds_within_iff] at h ⊢
  intro i hi
  rw [BitVec.getLsbD_or, BitVec.getLsbD_and, Bool.or_eq_true, Bool.and_eq_true] at hi
  obtain hi | hi := hi
  · exact h i hi
  · exact hi.2

theorem notified_cleared {pending notified set : BitVec 11} (h : notified &&& ~~~pending = 0) :
    (notified &&& set) &&& ~~~(pending &&& set) = 0 := by
  rw [kinds_within_iff] at h ⊢
  intro i hi
  rw [BitVec.getLsbD_and, Bool.and_eq_true] at hi ⊢
  exact ⟨h i hi.1, hi.2⟩

theorem Link.testNotice_lawful (l : Link) : l.Lawful l.testNotice := by
  refine ⟨fun h => ?_, fun h => by simpa using h⟩
  unfold Link.testNotice
  split
  · next wants =>
    obtain ⟨hcost, hshare, hlen, hnodup, hcredit, hnotified, hdown, hup⟩ := h
    have up : l.up = true := by
      simp only [Link.wantsNotice, Bool.and_eq_true] at wants
      exact wants.1.1
    exact ⟨hcost, hshare, hlen, hnodup, (Nat.sub_le _ _).trans hcredit, notified_noticed hnotified,
      fun e => (by cases up.symm.trans e), hup⟩
  · exact h

theorem Link.raise_lawful (e : EventKind) (l : Link) : l.Lawful (l.raise e) := by
  unfold Link.raise
  split
  · exact l.lawful_refl
  · refine Link.Lawful.trans (l' := { l with pending := l.pending ||| e.bit }) ⟨fun h => ?_, id⟩ (Link.testNotice_lawful _)
    obtain ⟨hcost, hshare, hlen, hnodup, hcredit, hnotified, hrest⟩ := h
    exact ⟨hcost, hshare, hlen, hnodup, hcredit, notified_raised hnotified, hrest⟩

/-- The laws of an UP link look at neither its wait list nor what it sends. -/
theorem Link.ok_traffic {l l' : Link} (h : l.ok) (up : l'.up = true) (share : l'.share = l.share) (wasUp : l.up = true)
    (rx : l'.rx = l.rx) (held : l'.unitsHeld = l.unitsHeld) (outstanding : l'.outstanding = l.outstanding)
    (credit : l'.noticeCredit = l.noticeCredit) (notified : l'.notified = l.notified) (pending : l'.pending = l.pending) :
    l'.ok := by
  obtain ⟨hcost, hshare, hlen, hnodup, hcredit, hnotified, -, hup⟩ := h
  refine ⟨?_, ?_, ?_, ?_, ?_, ?_, fun e => (by cases up.symm.trans e), fun _ => ?_⟩
  · rw [Link.cost, held, rx]; exact hcost
  · rw [held, share]; exact hshare
  · rw [outstanding]; exact hlen
  · rw [outstanding]; exact hnodup
  · rw [credit]; exact hcredit
  · rw [notified, pending]; exact hnotified
  · rw [share]; exact hup wasUp

/-- A link that sends or keeps nothing new when DOWN. -/
theorem Link.lawful_traffic {l' : Link} (down : l.up = false → l' = l) (up : l'.up = l.up) (share : l'.share = l.share)
    (rx : l'.rx = l.rx) (held : l'.unitsHeld = l.unitsHeld) (outstanding : l'.outstanding = l.outstanding)
    (credit : l'.noticeCredit = l.noticeCredit) (notified : l'.notified = l.notified) (pending : l'.pending = l.pending) :
    l.Lawful l' := by
  cases e : l.up with
  | false => rw [down e]; exact l.lawful_refl
  | true =>
    exact ⟨fun h => Link.ok_traffic h (up.trans e) share e rx held outstanding credit notified pending,
      fun _ => up.trans e⟩

theorem Link.complete_lawful (tag : Byte) (st : Status) (o : Word32) (p : List Byte) (l : Link) :
    l.Lawful (l.complete tag st o p) :=
  Link.lawful_traffic (fun down => by simp [Link.complete, down]) (by simp) (by simp) (by simp) (by simp) (by simp)
    (by simp) (by simp) (by simp)

theorem Link.beginSend_lawful (l : Link) : l.Lawful l.beginSend :=
  Link.lawful_traffic (fun down => by simp [Link.beginSend, down]) (by simp) (by simp) (by simp) (by simp) (by simp)
    (by simp) (by simp) (by simp)

theorem Link.returnCredit_lawful (up : l.up = true) : l.Lawful l.returnCredit :=
  Link.lawful_traffic (fun down => by cases up.symm.trans down) (by simp) (by simp) (by simp) (by simp) (by simp)
    (by simp) (by simp) (by simp)

theorem Link.keep_lawful (m : Msg) (up : l.up = true) :
    l.Lawful (if m ∈ l.wait then l else { l with wait := l.wait ++ [m] }) := by
  split
  · exact l.lawful_refl
  · exact Link.lawful_traffic (fun down => by cases up.symm.trans down) rfl rfl rfl rfl rfl rfl rfl rfl

/-- R191, R193: the posted message at the head leaves. -/
theorem Link.leavePosted_lawful {m : Msg} {rest : List Msg} (rx : l.rx = m :: rest) : l.Lawful (l.leavePosted m) := by
  let u : Link := { l with
    rx := l.rx.tail, unitsHeld := l.unitsHeld - m.cost, unitsReturn := l.unitsReturn + m.cost }
  have left : l.ok → u.up = true ∧ u.ok := fun h => by
    obtain ⟨hcost, hshare, hlen, hnodup, hcredit, hnotified, hdown, hup⟩ := h
    have up : l.up = true := by
      by_contra e
      cases rx.symm.trans (hdown (by simpa using e)).1
    have cost : l.unitsHeld = m.cost + (rest.map Msg.cost).sum := by simp [hcost, Link.cost, rx]
    refine ⟨up, ?_, ?_, hlen, hnodup, hcredit, hnotified, fun e => (by cases up.symm.trans e), hup⟩
    · simp only [u, Link.cost, rx, List.tail_cons]
      omega
    · simp only [u]
      omega
  exact ⟨fun h => (Link.returnCredit_lawful (left h).1).1 (left h).2, fun up => by simpa using up⟩

/-- R194: the request at the head leaves. -/
theorem Link.popHead_lawful {m : Msg} {rest : List Msg} (rx : l.rx = m :: rest) (free : m.cost = 0) :
    l.Lawful l.popHead := by
  refine ⟨fun h => ?_, id⟩
  obtain ⟨hcost, hshare, hlen, hnodup, hcredit, hnotified, hdown, hup⟩ := h
  have cost : l.popHead.cost = l.cost := by simp [Link.cost, Link.popHead, rx, free]
  exact ⟨hcost.trans cost.symm, hshare, hlen, hnodup, hcredit, hnotified,
    fun e => (by cases rx.symm.trans (hdown e).1), hup⟩

/-- R209: kinds leave both sets. -/
theorem Link.clearKinds_lawful (set : BitVec 32) (l : Link) : l.Lawful (l.clearKinds set) := by
  refine ⟨fun h => ?_, id⟩
  obtain ⟨hcost, hshare, hlen, hnodup, hcredit, hnotified, hdown, hup⟩ := h
  refine ⟨hcost, hshare, hlen, hnodup, hcredit, notified_cleared hnotified, fun e => ?_, hup⟩
  · obtain ⟨hrx, hwait, hsendQ, hsending, hout, henabled, hzero⟩ := hdown e
    exact ⟨hrx, hwait, hsendQ, hsending, hout, henabled, by simp [Link.clearKinds, hzero]⟩

theorem Link.recordRefusal_lawful (st : Status) (m : Msg) (l : Link) : l.Lawful (l.recordRefusal st m) := ⟨id, id⟩

theorem Link.recordFault_lawful (r : FaultReason) (kind : Byte) (l : Link) : l.Lawful (l.recordFault r kind) := ⟨id, id⟩

/-- R191: a posted message within the units left. -/
theorem Link.holdPosted_lawful {m : Msg} (up : l.up = true) (units : m.cost ≤ l.share - l.unitsHeld) :
    l.Lawful (l.holdPosted m) := by
  refine ⟨fun h => ?_, id⟩
  obtain ⟨hcost, hshare, hlen, hnodup, hcredit, hnotified, hdown, hup⟩ := h
  refine ⟨?_, ?_, hlen, hnodup, hcredit, hnotified, fun e => (by cases up.symm.trans e), hup⟩
  · simp [Link.holdPosted, Link.cost, hcost]
  · simp only [Link.holdPosted]
    omega

/-- R192: a request with a free place and tag. -/
theorem Link.holdRequest_lawful {m : Msg} (up : l.up = true) (cost : m.cost = 0) (place : l.outstanding.length < 16)
    (free : tag ∉ l.outstanding) : l.Lawful (l.holdRequest tag m) := by
  refine ⟨fun h => ?_, id⟩
  obtain ⟨hcost, hshare, hlen, hnodup, hcredit, hnotified, hdown, hup⟩ := h
  refine ⟨?_, hshare, ?_, ?_, hcredit, hnotified, fun e => (by cases up.symm.trans e), hup⟩
  · simp [Link.holdRequest, Link.cost, hcost, cost]
  · simp only [Link.holdRequest, List.length_append, List.length_singleton]
    omega
  · simpa [Link.holdRequest, List.nodup_append, hnodup] using fun a ha (e : a = tag) => free (e ▸ ha)

/-- R196, R199: a message has been sent. -/
theorem Link.sent_lawful (l : Link) : l.Lawful l.sent := by
  by_cases up : l.up = true
  · unfold Link.sent
    split
    · next t st o _ rest _ =>
      split
      · refine Link.Lawful.trans (l' := { l with
          sending := none, outstanding := l.outstanding.erase t, countsReturn := l.countsReturn + 1 })
          ⟨fun h => ?_, id⟩ (Link.returnCredit_lawful up)
        obtain ⟨hcost, hshare, hlen, hnodup, hcredit, hnotified, hdown, hup⟩ := h
        exact ⟨hcost, hshare, (List.length_erase_le).trans hlen, hnodup.erase _, hcredit, hnotified,
          fun e => (by cases up.symm.trans e), hup⟩
      · exact Link.lawful_traffic (fun down => by cases up.symm.trans down) rfl rfl rfl rfl rfl rfl rfl rfl
    · exact Link.lawful_traffic (fun down => by cases up.symm.trans down) rfl rfl rfl rfl rfl rfl rfl rfl
  · refine ⟨fun h => ?_, fun e => absurd e up⟩
    have idle := (h.2.2.2.2.2.2.1 (by simpa using up)).2.2.2.1
    have same : l.sent = l := by
      cases l
      simp_all [Link.sent]
    rw [same]
    exact h

/-- R185: a link that may comes UP. -/
theorem Link.tryUp_lawful (l : Link) : l.Lawful l.tryUp := by
  by_cases up : l.up = true
  · rw [Link.tryUp_of_up up]
    exact l.lawful_refl
  · refine ⟨fun h => ?_, fun e => absurd e up⟩
    unfold Link.tryUp
    split
    · next may =>
      obtain ⟨-, -, -, -, -, hnotified, -, -⟩ := h
      simp only [Bool.and_eq_true, decide_eq_true_eq] at may
      exact ⟨rfl, Nat.zero_le _, Nat.zero_le _, List.nodup_nil, Nat.zero_le _, hnotified, fun e => (by cases e),
        fun _ => may.2⟩
    · exact h

/-- R186: a link that has gone DOWN holds nothing. -/
theorem Link.goDown_ok (l : Link) : l.goDown.ok :=
  ⟨rfl, Nat.zero_le _, Nat.zero_le _, List.nodup_nil, Nat.zero_le _, BitVec.zero_and,
    fun _ => ⟨rfl, rfl, rfl, rfl, rfl, rfl, rfl⟩, fun e => (by cases e)⟩

/-! ### Operations on the part -/

/-- Every link's laws are kept, and none is taken DOWN. -/
def State.Lawful (s t : State) : Prop := ∀ j : LinkId, s.links[j].Lawful t.links[j]

/-- The laws of every link. -/
abbrev State.wired (s : State) : Prop := ∀ j : LinkId, s.links[j].ok

theorem State.lawful_of_links (h : t.links = s.links) : s.Lawful t := fun j => by
  rw [h]
  exact Link.lawful_refl _

theorem State.lawful_refl (s : State) : s.Lawful s := State.lawful_of_links rfl

theorem State.Lawful.trans (h : s.Lawful t) (h' : t.Lawful u) : s.Lawful u := fun j => (h j).trans (h' j)

theorem State.Lawful.wired (h : s.Lawful t) (hs : s.wired) : t.wired := fun j => (h j).1 (hs j)

theorem State.Lawful.of_links (h : t.Lawful u) (hs : t.links = s.links) : s.Lawful u :=
  (State.lawful_of_links hs).trans h

/-- An operation on other parts of the state may follow. -/
theorem State.Lawful.then_links (h : s.Lawful t) (hu : u.links = t.links) : s.Lawful u :=
  h.trans (State.lawful_of_links hu)

theorem State.modLink_lawful {f : Link → Link} (h : s.links[k].Lawful (f s.links[k])) : s.Lawful (s.modLink k f) := fun j => by
  rw [State.modLink_links_get]
  split
  · next e => subst e; exact h
  · exact Link.lawful_refl _

theorem State.ofFn_lawful {f : LinkId → Link} (h : ∀ k : LinkId, s.links[k].Lawful (f k)) :
    s.Lawful { s with links := Vector.ofFn f } := fun j => by
  show s.links[j].Lawful (Vector.ofFn f)[j]
  rw [Vector.ofFn_link]
  exact h j

theorem State.raise_lawful (e : EventKind) (s : State) : s.Lawful (s.raise e) := State.ofFn_lawful fun _ => Link.raise_lawful e _

theorem State.beginSends_lawful (s : State) : s.Lawful s.beginSends := State.ofFn_lawful fun _ => Link.beginSend_lawful _

theorem State.raiseOn_lawful (k : LinkId) (e : EventKind) (s : State) : s.Lawful (s.raiseOn k e) :=
  State.modLink_lawful (Link.raise_lawful e _)

theorem State.complete_lawful (k : LinkId) (tag : Byte) (st : Status) (p : List Byte) (s : State) :
    s.Lawful (s.complete k tag st p) :=
  State.modLink_lawful (s := s.unwait (.request k tag)) (Link.complete_lawful tag st 0 p _)

theorem State.completeRead_lawful (k : LinkId) (tag : Byte) (o : Word32) (p : List Byte) (s : State) :
    s.Lawful (s.completeRead k tag o p) :=
  State.modLink_lawful (s := s.unwait (.request k tag)) (Link.complete_lawful tag .success o p _)

theorem State.completeFor_lawful (r : Option Requester) (st : Status) (p : List Byte) (s : State) :
    s.Lawful (s.completeFor r st p) := by
  unfold State.completeFor
  split
  · split
    · exact s.complete_lawful _ _ _ _
    · exact s.lawful_refl
  · exact s.lawful_refl

theorem State.keep_lawful (m : Msg) (up : s.links[k].up = true) : s.Lawful (s.keep k m) :=
  State.modLink_lawful (Link.keep_lawful m up)

theorem State.keepWaiting_lawful (m : Msg) (up : s.links[k].up = true) : s.Lawful (s.keepWaiting k tag m) :=
  (State.keep_lawful m up).then_links rfl

theorem State.report_lawful (r : Report) (s : State) : s.Lawful (s.report r) :=
  State.raise_lawful .integrity (s.modScanner fun n => { n with report := r })

theorem State.eachChan_lawful {f : Chan → State → State} (hf : ∀ c u, State.Lawful u (f c u)) (cs : List Chan) (s : State) :
    s.Lawful (eachChan f cs s) :=
  eachChan_keeps (P := s.Lawful) (fun c u h => h.trans (hf c u)) cs s.lawful_refl

/-! ### Requests -/

theorem State.cancelCommit_lawful (s : State) : s.Lawful s.cancelCommit := by
  unfold State.cancelCommit
  split
  · next p _ =>
    cases p.owner with
    | link k tag => exact (s.complete_lawful k tag .cancelled []).then_links rfl
    | part => exact State.lawful_of_links rfl
  · exact s.lawful_refl

theorem State.endHold_lawful (s : State) : s.Lawful s.endHold :=
  State.raise_lawful .holdOwner (s.modStaging fun g => { g with hold := none })

theorem State.cancelPending_lawful (s : State) :
    s.Lawful (if s.staging.state = .commitPending then s.cancelCommit else s) := by
  split
  · exact s.cancelCommit_lawful
  · exact s.lawful_refl

theorem State.cancelAndEndHold_lawful (s : State) :
    s.Lawful (if s.staging.state = .commitPending then s.cancelCommit else s).endHold :=
  s.cancelPending_lawful.trans (State.endHold_lawful _)

theorem takeHoldAcquire_lawful (k : LinkId) (tag : Byte) (s : State) : s.Lawful (takeHoldAcquire k tag s) := by
  unfold takeHoldAcquire
  split
  · exact s.complete_lawful _ _ _ _
  · split
    · exact s.complete_lawful _ _ _ _
    · split
      · exact s.complete_lawful _ _ _ _
      · split
        · exact s.complete_lawful _ _ _ _
        · exact (State.raise_lawful .holdOwner (s.modStaging fun g => { g with hold := some k })).trans
            (State.complete_lawful k tag .success [] _)

theorem takeHoldRelease_lawful (k : LinkId) (tag : Byte) (s : State) : s.Lawful (takeHoldRelease k tag s) := by
  unfold takeHoldRelease
  split
  · exact s.cancelAndEndHold_lawful.trans (State.complete_lawful _ _ _ _ _)
  · exact s.complete_lawful _ _ _ _

theorem takeHoldBreak_lawful (k : LinkId) (tag : Byte) (s : State) : s.Lawful (takeHoldBreak k tag s) := by
  unfold takeHoldBreak
  split
  · exact s.cancelAndEndHold_lawful.trans (State.complete_lawful _ _ _ _ _)
  · exact s.complete_lawful _ _ _ _

theorem takeCommitCancel_lawful (k : LinkId) (tag : Byte) (s : State) : s.Lawful (takeCommitCancel k tag s) := by
  unfold takeCommitCancel
  split
  · exact s.cancelPending_lawful.trans (State.complete_lawful _ _ _ _ _)
  · exact s.complete_lawful _ _ _ _

theorem State.checkCommit_lawful (set : ChanSet) (kind : Activation) (crc : Word32) (m : Msg)
    (up : s.links[k].up = true) : s.Lawful (s.checkCommit k tag set kind crc m) := by
  unfold State.checkCommit
  simp only
  split
  · exact s.complete_lawful _ _ _ _
  · split
    · exact s.complete_lawful _ _ _ _
    · exact State.keep_lawful (s := (s.modStaging fun g =>
        { g with
          state := .commitPending
          owner := some (.link k)
          commit := some { owner := .link k tag, set := set, kind := kind } }).unwait (.request k tag)) m up

theorem takeCommit_lawful (ps : List Byte) (up : s.links[k].up = true) : s.Lawful (takeCommit k tag ps s) := by
  unfold takeCommit
  split
  · exact s.complete_lawful _ _ _ _
  · split
    · exact s.complete_lawful _ _ _ _
    · split
      · exact s.complete_lawful _ _ _ _
      · split
        · exact State.keepWaiting_lawful _ up
        · split
          · exact s.complete_lawful _ _ _ _
          · exact State.checkCommit_lawful _ _ _ _ up

theorem takeShowLock_lawful (k : LinkId) (tag : Byte) (s : State) : s.Lawful (takeShowLock k tag s) := by
  unfold takeShowLock
  split
  · exact s.complete_lawful _ _ _ _
  · split
    · exact s.complete_lawful _ _ _ _
    · split
      · exact s.complete_lawful _ _ _ _
      · exact State.Lawful.of_links (State.complete_lawful _ _ _ _ _) rfl

theorem takeShowUnlock_lawful (k : LinkId) (tag : Byte) (s : State) : s.Lawful (takeShowUnlock k tag s) := by
  unfold takeShowUnlock
  split
  · exact s.complete_lawful _ _ _ _
  · split
    · exact s.complete_lawful _ _ _ _
    · exact State.Lawful.of_links (State.complete_lawful _ _ _ _ _) rfl

theorem State.withdrawOverlap_lawful (set : ChanSet) (c : Chan) (s : State) : s.Lawful (s.withdrawOverlap set c) := by
  unfold State.withdrawOverlap
  split
  · next r _ =>
    split
    · exact s.lawful_refl
    · exact (s.complete_lawful r.link r.tag .superseded []).then_links rfl
  · exact s.lawful_refl

theorem takeChannelMode_lawful (ps : List Byte) (up : s.links[k].up = true) : s.Lawful (takeChannelMode k tag ps s) := by
  unfold takeChannelMode
  split
  · exact s.complete_lawful _ _ _ _
  · next set mode _ =>
    have pended : s.Lawful (eachChan
        (fun c s => s.modPipe c fun p => { p with pendingMode := some mode, pendingReq := some ⟨k, tag, set⟩ }) set.chans
        (eachChan (State.withdrawOverlap set) (List.finRange 6) s)) :=
      (State.eachChan_lawful (State.withdrawOverlap_lawful set) _ s).trans
        (State.eachChan_lawful (f := fun c s => s.modPipe c fun p =>
          { p with pendingMode := some mode, pendingReq := some ⟨k, tag, set⟩ }) (fun _ _ => State.lawful_of_links rfl) _ _)
    exact pended.trans (State.keep_lawful _ ((pended k).2 up))

theorem takeBarrierLimit_lawful (ps : List Byte) (up : s.links[k].up = true) : s.Lawful (takeBarrierLimit k tag ps s) := by
  unfold takeBarrierLimit
  split
  · exact s.complete_lawful _ _ _ _
  · next v rest =>
    have withdrawn : s.Lawful (match s.barrier.pendingReq with
        | some (k', tag') => s.complete k' tag' .superseded []
        | none => s) := by
      split
      · exact s.complete_lawful _ _ _ _
      · exact s.lawful_refl
    exact (withdrawn.then_links rfl).trans (State.keep_lawful _ ((withdrawn k).2 up))

theorem takePresetStore_lawful (ps : List Byte) (up : s.links[k].up = true) : s.Lawful (takePresetStore k tag ps s) := by
  unfold takePresetStore
  split
  · exact s.complete_lawful _ _ _ _
  · next sl _ =>
    split
    · exact s.complete_lawful _ _ _ _
    · split
      · exact s.complete_lawful _ _ _ _
      · split
        · exact s.complete_lawful _ _ _ _
        · unfold State.beginNv
          exact State.Lawful.of_links (State.keep_lawful _ up) rfl

theorem takePresetLoad_lawful (ps : List Byte) (up : s.links[k].up = true) : s.Lawful (takePresetLoad k tag ps s) := by
  unfold takePresetLoad
  split
  · exact s.complete_lawful _ _ _ _
  · next sl _ =>
    split
    · exact s.complete_lawful _ _ _ _
    · split
      · exact s.complete_lawful _ _ _ _
      · split
        · exact s.complete_lawful _ _ _ _
        · split
          · exact s.complete_lawful _ _ _ _
          · split
            · exact s.complete_lawful _ _ _ _
            · split
              · exact State.keepWaiting_lawful _ up
              · unfold State.beginNv
                exact (State.Lawful.of_links (State.keep_lawful _ up) rfl).then_links rfl

theorem takePresetErase_lawful (ps : List Byte) (up : s.links[k].up = true) : s.Lawful (takePresetErase k tag ps s) := by
  unfold takePresetErase
  split
  · exact s.complete_lawful _ _ _ _
  · split
    · exact s.complete_lawful _ _ _ _
    · split
      · exact s.complete_lawful _ _ _ _
      · split
        · exact s.complete_lawful _ _ _ _
        · unfold State.beginNv
          exact State.Lawful.of_links (State.keep_lawful _ up) rfl

theorem takeSetupStore_lawful (ps : List Byte) (up : s.links[k].up = true) : s.Lawful (takeSetupStore k tag ps s) := by
  unfold takeSetupStore
  split
  · exact s.complete_lawful _ _ _ _
  · split
    · exact s.complete_lawful _ _ _ _
    · unfold State.beginNv
      exact State.Lawful.of_links (State.keep_lawful _ up) rfl

theorem takeEventEnable_lawful (ps : List Byte) (up : s.links[k].up = true) : s.Lawful (takeEventEnable k tag ps s) := by
  unfold takeEventEnable
  split
  · exact s.complete_lawful _ _ _ _
  · next e _ =>
    have enabled : s.Lawful (s.modLink k fun l => { l with enabled := e }) :=
      State.modLink_lawful (Link.lawful_traffic (fun down => by cases up.symm.trans down) rfl rfl rfl rfl rfl rfl rfl rfl)
    exact (enabled.trans (State.complete_lawful _ _ _ _ _)).trans (State.modLink_lawful (Link.testNotice_lawful _))

theorem takeCommand_lawful (code : Byte) (ps : List Byte) (up : s.links[k].up = true) :
    s.Lawful (takeCommand k tag code ps s) := by
  unfold takeCommand
  split
  · exact takeHoldAcquire_lawful k tag s
  · exact takeHoldRelease_lawful k tag s
  · exact takeHoldBreak_lawful k tag s
  · exact takeCommit_lawful ps up
  · exact takeCommitCancel_lawful k tag s
  · exact takeShowLock_lawful k tag s
  · exact takeShowUnlock_lawful k tag s
  · exact takeChannelMode_lawful ps up
  · exact takeBarrierLimit_lawful ps up
  · exact takePresetStore_lawful ps up
  · exact takePresetLoad_lawful ps up
  · exact takePresetErase_lawful ps up
  · exact takeSetupStore_lawful ps up
  · exact takeEventEnable_lawful ps up
  · exact s.complete_lawful _ _ _ _

/-! ### Judgements -/

theorem judgeCommand_lawful (code : Byte) (ps : List Byte) (up : s.links[k].up = true) :
    s.Lawful (judgeCommand k tag code ps s) := by
  unfold judgeCommand
  split
  · exact s.complete_lawful _ _ _ _
  · split
    · exact s.complete_lawful _ _ _ _
    · exact takeCommand_lawful code ps up

theorem takeStagingRead_lawful (m : Msg) (r : Region) (offset : Word32) (length : Nat) (up : s.links[k].up = true) :
    s.Lawful (takeStagingRead k tag m r offset length s) := by
  unfold takeStagingRead
  split
  · exact s.completeRead_lawful _ _ _ _
  · exact State.keepWaiting_lawful m up

theorem judgeRead_lawful (region channel : Byte) (offset : Word32) (length : BitVec 16) (up : s.links[k].up = true) :
    s.Lawful (judgeRead k tag region channel offset length s) := by
  unfold judgeRead
  split
  · exact s.complete_lawful _ _ _ _
  · next r _ =>
    split
    · exact s.complete_lawful _ _ _ _
    · split
      · exact s.complete_lawful _ _ _ _
      · cases r with
        | stagingRecord c => exact takeStagingRead_lawful _ _ _ _ up
        | stagingHeader => exact takeStagingRead_lawful _ _ _ _ up
        | activeRecord c => exact s.completeRead_lawful _ _ _ _
        | activeHeader => exact s.completeRead_lawful _ _ _ _
        | setup => exact s.completeRead_lawful _ _ _ _
        | status => exact s.completeRead_lawful _ _ _ _
        | directory => exact s.completeRead_lawful _ _ _ _

theorem judgeRequest_lawful (m : Msg) (up : s.links[k].up = true) : s.Lawful (judgeRequest k m s) := by
  cases m with
  | read tag region channel offset length => exact judgeRead_lawful region channel offset length up
  | command tag code ps => exact judgeCommand_lawful code ps up
  | write => exact s.lawful_refl
  | clear => exact s.lawful_refl

/-- R130, R132, R179: a WRITE that is applied leaves the links. -/
theorem judgeOwner_links {r : Region} {offset : Nat} {payload : List Byte} (h : judgeOwner k r offset payload s = .applied t) :
    t.links = s.links := by
  cases r with
  | stagingRecord c =>
    rw [judgeStagingWrite_applied h, State.writeRecord]
    split <;> rfl
  | stagingHeader => rw [judgeStagingWrite_applied h]; rfl
  | setup => cases h; rfl
  | activeRecord => cases h
  | activeHeader => cases h
  | status => cases h
  | directory => cases h

theorem judgeWrite_links {region channel : Byte} {offset : Word32} {payload : List Byte}
    (h : judgeWrite k region channel offset payload s = .applied t) : t.links = s.links := by
  unfold judgeWrite at h
  split at h
  · cases h
  · split at h
    · cases h
    · split at h
      · cases h
      · split at h
        · cases h
        · exact judgeOwner_links h

theorem State.leaveHead_lawful {m : Msg} {rest : List Msg} (rx : s.links[k].rx = m :: rest) : s.Lawful (s.leaveHead k m) :=
  State.modLink_lawful (s := s.unwait (.write k)) (Link.leavePosted_lawful rx)

theorem State.refusePosted_lawful {m : Msg} {rest : List Msg} (st : Status) (rx : s.links[k].rx = m :: rest) :
    s.Lawful (s.refusePosted k m st) :=
  ((State.leaveHead_lawful rx).trans (State.modLink_lawful (Link.recordRefusal_lawful st m _))).trans
    (State.raiseOn_lawful k .refused _)

theorem State.judgeHead_lawful (k : LinkId) (s : State) (hs : s.wired) : s.Lawful (s.judgeHead k) := by
  have up {m : Msg} {rest : List Msg} (rx : s.links[k].rx = m :: rest) : s.links[k].up = true := by
    by_contra e
    cases rx.symm.trans ((hs k).2.2.2.2.2.2.1 (by simpa using e)).1
  have popped {m : Msg} {rest : List Msg} (rx : s.links[k].rx = m :: rest) (free : m.cost = 0) :
      s.Lawful (s.modLink k Link.popHead) := State.modLink_lawful (Link.popHead_lawful rx free)
  unfold State.judgeHead
  split
  · exact s.lawful_refl
  · next rx =>
    unfold takeWrite
    split
    · next t h =>
      have links := judgeWrite_links h
      exact (State.lawful_of_links links).trans (State.leaveHead_lawful (by rw [links]; exact rx))
    · exact State.refusePosted_lawful _ rx
    · exact State.lawful_of_links rfl
  · next set rest rx =>
    refine (State.modLink_lawful (Link.clearKinds_lawful set _)).trans (State.leaveHead_lawful (rest := rest) ?_)
    rw [State.modLink_links_same]
    exact rx
  · next rx => exact (popped rx rfl).trans (judgeRequest_lawful _ ((popped rx rfl k).2 (up rx)))
  · next rx => exact (popped rx rfl).trans (judgeRequest_lawful _ ((popped rx rfl k).2 (up rx)))

/-- A request waits on an UP link alone. -/
theorem State.up_of_waiting (hs : s.wired) {m : Msg} (h : s.waitingMsg k tag = some m) : s.links[k].up = true := by
  by_contra e
  have := ((hs k).2.2.2.2.2.2.1 (by simpa using e)).2.1
  rw [State.waitingMsg, this] at h
  cases h

theorem State.serve_lawful (w : Claimant) (s : State) (hs : s.wired) : s.Lawful (s.serve w) := by
  cases w with
  | write k =>
    unfold State.serve
    simp only
    split
    · exact s.judgeHead_lawful k hs
    · exact s.lawful_refl
  | request k tag =>
    unfold State.serve
    simp only
    split
    · next m h =>
      split
      · exact judgeRequest_lawful m (State.up_of_waiting hs h)
      · exact s.lawful_refl
    · exact s.lawful_refl
  | repair => exact s.lawful_refl

theorem settle_wired (n : Nat) (ws : List Claimant) (ks : List LinkId) (hs : s.wired) : (settle n ws ks s).wired :=
  settle_keeps State.wired (fun w u hu => (u.serve_lawful w hu).wired hu) (fun k u hu => (u.judgeHead_lawful k hu).wired hu)
    n ws ks s hs

theorem State.settled_wired (s : State) (h : t.wired) : (s.settled t).wired :=
  (State.beginSends_lawful _).wired (settle_wired _ _ _ h)

end Sys2Proof.Machine
end

section
/-! The ends of operations and the arrivals on the links keep the laws of the links. -/

namespace Sys2Proof.Machine

variable {s t u : State} {k : LinkId}

/-! ### The ends of operations -/

theorem State.storeEnd_lawful (s : State) : s.Lawful s.storeEnd := by
  unfold State.storeEnd
  split
  · dsimp only
    exact State.Lawful.of_links ((State.raise_lawful .preset _).trans (State.completeFor_lawful _ _ _ _))
      (by simp [State.setSlot, State.idleNv])
  · exact s.lawful_refl

theorem State.eraseEnd_lawful (s : State) : s.Lawful s.eraseEnd := by
  unfold State.eraseEnd
  split
  · dsimp only
    exact State.Lawful.of_links ((State.raise_lawful .preset _).trans (State.completeFor_lawful _ _ _ _))
      (by simp [State.setSlot, State.idleNv])
  · exact s.lawful_refl

theorem State.setupEnd_lawful (s : State) : s.Lawful s.setupEnd := by
  unfold State.setupEnd
  split
  · dsimp only
    exact State.Lawful.of_links ((State.raise_lawful .setup _).trans (State.completeFor_lawful _ _ _ _))
      (by simp [State.idleNv])
  · exact s.lawful_refl

theorem State.settleBoot_lawful (o : BootOutcome) (s : State) : s.Lawful (s.settleBoot o) :=
  State.ofFn_lawful (s := s.modPreset fun p => { p with bootOutcome := some o }) fun _ => Link.tryUp_lawful _

theorem State.failRepair_lawful (c : Chan) (s : State) : s.Lawful (s.failRepair c) :=
  State.report_lawful (.repairFailed c) (s.modScanner fun n => { n with repair := none })

theorem State.commitRepair_lawful (c : Chan) (s : State) : s.Lawful (s.commitRepair c) := by
  unfold State.commitRepair
  dsimp only
  split
  · exact State.lawful_of_links rfl
  · exact State.Lawful.of_links (State.failRepair_lawful c _) rfl

theorem State.commitStartUp_lawful (s : State) : s.Lawful s.commitStartUp := by
  unfold State.commitStartUp
  split
  · exact State.Lawful.of_links (State.settleBoot_lawful _ _) rfl
  · exact State.Lawful.of_links (State.settleBoot_lawful _ _) rfl

theorem State.endLoad_lawful (sl : SlotId) (owner : OpOwner) (s : State) : s.Lawful (s.endLoad sl owner) := by
  unfold State.endLoad
  dsimp only
  split
  · exact State.Lawful.of_links (State.completeFor_lawful _ _ _ _) rfl
  · exact State.Lawful.of_links (State.commitStartUp_lawful _) rfl
  · exact State.lawful_of_links rfl

theorem State.recordSound_lawful (sl : SlotId) (owner : OpOwner) (p : Progress) (s : State) :
    s.Lawful (s.recordSound sl owner p) := by
  unfold State.recordSound
  dsimp only
  split
  · exact State.Lawful.of_links (State.commitRepair_lawful _ _) rfl
  · split
    · exact State.Lawful.of_links (State.endLoad_lawful _ _ _) rfl
    · exact State.lawful_of_links rfl

theorem State.recordBad_lawful (sl : SlotId) (c : Chan) (s : State) : s.Lawful (s.recordBad sl c) := by
  unfold State.recordBad
  exact (State.Lawful.of_links (State.raise_lawful .preset (s.setSlot sl { s.preset.directory[sl] with state := .corrupt })) rfl).then_links rfl

theorem State.recordLanded_lawful (s : State) : s.Lawful s.recordLanded := by
  unfold State.recordLanded
  split
  · next sl owner p _ _ =>
    dsimp only
    have landed (bytes : List Byte) : s.Lawful ((s.landRecord p.landing bytes).landName owner) := by
      unfold State.landName
      split <;> exact State.lawful_of_links rfl
    split
    · exact (landed _).trans (State.recordSound_lawful _ _ _ _)
    · exact (landed _).trans (State.recordBad_lawful _ _ _)
  · exact s.lawful_refl

theorem State.restoreEnd_lawful (s : State) : s.Lawful s.restoreEnd := by
  unfold State.restoreEnd
  split
  · exact s.lawful_refl
  · next r _ =>
    have opened : s.Lawful (((s.copyActive r.chan).modStaging fun g => { g with restore := none }).openStaging) :=
      State.lawful_of_links rfl
    dsimp only
    generalize ((s.copyActive r.chan).modStaging fun g => { g with restore := none }).openStaging = u at opened
    split
    · exact opened.trans (u.settleBoot_lawful _)
    · exact opened.trans (u.failRepair_lawful _)
    · exact opened.trans (u.completeFor_lawful _ _ _)

theorem State.endRepair_lawful (s : State) : s.Lawful s.endRepair := by
  unfold State.endRepair
  split
  · next r _ =>
    dsimp only
    have reported : s.Lawful (State.report (.repaired r.chan) ((s.modWatch r.chan fun w =>
        { w with state := .referencePending, reference := none, source := none }).modScanner fun n =>
        { n with repair := none })) := State.Lawful.of_links (State.report_lawful _ _) rfl
    split
    · exact reported.then_links rfl
    · exact reported
  · exact s.lawful_refl

theorem State.copyEnd_lawful (s : State) : s.Lawful s.copyEnd := by
  unfold State.copyEnd
  split
  · exact s.lawful_refl
  · dsimp only
    split
    · exact State.Lawful.of_links (State.endRepair_lawful _) rfl
    · exact State.lawful_of_links rfl

theorem State.nextPass_links (c : Chan) (s : State) : (s.nextPass c).links = s.links := by
  unfold State.nextPass
  split <;> rfl

theorem State.findFault_lawful (c : Chan) (s : State) : s.Lawful (s.findFault c) := by
  unfold State.findFault
  dsimp only
  have reported : s.Lawful (State.report (.fault c) (s.modWatch c fun w => { w with state := .fault })) :=
    State.Lawful.of_links (State.report_lawful _ _) rfl
  split
  · exact reported.then_links rfl
  · exact reported

theorem State.passEnd_lawful (s : State) : s.Lawful s.passEnd := by
  unfold State.passEnd
  split
  · exact s.lawful_refl
  · next p _ =>
    dsimp only
    refine State.Lawful.then_links ?_ (State.nextPass_links _ _)
    split
    · exact State.lawful_of_links rfl
    · unfold State.compareReference
      dsimp only
      split
      · exact State.lawful_of_links rfl
      · exact State.Lawful.of_links (State.findFault_lawful _ _) rfl
    · exact s.lawful_refl
    · exact s.lawful_refl

theorem State.tryRepairs_lawful (q : List Chan) (s : State) : s.Lawful (s.tryRepairs q) := by
  induction q generalizing s with
  | nil => exact State.lawful_of_links rfl
  | cons c rest ih =>
    unfold State.tryRepairs
    split
    · exact State.lawful_of_links rfl
    · exact State.Lawful.trans (State.Lawful.of_links (State.report_lawful (.repairFailed c) (s.modScanner fun n => { n with queue := rest })) rfl) (ih _)

theorem State.beginRepair_lawful (s : State) : s.Lawful s.beginRepair := by
  unfold State.beginRepair
  split
  · dsimp only
    have tried := (s.tryRepairs_lawful s.scanner.queue).then_links
      (u := (s.tryRepairs s.scanner.queue).unwait .repair) rfl
    split
    · exact tried
    · exact tried.then_links rfl
  · exact s.lawful_refl

theorem State.changeLoadedBody_links (changed : List Host.Cell) (s : State) : (s.changeLoadedBody changed).links = s.links := by
  unfold State.changeLoadedBody
  split <;> rfl

/-! ### Arrivals on the links -/

theorem State.protocolFault_lawful (k : LinkId) (r : FaultReason) (kind : Byte) (s : State) :
    s.Lawful (s.protocolFault k r kind) :=
  (State.modLink_lawful (Link.recordFault_lawful r kind _)).trans (State.raiseOn_lawful k .protocol _)

theorem Msg.cost_of_tag {m : Msg} {tag : Byte} (h : m.tag? = some tag) : m.cost = 0 := by
  cases m with
  | write => cases h
  | clear => cases h
  | read => rfl
  | command => rfl

theorem State.takeIn_lawful (m : Msg) (up : s.links[k].up = true) : s.Lawful (s.takeIn k m) := by
  unfold State.takeIn
  dsimp only
  split
  · split
    · exact s.protocolFault_lawful _ _ _
    · next units => exact State.modLink_lawful (Link.holdPosted_lawful up (Nat.not_lt.1 units))
  · next tag ht =>
    split
    · exact s.protocolFault_lawful _ _ _
    · next place =>
      split
      · exact s.protocolFault_lawful _ _ _
      · next free =>
        exact State.modLink_lawful (Link.holdRequest_lawful up (Msg.cost_of_tag ht) (Nat.not_le.1 place) free)

theorem State.takeCredit_lawful (k : LinkId) (grant : Byte) (s : State) : s.Lawful (s.takeCredit k grant) := by
  unfold State.takeCredit
  split
  · exact s.protocolFault_lawful _ _ _
  · next within =>
    refine State.modLink_lawful (Link.Lawful.trans
      (l' := { s.links[k] with noticeCredit := s.links[k].noticeCredit + grant.toNat }) ⟨fun h => ?_, id⟩
      (Link.testNotice_lawful _))
    obtain ⟨hcost, hshare, hlen, hnodup, -, hrest⟩ := h
    exact ⟨hcost, hshare, hlen, hnodup, Nat.not_lt.1 within, hrest⟩

theorem State.arrive_lawful (k : LinkId) (a : Arrival) (s : State) : s.Lawful (s.arrive k a) := by
  unfold State.arrive
  split
  · next up =>
    split
    · exact s.raiseOn_lawful _ _
    · exact s.protocolFault_lawful _ _ _
    · exact s.takeCredit_lawful _ _
    · exact State.takeIn_lawful _ up
  · exact s.lawful_refl

end Sys2Proof.Machine
end

section
/-! What each command does, as a run of moves: the ones that may give a tick, the ones whose effect is direct, and the ones
after whose effect waiting messages are judged. -/

namespace Sys2Proof.Machine

variable {σ : Scope} {s t u : State}

/-! ### Commands that may give a tick (R52 to R63) -/

theorem State.raise_runs (e : EventKind) (s : State) : s.Runs (s.raise e) := State.runs_of_core (s.raise_core e)

theorem State.beginSends_runs (s : State) : s.Runs s.beginSends := State.runs_of_core s.beginSends_core

theorem State.enterFreeRun_runs (s : State) : s.Runs s.enterFreeRun := (s.modTimebase_runs _).trans (State.raise_runs _ _)

theorem State.enterLocked_ticked (s : State) : s.Ticked s.enterLocked := by
  unfold State.enterLocked
  dsimp only
  generalize hu : s.modTimebase _ = u
  have entered : s.Runs u := hu ▸ s.modTimebase_runs _
  refine State.Ticked.runs (State.Runs.ticked entered ?_) (State.raise_runs _ _)
  split
  · exact u.tick_ticked
  · exact State.ticked_of_runs (u.modTimebase_runs _)

theorem State.holdoverTick_ticked (s : State) : s.Ticked s.holdoverTick :=
  State.Runs.ticked (s.modTimebase_runs _) (State.tick_ticked _)

/-- An interval that joins the history locks the Timebase when it completes a run. -/
theorem State.lockAt_ticked (f : Timebase → Timebase) (n : Nat) (s : State) :
    s.Ticked (if n ≤ (s.modTimebase f).timebase.good then (s.modTimebase f).enterLocked else s.modTimebase f) := by
  split
  · exact State.Runs.ticked (s.modTimebase_runs f) (State.enterLocked_ticked _)
  · exact State.ticked_of_runs (s.modTimebase_runs f)

theorem State.edgeAcquiring_ticked (i : Nat) (s : State) : s.Ticked (s.edgeAcquiring i) := by
  unfold State.edgeAcquiring
  split
  · exact s.lockAt_ticked _ 8
  · exact State.ticked_of_runs (s.modTimebase_runs _)

theorem State.edgeHoldover_ticked (i : Nat) (s : State) : s.Ticked (s.edgeHoldover i) := by
  unfold State.edgeHoldover
  split
  · exact s.lockAt_ticked _ 4
  · exact State.ticked_of_runs (s.modTimebase_runs _)

theorem State.edgeLocked_ticked (i : Nat) (s : State) : s.Ticked (s.edgeLocked i) := by
  unfold State.edgeLocked
  split
  · exact State.Runs.ticked (s.modTimebase_runs _) (State.tick_ticked _)
  · dsimp only
    refine State.Ticked.runs (State.Runs.ticked (s.modTimebase_runs Timebase.enterHoldover) ?_) (State.raise_runs _ _)
    split
    · exact State.holdoverTick_ticked _
    · exact State.ticked_of_runs (State.runs_of_core rfl)

theorem State.judgeEdge_ticked (i : Nat) (s : State) : s.Ticked (s.judgeEdge i) := by
  unfold State.judgeEdge
  split
  · exact State.ticked_of_runs (State.runs_of_core rfl)
  · exact s.edgeAcquiring_ticked i
  · exact s.edgeLocked_ticked i
  · exact s.edgeHoldover_ticked i

theorem State.takeEdge_ticked (s : State) : s.Ticked s.takeEdge := by
  unfold State.takeEdge
  split
  · exact State.ticked_of_runs (((s.modTimebase_runs _).trans (State.modTimebase_runs _ _)).trans (State.raise_runs _ _))
  · split
    · exact State.Runs.ticked (s.modTimebase_runs _) (State.judgeEdge_ticked _ _)
    · exact State.ticked_of_runs (s.modTimebase_runs _)

theorem State.scheduledTick_ticked (s : State) : s.Ticked s.scheduledTick := by
  refine State.Runs.ticked (t := s.reachTime s.timebase.due) (s.modTimebase_runs _) ?_
  unfold State.scheduledTick
  dsimp only
  split
  · refine State.Ticked.runs (State.holdoverTick_ticked _) ?_
    unfold State.endHoldover
    split
    · exact State.enterFreeRun_runs _
    · exact State.runs_of_core rfl
  · exact State.tick_ticked _

theorem execReferenceEdge_ticked {elapsed : Nat} (h : execReferenceEdge elapsed s = .next t) : s.Ticked t := by
  unfold execReferenceEdge at h
  split at h
  · cases h
    refine State.Ticked.runs (State.Runs.ticked (t := s.passTime elapsed) (s.modTimebase_runs _) ?_) (State.beginSends_runs _)
    split
    · exact State.takeEdge_ticked _
    · exact State.ticked_of_runs (State.runs_of_core rfl)
  · cases h
    exact State.ticked_of_runs s.beginSends_runs

theorem execMissingEdgeLimitLocked_ticked (h : execMissingEdgeLimitLocked s = .next t) : s.Ticked t := by
  unfold execMissingEdgeLimitLocked at h
  split at h
  · obtain ⟨u, hu⟩ : ∃ u, u = s.reachTime (s.timebase.limitFrom + 3 * s.timebase.period / 2) := ⟨_, rfl⟩
    have reached : s.Runs u := hu ▸ s.modTimebase_runs _
    rw [← hu] at h
    obtain rfl := Host.Outcome.next.inj h
    have entered : s.Runs (u.modTimebase Timebase.enterHoldover) := reached.trans (u.modTimebase_runs _)
    exact State.Ticked.runs (entered.ticked (State.holdoverTick_ticked _))
      ((State.raise_runs _ _).trans (State.beginSends_runs _))
  · cases h
    exact State.ticked_of_runs s.beginSends_runs

theorem execHoldoverTickLimit_ticked (h : execHoldoverTickLimit s = .next t) : s.Ticked t := by
  unfold execHoldoverTickLimit at h
  split at h
  · cases h
    exact s.scheduledTick_ticked.runs (State.beginSends_runs _)
  · cases h
    exact State.ticked_of_runs s.beginSends_runs

theorem execFrameTick_ticked (h : execFrameTick s = .next t) : s.Ticked t := by
  unfold execFrameTick at h
  split at h
  · cases h
    exact s.scheduledTick_ticked.runs (State.beginSends_runs _)
  · cases h
    exact State.ticked_of_runs s.beginSends_runs

/-! ### Commands whose effect is direct -/

theorem Moves.beginSends (h : Moves σ s t) : Moves σ s t.beginSends := h.then_core t.beginSends_core

/-- R57: the entry into FREE_RUN keeps the laws of the Timebase. -/
theorem State.enterFreeRun_moves (s : State) : Moves σ s s.enterFreeRun := by
  refine Moves.then_core (.single (.intro (.clock (fun t => { t with
    state := .freeRun, period := t.nominal, history := [], good := 0, holdoverTicks := 0, lastEdge := none,
    lastInterval := none }) (.inr fun hok => ?_)) rfl)) (State.raise_core _ _)
  obtain ⟨hrate, -⟩ := hok
  exact ⟨hrate, by simp [Timebase.nominal]⟩

theorem execMissingEdgeLimitAcquiring_moves (h : execMissingEdgeLimitAcquiring s = .next t) : Moves σ s t := by
  unfold execMissingEdgeLimitAcquiring at h
  split at h
  · cases h
    exact Moves.beginSends (.trans (.single (.intro (.clock _ (.inr id)) rfl)) (State.enterFreeRun_moves _))
  · cases h
    exact Moves.beginSends .refl

theorem execArrival_moves (c : Chan) (elapsed : Nat) {act : State → State} (s : State)
    (hact : ∀ u : State, u.pipes[c].mode.captures = true → Moves σ u (act u)) :
    Moves σ s (s.arrival c elapsed act).beginSends :=
  Moves.beginSends (s.arrival_moves c elapsed hact)

theorem execSignalLost_moves {c : Chan} {elapsed : Nat} (h : execSignalLost c elapsed s = .next t) : Moves σ s t := by
  unfold execSignalLost at h
  split at h
  · cases h
    refine Moves.beginSends ((s.passTime_moves elapsed).trans ?_)
    split
    · exact State.signalLoss_moves c _
    · exact .refl
  · cases h
    exact Moves.beginSends .refl

theorem execSignalLossLimit_moves {c : Chan} (h : execSignalLossLimit c s = .next t) : Moves σ s t := by
  unfold execSignalLossLimit at h
  split at h
  · cases h
    exact Moves.beginSends (.trans (.single (.intro (.clock _ (.inr id)) rfl)) (State.signalLoss_moves c _))
  · cases h
    exact Moves.beginSends .refl

theorem execLinkUp_moves {k : LinkId} (h : execLinkUp k s = .next t) : Moves σ s t := by
  cases h
  exact Moves.beginSends (.trans (Moves.of_core (s.modLink_core k _ rfl)) (State.linkUp_moves k _))

theorem execMessageSent_moves {k : LinkId} (h : execMessageSent k s = .next t) : Moves σ s t := by
  cases h
  exact Moves.beginSends (Moves.of_core (s.sent_core k))

theorem execSetupRecordRead_moves {changed : List Host.Cell} (h : execSetupRecordRead changed s = .next t) :
    Moves σ s t := by
  unfold execSetupRecordRead at h
  split at h
  · split at h
    · cases h
      exact Moves.beginSends (.trans (.single (.intro (.setupFlash _ (fun h => Cells.change_wf _ _ _ h.2.2.2.2.1)) rfl))
        (State.setupRead_moves _))
    · cases h
      exact Moves.beginSends .refl
  · cases h

theorem execDirectoryScanEnd_moves (hσ : σ.ends) (h : execDirectoryScanEnd s = .next t) : Moves σ s t := by
  unfold execDirectoryScanEnd at h
  split at h
  · next hs =>
    cases h
    exact Moves.beginSends (s.scanExamine_moves hσ hs.1 hs.2)
  · cases h
    exact Moves.beginSends .refl

/-! ### Commands after which waiting messages are judged -/

/-- The commands at which an NV operation on a slot may end. -/
def endsSlotOp : Instr → Prop
  | .directoryScanEnd => True
  | .presetRecordLanded _ => True
  | .presetStoreEnd => True
  | .presetEraseEnd => True
  | _ => False

/-- The commands but START_UP, damage, LINK_DOWN and those that may give a tick; an NV operation on a slot ends at the ones
that may end it. -/
inductive Acted (mayEnd : Prop) (s : State) : State → Prop
  /-- The effect is all. -/
  | direct (t : State) (moves : ∀ σ : Scope, (mayEnd → σ.ends) → Moves σ s t) : Acted mayEnd s t
  /-- What the effect calls for is judged, and the links send. -/
  | settled (u : State) (n : Nat) (ws : List Claimant) (ks : List LinkId)
      (moves : ∀ σ : Scope, (mayEnd → σ.ends) → Moves σ s u) (lawful : s.Lawful u) :
    Acted mayEnd s (settle n ws ks u).beginSends

variable {mayEnd : Prop}

theorem Acted.of_settled (lawful : s.Lawful u) (h : ∀ σ : Scope, (mayEnd → σ.ends) → Moves σ s u) :
    Acted mayEnd s (s.settled u) :=
  .settled u _ _ _ h lawful

theorem State.receive_acted (k : LinkId) (a : Arrival) (s : State) : Acted mayEnd s (s.receive k a) :=
  .of_settled (s.arrive_lawful k a) fun _ _ => Moves.of_core (s.arrive_core k a)

/-- What a command does. -/
inductive Executed (s : State) : Instr → State → Prop
  | startUp : Executed s .startUp s.startUp
  | damage (b : Bank) (target : CalTarget) (changed : List Host.Cell) (scanned stored : Nat) :
    Executed s (.memoryDamage b target changed scanned stored)
      (((s.passSees b target changed scanned).storeSees b target changed stored).changeStructure b target changed).beginSends
  | ticked (c : Instr) (t : State) (may : mayChangeActive c = true) (h : s.Ticked t) : Executed s c t
  | linkDown (k : LinkId) : Executed s (.linkDown k)
      (s.settled (if s.links[k].up then s.linkDown k else s.modLink k fun l => { l with peer := false }))
  | acted (c : Instr) (t : State) (start : c ≠ .startUp) (h : Acted (endsSlotOp c) s t) : Executed s c t

theorem exec_executed {c : Instr} (h : exec c s = .next t) : Executed s c t := by
  cases c with
  | startUp => cases h; exact .startUp
  | memoryDamage b target changed scanned stored =>
    simp only [exec, execMemoryDamage] at h
    split at h
    · cases h; exact .damage b target changed scanned stored
    · cases h
  | linkDown k => cases h; exact .linkDown k
  | referenceEdge elapsed => exact .ticked _ _ rfl (execReferenceEdge_ticked h)
  | missingEdgeLimitLocked => exact .ticked _ _ rfl (execMissingEdgeLimitLocked_ticked h)
  | holdoverTickLimit => exact .ticked _ _ rfl (execHoldoverTickLimit_ticked h)
  | frameTick => exact .ticked _ _ rfl (execFrameTick_ticked h)
  | setupRecordRead changed => exact .acted _ _ (by simp) (.direct _ fun σ _ => execSetupRecordRead_moves h)
  | directoryScanEnd => exact .acted _ _ (by simp) (.direct _ fun σ hσ => execDirectoryScanEnd_moves (hσ trivial) h)
  | missingEdgeLimitAcquiring => exact .acted _ _ (by simp) (.direct _ fun σ _ => execMissingEdgeLimitAcquiring_moves h)
  | frameHeader c elapsed n id w ht =>
    cases h
    exact .acted _ _ (by simp) (.direct _ fun σ _ => execArrival_moves c elapsed s fun u hu => u.takeHeader_moves c n id w ht hu)
  | line c elapsed pixels =>
    cases h
    exact .acted _ _ (by simp) (.direct _ fun σ _ => execArrival_moves c elapsed s fun u hu => u.takeLine_moves c pixels hu)
  | endOfFrame c elapsed =>
    cases h
    exact .acted _ _ (by simp) (.direct _ fun σ _ => execArrival_moves c elapsed s fun u hu => u.takeEnd_moves c hu)
  | signalPresent c elapsed =>
    cases h
    exact .acted _ _ (by simp) (.direct _ fun σ _ => execArrival_moves c elapsed s fun u _ => .refl)
  | signalLost c elapsed => exact .acted _ _ (by simp) (.direct _ fun σ _ => execSignalLost_moves h)
  | signalLossLimit c => exact .acted _ _ (by simp) (.direct _ fun σ _ => execSignalLossLimit_moves h)
  | linkUp k => exact .acted _ _ (by simp) (.direct _ fun σ _ => execLinkUp_moves h)
  | messageSent k => exact .acted _ _ (by simp) (.direct _ fun σ _ => execMessageSent_moves h)
  | messageArrival k bytes => cases h; exact .acted _ _ (by simp) (s.receive_acted k _)
  | credit k grant => cases h; exact .acted _ _ (by simp) (s.receive_acted k _)
  | stagingRecordWrite k c offset payload => cases h; exact .acted _ _ (by simp) (s.receive_acted k _)
  | stagingHeaderWrite k offset payload => cases h; exact .acted _ _ (by simp) (s.receive_acted k _)
  | setupWrite k offset payload => cases h; exact .acted _ _ (by simp) (s.receive_acted k _)
  | write k region channel offset payload => cases h; exact .acted _ _ (by simp) (s.receive_acted k _)
  | stagingRead k tag target offset length => cases h; exact .acted _ _ (by simp) (s.receive_acted k _)
  | clear k set => cases h; exact .acted _ _ (by simp) (s.receive_acted k _)
  | holdAcquire k tag ps => cases h; exact .acted _ _ (by simp) (s.receive_acted k _)
  | holdRelease k tag ps => cases h; exact .acted _ _ (by simp) (s.receive_acted k _)
  | holdBreak k tag ps => cases h; exact .acted _ _ (by simp) (s.receive_acted k _)
  | commit k tag ps => cases h; exact .acted _ _ (by simp) (s.receive_acted k _)
  | commitCancel k tag ps => cases h; exact .acted _ _ (by simp) (s.receive_acted k _)
  | showLock k tag ps => cases h; exact .acted _ _ (by simp) (s.receive_acted k _)
  | showUnlock k tag ps => cases h; exact .acted _ _ (by simp) (s.receive_acted k _)
  | channelMode k tag ps => cases h; exact .acted _ _ (by simp) (s.receive_acted k _)
  | barrierLimit k tag ps => cases h; exact .acted _ _ (by simp) (s.receive_acted k _)
  | presetStore k tag ps => cases h; exact .acted _ _ (by simp) (s.receive_acted k _)
  | presetLoad k tag ps => cases h; exact .acted _ _ (by simp) (s.receive_acted k _)
  | presetErase k tag ps => cases h; exact .acted _ _ (by simp) (s.receive_acted k _)
  | setupStore k tag ps => cases h; exact .acted _ _ (by simp) (s.receive_acted k _)
  | eventEnable k tag ps => cases h; exact .acted _ _ (by simp) (s.receive_acted k _)
  | serveWaitingRequests =>
    cases h; exact .acted _ _ (by simp) (.settled s _ _ _ (fun _ _ => .refl) s.lawful_refl)
  | presetRecordLanded changed =>
    simp only [exec, execPresetRecordLanded] at h
    split at h
    · cases h
      exact .acted _ _ (by simp) (.of_settled ((State.lawful_of_links (s.changeLoadedBody_links changed)).trans
        (State.recordLanded_lawful _)) fun σ hσ => (s.changeLoadedBody_moves changed).trans (State.recordLanded_moves _ (hσ trivial)))
    · cases h
  | restoreCopyEnd => cases h; exact .acted _ _ (by simp) (.of_settled s.restoreEnd_lawful fun _ _ => s.restoreEnd_moves)
  | presetStoreEnd => cases h; exact .acted _ _ (by simp) (.of_settled s.storeEnd_lawful fun _ hσ => s.storeEnd_moves (hσ trivial))
  | presetEraseEnd => cases h; exact .acted _ _ (by simp) (.of_settled s.eraseEnd_lawful fun _ hσ => s.eraseEnd_moves (hσ trivial))
  | setupStoreEnd => cases h; exact .acted _ _ (by simp) (.of_settled s.setupEnd_lawful fun _ _ => s.setupEnd_moves)
  | copyBackCopyEnd =>
    cases h
    refine .acted _ _ (by simp) (.of_settled ?_ fun _ _ => ?_)
    · split
      · exact s.copyEnd_lawful
      · exact s.lawful_refl
    · split
      · next state => exact s.copyEnd_moves state
      · exact .refl
  | scanPassEnd => cases h; exact .acted _ _ (by simp) (.of_settled s.passEnd_lawful fun _ _ => s.passEnd_moves)
  | repairBegin => cases h; exact .acted _ _ (by simp) (.of_settled s.beginRepair_lawful fun _ _ => s.beginRepair_moves)

end Sys2Proof.Machine
end

section
/-! What every step keeps of the memories (R5), the frame slots (R68, R82, R87) and the queue of commands; the state after
reset. -/

namespace Sys2Proof.Machine

variable {σ : Scope} {s t u : State} {P : State → Prop}

/-! ### Properties that traffic does not touch -/

/-- What does not look at traffic holds of states with one core alike. -/
theorem of_core (hP : ∀ s : State, P s.core ↔ P s) (h : t.core = u.core) (hu : P u) : P t :=
  (hP t).1 (h ▸ (hP u).2 hu)

theorem State.completeCommit_core (p : PendingCommit) (g : Word32) (s : State) : (s.completeCommit p g).core = s.core := by
  unfold State.completeCommit
  split
  · exact State.complete_core _ _ _ _ _
  · rfl

/-- What the parts of an activation keep, the activation keeps. -/
theorem State.activate_keeps (hP : ∀ s : State, P s.core ↔ P s)
    (record : ∀ (g : Word32) (c : Chan) (s : State), P s → P (s.activateRecord g c))
    (header : ∀ (g : Word32) (s : State), P s → P (s.activateHeader g))
    (raster : ∀ (before : State) (c : Chan) (s : State), P s → P (before.rasterChange c s))
    (scanner : ∀ (set : ChanSet) (s : State), P s → P (s.scannerActivation set))
    (copyBack : ∀ (set : ChanSet) (s : State), P s → P (s.startCopyBack set)) (p : PendingCommit) (h : P s) :
    P (s.activate p) := by
  have h₁ : P (eachChan (State.activateRecord (s.staging.gen + 1)) p.set.chans s) := eachChan_keeps (record _) _ h
  have h₂ := scanner p.set _ (eachChan_keeps (raster s) p.set.chans (header (s.staging.gen + 1) _ h₁))
  exact copyBack p.set _ (of_core hP ((State.completeCommit_core p _ _).trans (State.raise_core _ _)) h₂)

/-- What dropped references, the next pass and the end of the pass keep, the Scanner's part of an activation keeps. -/
theorem State.scannerActivation_keeps (drop : ∀ (c : Chan) (s : State), P s → P (s.dropReference c))
    (next : ∀ (c : Chan) (s : State), P s → P (s.nextPass c)) (set : ChanSet) (s : State) (h : P s) :
    P (s.scannerActivation set) := by
  have dropped : P (eachChan State.dropReference set.chans s) := eachChan_keeps drop _ h
  unfold State.scannerActivation
  split
  · simp only
    split
    · split
      · exact next _ _ dropped
      · exact dropped
    · exact dropped
  · exact h

/-! ### Memories (R5) -/

theorem State.memoriesOk_core (s : State) : s.core.memoriesOk ↔ s.memoriesOk := Iff.rfl

theorem Vector.set_fin {α : Type} {n : Nat} (v : Vector α n) (i j : Fin n) (x : α) :
    (v.set i x)[j] = if j = i then x else v[j] := by
  split
  · next h => subst h; simp
  · next h => exact Vector.getElem_set_ne _ _ fun e => h (Fin.ext e.symm)

theorem State.modBank_get (b b' : Bank) (f : BankMem → BankMem) (s : State) :
    (s.modBank b f).banks[b'] = if b' = b then f s.banks[b] else s.banks[b'] :=
  Vector.set_fin _ b b' _

theorem State.header_setRecord (b b' : Bank) (c : Chan) (r : Cells) (s : State) :
    (s.setRecord b c r).header b' = s.header b' := by
  rw [State.header, State.setRecord, State.modBank_get]
  split
  · next h => subst h; rfl
  · rfl

theorem State.record_setRecord (b b' : Bank) (c c' : Chan) (r : Cells) (s : State) :
    (s.setRecord b c r).record b' c' = if b' = b ∧ c' = c then r else s.record b' c' := by
  rw [State.record, State.setRecord, State.modBank_get]
  by_cases hb : b' = b
  · subst hb
    rw [if_pos rfl]
    dsimp only
    rw [Vector.set_fin]
    simp [State.record]
  · simp [hb, State.record]

theorem State.header_setHeader (b b' : Bank) (h : Cells) (s : State) :
    (s.setHeader b h).header b' = if b' = b then h else s.header b' := by
  rw [State.header, State.setHeader, State.modBank_get]
  split <;> rfl

theorem State.record_setHeader (b b' : Bank) (c : Chan) (h : Cells) (s : State) :
    (s.setHeader b h).record b' c = s.record b' c := by
  rw [State.record, State.setHeader, State.modBank_get]
  split
  · next h => subst h; rfl
  · rfl

theorem State.setRecord_memoriesOk (b : Bank) (c : Chan) {r : Cells} (hr : r.wf defaultByte) (h : s.memoriesOk) :
    (s.setRecord b c r).memoriesOk := by
  obtain ⟨hbanks, hrest⟩ := h
  refine ⟨fun b' => ⟨?_, fun c' => ?_⟩, hrest⟩
  · rw [State.header_setRecord]; exact (hbanks b').1
  · rw [State.record_setRecord]
    split
    · exact hr
    · exact (hbanks b').2 c'

theorem State.setHeader_memoriesOk (b : Bank) {r : Cells} (hr : r.wf zeroByte) (h : s.memoriesOk) :
    (s.setHeader b r).memoriesOk := by
  obtain ⟨hbanks, hrest⟩ := h
  refine ⟨fun b' => ⟨?_, fun c' => ?_⟩, hrest⟩
  · rw [State.header_setHeader]
    split
    · exact hr
    · exact (hbanks b').1
  · rw [State.record_setHeader]; exact (hbanks b').2 c'

theorem State.modScanner_memoriesOk {f : Scanner → Scanner} (hf : ∀ p ∈ (f s.scanner).pass, p.view.wf defaultByte)
    (h : s.memoriesOk) : (s.modScanner f).memoriesOk := by
  obtain ⟨hbanks, hframe, hsetup, hbodies, hflash, -, hstoring⟩ := h
  exact ⟨hbanks, hframe, hsetup, hbodies, hflash, hf, hstoring⟩

theorem State.beginPass_memoriesOk (c : Chan) (h : s.memoriesOk) : (s.beginPass c).memoriesOk :=
  State.modScanner_memoriesOk (fun p hp => by obtain rfl := Option.mem_some.1 hp; exact h.record _ c) h

theorem State.nextPass_memoriesOk (c : Chan) (h : s.memoriesOk) : (s.nextPass c).memoriesOk := by
  unfold State.nextPass
  split
  · exact State.beginPass_memoriesOk _ h
  · exact State.modScanner_memoriesOk (fun _ hp => by cases hp) h

theorem State.rasterChange_memoriesOk (before : State) (c : Chan) (h : s.memoriesOk) :
    (before.rasterChange c s).memoriesOk := by
  unfold State.rasterChange
  simp only
  split <;> exact h

theorem State.activate_memoriesOk (p : PendingCommit) (h : s.memoriesOk) : (s.activate p).memoriesOk :=
  State.activate_keeps State.memoriesOk_core
    (fun _ c _ h => State.setRecord_memoriesOk _ c (Cells.write_wf _ _ _ _ (h.record _ c)) h)
    (fun _ _ h => State.setHeader_memoriesOk _ (Cells.write_wf _ _ _ _ (h.header _)) h)
    (fun before c _ h => State.rasterChange_memoriesOk before c h)
    (fun set s h => State.scannerActivation_keeps (P := State.memoriesOk) (fun _ _ h => h)
      (fun c _ h => State.nextPass_memoriesOk c h) set s h)
    (fun _ _ h => h) p h

theorem State.activeBody_wf (h : s.memoriesOk) : s.activeBody.wf :=
  ⟨h.header _, fun c => by
    have hc : s.activeBody.records[c] = s.activeRecord c := by simp [State.activeBody]
    rw [hc]
    exact h.record _ c⟩

theorem State.modPreset_memoriesOk {f : Preset → Preset} (hs : (f s.preset).setup.wf zeroByte)
    (hb : ∀ b ∈ (f s.preset).storing, b.wf) (h : s.memoriesOk) : (s.modPreset f).memoriesOk := by
  obtain ⟨hbanks, hframe, -, hbodies, hflash, hpass, -⟩ := h
  exact ⟨hbanks, hframe, hs, hbodies, hflash, hpass, hb⟩

theorem State.modFlash_memoriesOk {f : Flash → Flash} (hs : (f s.flash).setup.wf zeroByte)
    (hb : ∀ x : SlotId, (f s.flash).bodies[x].wf) (h : s.memoriesOk) : (s.modFlash f).memoriesOk := by
  obtain ⟨hbanks, hframe, hsetup, -, -, hpass, hstoring⟩ := h
  exact ⟨hbanks, hframe, hsetup, hb, hs, hpass, hstoring⟩

theorem State.setSlot_memoriesOk (sl : SlotId) (d : SlotDir) (s : State) (h : s.memoriesOk) : (s.setSlot sl d).memoriesOk := h

theorem State.idleNv_memoriesOk (s : State) (h : s.memoriesOk) : s.idleNv.memoriesOk := h

theorem State.modStaging_memoriesOk (f : Staging → Staging) (s : State) (h : s.memoriesOk) : (s.modStaging f).memoriesOk := h

theorem State.startLoad_memoriesOk (sl : SlotId) (owner : OpOwner) (c : Chan) (s : State) (h : s.memoriesOk) :
    (s.startLoad sl owner c).memoriesOk :=
  State.modStaging_memoriesOk _ (s.modPreset _) h

theorem State.withScanned_memoriesOk (s : State) (h : s.memoriesOk) : s.withScanned.memoriesOk := h

theorem bodies_set_wf {v : Vector Body 8} {sl : SlotId} {b : Body} (hv : ∀ x : SlotId, v[x].wf) (hb : b.wf) (x : SlotId) :
    (v.set sl b)[x].wf := by
  rw [Vector.set_fin]
  split
  · exact hb
  · exact hv x

/-- R5: a change keeps the memories canonical. -/
theorem Change.memoriesOk (m : Change σ s t) (h : s.memoriesOk) : t.memoriesOk := by
  obtain ⟨hbanks, hframe, hsetup, hbodies, hflash, hpass, hstoring⟩ := id h
  cases m
  case frames u _ stored => exact ⟨hbanks, stored hframe, hsetup, hbodies, hflash, hpass, hstoring⟩
  case record c r stored => exact State.setRecord_memoriesOk _ c (stored h) h
  case header r stored => exact State.setHeader_memoriesOk _ (stored h) h
  case setupCopy m stored => exact State.modPreset_memoriesOk (stored h) hstoring h
  case lock => exact State.beginPass_memoriesOk 0 (State.modScanner_memoriesOk hpass h)
  case unlock => exact State.modScanner_memoriesOk (fun _ hp => by cases hp) h
  case beginStore sl _ _ _ _ =>
    exact State.modPreset_memoriesOk hsetup
      (fun b hb => by obtain rfl := Option.mem_some.1 hb; exact State.activeBody_wf h) (s.setSlot_memoriesOk sl _ h)
  case endStore sl body info _ _ read =>
    have written := State.modFlash_memoriesOk (f := fun f => { f with bodies := f.bodies.set sl body }) hflash
      (bodies_set_wf hbodies (hstoring body read)) h
    have listed := State.setSlot_memoriesOk sl { state := .valid, info := some info } _ written
    exact State.idleNv_memoriesOk _ (State.modPreset_memoriesOk
      (s := (s.modFlash fun f => { f with bodies := f.bodies.set sl body }).setSlot sl { state := .valid, info := some info })
      hsetup (fun b hb => by cases hb) listed)
  case endSetupStore m stored _ =>
    have written := State.modFlash_memoriesOk (f := fun f => { f with setup := m }) (stored h) hbodies h
    exact State.idleNv_memoriesOk _ (State.modPreset_memoriesOk (s := s.modFlash fun f => { f with setup := m })
      (f := fun p => { p with setupStoring := none }) hsetup hstoring written)
  case body sl b stored => exact State.modFlash_memoriesOk hflash (bodies_set_wf hbodies (stored h)) h
  case setupFlash m stored => exact State.modFlash_memoriesOk (stored h) hbodies h
  case pass p _ stored => exact State.modScanner_memoriesOk (stored h) h
  case takeSetup m o stored => exact State.modPreset_memoriesOk stored hstoring h
  case activate p _ _ _ => exact State.activate_memoriesOk p h
  case endErase => exact State.idleNv_memoriesOk _ (s.setSlot_memoriesOk _ _ h)
  case endLoad => exact State.modStaging_memoriesOk _ _ (s.idleNv_memoriesOk h)
  case commitLoad => exact State.idleNv_memoriesOk _ (s.modStaging_memoriesOk _ h)
  case corrupt => exact State.modStaging_memoriesOk _ _ (State.idleNv_memoriesOk _ (s.setSlot_memoriesOk _ _ h))
  case scanned => exact State.idleNv_memoriesOk _ (s.withScanned_memoriesOk h)
  case scannedLoad => exact State.startLoad_memoriesOk _ _ _ _ (State.idleNv_memoriesOk _ (s.withScanned_memoriesOk h))
  all_goals exact h

theorem State.passSees_memoriesOk (b : Bank) (target : CalTarget) (changed : List Host.Cell) (scanned : Nat)
    (h : s.memoriesOk) : (s.passSees b target changed scanned).memoriesOk := by
  unfold State.passSees
  split
  · next p c hp =>
    split
    · refine State.modScanner_memoriesOk (fun q hq => ?_) h
      obtain rfl := Option.mem_some.1 hq
      exact Cells.change_wf _ _ _ (h.2.2.2.2.2.1 p hp)
    · exact h
  · exact h

theorem State.storeSees_memoriesOk (b : Bank) (target : CalTarget) (changed : List Host.Cell) (stored : Nat)
    (h : s.memoriesOk) : (s.storeSees b target changed stored).memoriesOk := by
  unfold State.storeSees
  split
  · refine State.modPreset_memoriesOk h.2.2.1 (fun b hb => ?_) h
    obtain ⟨body, hbody, rfl⟩ := Option.mem_map.1 hb
    exact Body.change_wf _ (h.2.2.2.2.2.2 body hbody)
  · exact h

theorem State.changeStructure_memoriesOk (b : Bank) (target : CalTarget) (changed : List Host.Cell)
    (h : s.memoriesOk) : (s.changeStructure b target changed).memoriesOk := by
  cases target with
  | record c => exact State.setRecord_memoriesOk b c (Cells.change_wf _ _ _ (h.record b c)) h
  | header => exact State.setHeader_memoriesOk b (Cells.change_wf _ _ _ (h.header b)) h

/-! ### From moves to steps -/

/-- Every link may ask, ticks may be given, and operations may end. -/
def Scope.all : Scope := ⟨fun _ => True, True, True⟩

/-- No link may ask: what the loss of a link does. -/
def Scope.lost : Scope := ⟨fun _ => False, True, True⟩

/-- The state after damage. -/
abbrev State.damaged (b : Bank) (target : CalTarget) (changed : List Host.Cell) (scanned stored : Nat) (s : State) : State :=
  ((s.passSees b target changed scanned).storeSees b target changed stored).changeStructure b target changed

/-- A command after which waiting messages are judged is a run of moves. -/
theorem Acted.moves {mayEnd : Prop} (h : Acted mayEnd s t) (asks : ∀ k, σ.asks k) (ends : mayEnd → σ.ends) : Moves σ s t := by
  cases h with
  | direct t moves => exact moves σ ends
  | settled u n ws ks moves _ => exact Moves.beginSends ((moves σ ends).trans (settle_moves asks n ws ks u))

/-- LINK_DOWN is a run of moves, and what it calls for another. -/
theorem State.execLinkDown_moves (k : LinkId) (s : State) : ∃ u, Moves Scope.lost s u ∧ Moves Scope.all u
    (s.settled (if s.links[k].up then s.linkDown k else s.modLink k fun l => { l with peer := false })) := by
  refine ⟨_, ?_, settled_moves (fun _ => trivial) s _⟩
  split
  · exact s.linkDown_moves k fun h => h
  · exact Moves.of_core (s.modLink_core k _ rfl)

/-- What moves, START_UP and damage keep, every command keeps. -/
theorem Executed.keeps {c : Instr} (hP : ∀ s : State, P s.core ↔ P s) (start : P s → P s.startUp)
    (damage : ∀ b target changed scanned stored, P s → P (s.damaged b target changed scanned stored))
    (change : ∀ (σ : Scope) (s t : State), Change σ s t → P s → P t) (h : Executed s c t) (hs : P s) : P t := by
  have move (σ : Scope) (s t : State) (m : Move σ s t) (h : P s) : P t := by
    obtain ⟨c, next⟩ := m
    exact of_core hP next (change σ _ _ c h)
  cases h with
  | startUp => exact start hs
  | damage b target changed scanned stored => exact of_core hP (State.beginSends_core _) (damage _ _ _ _ _ hs)
  | ticked _ _ _ ht => exact Moves.keeps (move _) (Moves.of_ticked (σ := Scope.all) trivial ht) hs
  | linkDown k =>
    obtain ⟨u, h₁, h₂⟩ := s.execLinkDown_moves k
    exact h₂.keeps (move _) (h₁.keeps (move _) hs)
  | acted _ _ _ ht => exact (ht.moves (σ := Scope.all) (fun _ => trivial) fun _ => trivial).keeps (move _) hs

/-- What every command keeps, and the queue of commands does not matter to, a step keeps. -/
theorem step_keeps (queue : ∀ (s : State) (l : List Instr), P s → P { s with pending := l })
    (command : ∀ (c : Instr) (s t : State), Executed s c t → P s → P t) (hs : P s) (h : step s = .next t) : P t := by
  unfold step at h
  split at h
  · cases h; exact hs
  · next c rest _ => exact command c _ t (exec_executed h) (queue s rest hs)

/-- Settles O1: a step is defined by the front command. -/
theorem stepRunsTheFrontCommand : Obligations.StepRunsTheFrontCommand := by
  intro c rest s h
  rw [step, h]

/-! ### The state after reset -/

/-- Settles O3: every block's reset values, as they stand in its reset state. -/
theorem resetValues : Obligations.ResetValues := by
  refine ⟨fun _ => rfl, ⟨rfl, rfl, rfl, rfl, rfl, rfl, rfl⟩, fun c => ?capture, fun c => ?members, ⟨rfl, rfl, rfl⟩,
    fun c => ?pipes, fun b a => ⟨?header, fun c => ?record⟩, ⟨fun c => ?sel, rfl⟩, ⟨rfl, rfl, rfl, rfl, rfl, rfl⟩,
    ⟨rfl, rfl, rfl, rfl, rfl⟩, fun c => ?watch, ⟨rfl, rfl, rfl⟩, fun k => ?links⟩
  case capture => simp [State.reset, Capture.reset]; rfl
  case members => simp [State.reset, Barrier.reset, Member.reset]
  case pipes => simp [State.reset, Pipe.reset]
  case header => simp [State.reset, State.header, BankMem.reset, Cells.read]; rfl
  case record => simp [State.reset, State.record, BankMem.reset, Cells.read]
  case sel => simp [State.reset, Staging.reset]
  case watch => simp [State.reset, Scanner.reset, Watch.reset]
  case links => simp [State.reset, Link.reset]

/-- Settles O4: each law at the reset values. -/
theorem resetMeetsTheLaws : Obligations.ResetMeetsTheLaws := by
  refine ⟨?memories, ?links, ?staging, ?scanner, ?frames, ?preset, ?timebase⟩
  case memories =>
    simp [State.memoriesOk, State.reset, State.header, State.record, BankMem.reset, Flash.blank, Preset.reset,
      Scanner.reset, Cells.wf, Body.wf]
  case links => simp [State.linksOk, State.reset, Link.ok, Link.reset, Link.cost, Staging.reset, Preset.reset]
  case staging => decide
  case scanner => decide
  case frames => decide
  case preset => decide
  case timebase => decide

/-! ### The settled obligations -/

/-- Settles O5, move by move. -/
theorem stepKeepsMemoriesCanonical : Obligations.StepKeepsMemoriesCanonical := by
  intro s t
  refine step_keeps (P := State.memoriesOk) (fun _ _ h => h) fun c s t h => ?_
  refine h.keeps State.memoriesOk_core (fun hs => ?_) (fun b target changed scanned stored hs => ?_)
    (fun _ _ _ m hs => m.memoriesOk hs)
  · obtain ⟨-, hframe, -, hbodies, hflash, -, -⟩ := hs
    obtain ⟨hbanks, -, hsetup, -, -, hpass, hstoring⟩ := resetMeetsTheLaws.1
    exact ⟨hbanks, hframe, hsetup, hbodies, hflash, hpass, hstoring⟩
  · exact State.changeStructure_memoriesOk b target changed (State.storeSees_memoriesOk b target changed stored
      (State.passSees_memoriesOk b target changed scanned hs))

/-! ### The queue of commands -/

theorem State.nextPass_pending (c : Chan) (s : State) : (s.nextPass c).pending = s.pending := by
  unfold State.nextPass
  split <;> rfl

theorem State.activate_pending (p : PendingCommit) (s : State) : (s.activate p).pending = s.pending :=
  State.activate_keeps (P := fun u => u.pending = s.pending) (fun _ => Iff.rfl) (fun _ _ _ h => h) (fun _ _ h => h)
    (fun before c u h => by unfold State.rasterChange; simp only; split <;> exact h)
    (fun set u h => State.scannerActivation_keeps (P := fun u => u.pending = s.pending) (fun _ _ h => h)
      (fun c u h => (u.nextPass_pending c).trans h) set u h)
    (fun _ _ h => h) p rfl

/-- No move touches the queue of commands. -/
theorem Change.pending (m : Change σ s t) : t.pending = s.pending := by
  cases m
  case activate p _ _ _ => exact s.activate_pending p
  all_goals
    simp [State.setSlot, State.startLoad, State.withScanned, State.beginPass, State.setStagingRecord,
      State.setStagingHeader, State.pendPartCommit]

theorem State.damaged_pending (b : Bank) (target : CalTarget) (changed : List Host.Cell) (scanned stored : Nat) (s : State) :
    (s.damaged b target changed scanned stored).pending = s.pending := by
  have sees : (s.passSees b target changed scanned).pending = s.pending := by
    unfold State.passSees
    split
    · split <;> rfl
    · rfl
  have stores (u : State) : (u.storeSees b target changed stored).pending = u.pending := by
    unfold State.storeSees
    split <;> rfl
  calc (s.damaged b target changed scanned stored).pending
      = ((s.passSees b target changed scanned).storeSees b target changed stored).pending := by cases target <;> rfl
    _ = s.pending := (stores _).trans sees

theorem exec_pending {c : Instr} (h : exec c s = .next t) : t.pending = s.pending :=
  (exec_executed h).keeps (P := fun u => u.pending = s.pending) (fun _ => Iff.rfl) (fun h => h)
    (fun b target changed scanned stored _ => s.damaged_pending b target changed scanned stored)
    (fun _ _ _ m h => m.pending.trans h) rfl

/-- A command answers a next state, but for one that names a byte outside its structure. -/
theorem exec_answers (c : Instr) (s : State) :
    (∃ t, exec c s = .next t) ∨ exec c s = .fault .noSuchByte ∧ c.wellFormed = false := by
  cases c
  case setupRecordRead changed =>
    by_cases h : cellsInside changed Config.setupSize = true
    · refine .inl ?_
      simp only [exec, execSetupRecordRead, if_pos h]
      split <;> exact ⟨_, rfl⟩
    · exact .inr ⟨if_neg h, by simpa [Instr.wellFormed] using h⟩
  case memoryDamage b target changed scanned stored =>
    by_cases h : cellsInside changed target.size = true
    · exact .inl ⟨_, if_pos h⟩
    · exact .inr ⟨if_neg h, by simpa [Instr.wellFormed] using h⟩
  case presetRecordLanded changed =>
    by_cases h : cellsInside changed Config.bodySize = true
    · exact .inl ⟨_, if_pos h⟩
    · exact .inr ⟨if_neg h, by simpa [Instr.wellFormed] using h⟩
  case directoryScanEnd => simp only [exec, execDirectoryScanEnd]; split <;> exact .inl ⟨_, rfl⟩
  case referenceEdge elapsed => simp only [exec, execReferenceEdge]; split <;> exact .inl ⟨_, rfl⟩
  case missingEdgeLimitAcquiring => simp only [exec, execMissingEdgeLimitAcquiring]; split <;> exact .inl ⟨_, rfl⟩
  case missingEdgeLimitLocked => simp only [exec, execMissingEdgeLimitLocked]; split <;> exact .inl ⟨_, rfl⟩
  case holdoverTickLimit => simp only [exec, execHoldoverTickLimit]; split <;> exact .inl ⟨_, rfl⟩
  case frameTick => simp only [exec, execFrameTick]; split <;> exact .inl ⟨_, rfl⟩
  case signalLost c elapsed => simp only [exec, execSignalLost]; split <;> exact .inl ⟨_, rfl⟩
  case signalLossLimit c => simp only [exec, execSignalLossLimit]; split <;> exact .inl ⟨_, rfl⟩
  all_goals exact .inl ⟨_, rfl⟩

/-- Settles O2: a command has one of two answers, and no move touches the queue of commands. -/
theorem everyWellFormedCommandRuns : Obligations.EveryWellFormedCommandRuns := by
  intro c s
  refine ⟨fun hw => ?_, fun t h => exec_pending h, fun f hf => ?_, fun r hr => ?_⟩
  · obtain h | ⟨-, hc⟩ := exec_answers c s
    · exact h
    · rw [hw] at hc; cases hc
  · obtain ⟨t, h⟩ | ⟨h, hc⟩ := exec_answers c s
    · cases h.symm.trans hf
    · cases h.symm.trans hf
      exact ⟨rfl, hc⟩
  · obtain ⟨t, h⟩ | ⟨h, -⟩ := exec_answers c s
    · cases h.symm.trans hr
    · cases h.symm.trans hr

end Sys2Proof.Machine
end

section
/-! What every step keeps of the Scanner (R149, R151, R157). -/

namespace Sys2Proof.Machine

variable {σ : Scope} {s t u : State} {P : State → Prop}

theorem State.modWatch_watch_get (c d : Chan) (f : Watch → Watch) (s : State) :
    (s.modWatch c f).scanner.watch[d] = if d = c then f s.scanner.watch[c] else s.scanner.watch[d] :=
  Vector.set_fin _ c d _

theorem State.scannerOk_core (s : State) : s.core.scannerOk ↔ s.scannerOk := Iff.rfl

/-- A change of one channel's watch state that keeps its laws, and FAULT where the queue or the repair needs it. -/
theorem State.modWatch_scannerOk {c : Chan} {f : Watch → Watch} (hf : (f s.scanner.watch[c]).ok s.scanner.lock)
    (hq : c ∈ s.scanner.queue → (f s.scanner.watch[c]).state = .fault)
    (hr : ∀ r ∈ s.scanner.repair, r.chan = c → (f s.scanner.watch[c]).state = .fault) (h : s.scannerOk) :
    (s.modWatch c f).scannerOk := by
  obtain ⟨hw, hnodup, hqueue, hrepair, hlock⟩ := h
  refine ⟨fun d => ?_, hnodup, fun d hd => ?_, fun r hr' => ⟨?_, (hrepair r hr').2⟩, hlock⟩
  · rw [State.modWatch_watch_get]
    split
    · exact hf
    · exact hw d
  · rw [State.modWatch_watch_get]
    split
    · next e => exact hq (e ▸ hd)
    · exact hqueue d hd
  · rw [State.modWatch_watch_get]
    split
    · next e => exact hr r hr' e
    · exact (hrepair r hr').1

/-- A change of the pass, the queue, the repair and the report with the lock set. -/
theorem State.modScanner_scannerOk {f : Scanner → Scanner} (lock : s.scanner.lock = true)
    (hl : (f s.scanner).lock = s.scanner.lock) (hw : (f s.scanner).watch = s.scanner.watch)
    (hn : (f s.scanner).queue.Nodup) (hq : ∀ c ∈ (f s.scanner).queue, s.scanner.watch[c].state = .fault)
    (hr : ∀ r ∈ (f s.scanner).repair, s.scanner.watch[r.chan].state = .fault ∧ r.chan ∉ (f s.scanner).queue)
    (h : s.scannerOk) : (s.modScanner f).scannerOk := by
  refine ⟨fun d => ?_, hn, fun d hd => ?_, fun r hr' => ?_, fun h' => ?_⟩
  · show (f s.scanner).watch[d].ok (f s.scanner).lock
    rw [hw, hl]
    exact h.1 d
  · show (f s.scanner).watch[d].state = .fault
    rw [hw]
    exact hq d hd
  · show (f s.scanner).watch[r.chan].state = .fault ∧ _
    rw [hw]
    exact hr r hr'
  · cases (lock.symm.trans hl.symm).trans h'

/-- A queued channel means that the lock is set. -/
theorem State.lock_of_queue (h : s.scannerOk) {c : Chan} (hc : c ∈ s.scanner.queue) : s.scanner.lock = true := by
  by_contra hl
  rw [(h.2.2.2.2 (by simpa using hl)).2.1] at hc
  cases hc

theorem State.lock_of_repair (h : s.scannerOk) {r : Repair} (hr : s.scanner.repair = some r) : s.scanner.lock = true := by
  by_contra hl
  cases hr.symm.trans (h.2.2.2.2 (by simpa using hl)).2.2

theorem State.lock_of_pass (h : s.scannerOk) (hp : s.scanner.lock = true ∨ s.scanner.pass.isSome = true) :
    s.scanner.lock = true := by
  by_contra hl
  obtain hp | hp := hp
  · exact hl hp
  · rw [(h.2.2.2.2 (by simpa using hl)).1] at hp
    cases hp

theorem State.lock_of_watch (h : s.scannerOk) {c : Chan} (hc : s.scanner.watch[c].state ≠ .idle) :
    s.scanner.lock = true := by
  by_contra hl
  exact hc ((h.1 c).1.2 (by simpa using hl))

/-- A channel in another state than FAULT is neither queued nor under repair. -/
theorem State.not_queued_of_watch (h : s.scannerOk) {c : Chan} (hc : s.scanner.watch[c].state ≠ .fault) :
    c ∉ s.scanner.queue ∧ ∀ r ∈ s.scanner.repair, r.chan ≠ c :=
  ⟨fun hq => hc (h.2.2.1 c hq), fun r hr e => hc (e ▸ (h.2.2.2.1 r hr).1)⟩

theorem State.setPass_scannerOk (p : Option Pass) (lock : s.scanner.lock = true) (h : s.scannerOk) :
    (s.modScanner fun n => { n with pass := p }).scannerOk :=
  State.modScanner_scannerOk lock rfl rfl h.2.1 h.2.2.1 h.2.2.2.1 h

theorem State.nextPass_scannerOk (c : Chan) (lock : s.scanner.lock = true) (h : s.scannerOk) : (s.nextPass c).scannerOk := by
  unfold State.nextPass
  split
  · exact State.setPass_scannerOk _ lock h
  · exact State.setPass_scannerOk _ lock h

theorem State.dropReference_scannerOk (c : Chan) (lock : s.scanner.lock = true) (h : s.scannerOk) :
    (s.dropReference c).scannerOk := by
  refine State.modWatch_scannerOk ?_ (fun hq => ?_) (fun r hr e => ?_) h
  · rw [lock]
    by_cases hf : s.scanner.watch[c].state = .fault <;> simp [Watch.ok, hf, -Fin.getElem_fin]
  · exact if_pos (h.2.2.1 c hq)
  · subst e
    exact if_pos (h.2.2.2.1 r hr).1

theorem State.nextPass_lock (c : Chan) (s : State) : (s.nextPass c).scanner.lock = s.scanner.lock := by
  unfold State.nextPass
  split <;> rfl

/-- R156: what an activation does to the Scanner. -/
theorem State.scannerActivation_scannerOk (set : ChanSet) (s : State) (h : s.scannerOk) :
    (s.scannerActivation set).scannerOk := by
  by_cases lock : s.scanner.lock = true
  · exact (State.scannerActivation_keeps (P := fun u => u.scannerOk ∧ u.scanner.lock = true)
      (fun c u hu => ⟨State.dropReference_scannerOk c hu.2 hu.1, hu.2⟩)
      (fun c u hu => ⟨State.nextPass_scannerOk c hu.2 hu.1, (u.nextPass_lock c).trans hu.2⟩) set s ⟨h, lock⟩).1
  · rw [(s.scannerActivation_cases set).1 (by simpa using lock)]
    exact h

theorem State.rasterChange_scanner (before : State) (c : Chan) (s : State) :
    (before.rasterChange c s).scanner = s.scanner := by
  unfold State.rasterChange
  simp only
  split <;> rfl

/-- R160: a repair takes another phase. -/
theorem State.phase_scannerOk (ph : RepairPhase) (h : s.scannerOk) :
    (s.modScanner fun n => { n with repair := n.repair.map fun r => { r with phase := ph } }).scannerOk := by
  obtain ⟨hw, hnodup, hqueue, hrepair, hlock⟩ := h
  refine ⟨hw, hnodup, hqueue, fun r hr => ?_, fun hl => ?_⟩
  · obtain ⟨r', hr', rfl⟩ := Option.mem_map.1 hr
    exact hrepair r' hr'
  · obtain ⟨hp, hq, hr⟩ := hlock hl
    exact ⟨hp, hq, by simp [hr]⟩

theorem State.activate_scannerOk (p : PendingCommit) (h : s.scannerOk) : (s.activate p).scannerOk :=
  State.activate_keeps State.scannerOk_core (fun _ _ _ h => h) (fun _ _ h => h)
    (fun before c u h => by
      show (before.rasterChange c u).scannerOk
      unfold State.scannerOk
      rw [State.rasterChange_scanner]
      exact h)
    State.scannerActivation_scannerOk (fun _ _ h => State.phase_scannerOk .copyBack h) p h

/-- R149, R151, R157: a change keeps the laws of the Scanner. -/
theorem Change.scannerOk (m : Change σ s t) (h : s.scannerOk) : t.scannerOk := by
  obtain ⟨hw, hnodup, hqueue, hrepair, hlock⟩ := id h
  cases m
  case lock unlocked _ =>
    obtain ⟨-, hq, hr⟩ := hlock unlocked
    refine ⟨fun c => ?_, hnodup, fun c hc => ?_, fun r hr' => ?_, fun hl => by cases hl⟩
    · simp [State.beginPass, Watch.locked, Watch.ok]
    · have hc : c ∈ s.scanner.queue := hc
      rw [hq] at hc; cases hc
    · cases hr'.symm.trans hr
  case unlock idle =>
    refine ⟨fun c => ?_, List.nodup_nil, fun c hc => (by cases hc), fun r hr' => ?_, fun _ => ⟨rfl, rfl, idle⟩⟩
    · simp [Watch.unlocked, Watch.ok]
    · cases hr'.symm.trans idle
  case repaired r running =>
    have lock := State.lock_of_repair h running
    have waiting := State.modWatch_scannerOk (s := s.modScanner fun n => { n with repair := none }) (c := r.chan)
      (f := fun w => { w with state := .referencePending, reference := none, source := none })
      (by simp [Watch.ok, lock]) (fun hq => absurd hq (hrepair r running).2) (fun _ hr => by cases hr)
      (State.modScanner_scannerOk lock rfl rfl hnodup hqueue (fun _ hr => by cases hr) h)
    exact waiting
  case report r => exact ⟨hw, hnodup, hqueue, hrepair, hlock⟩
  case pass p scanning _ => exact State.setPass_scannerOk p (State.lock_of_pass h scanning) h
  case reference c crc src pending =>
    have lock := State.lock_of_watch h (by rw [pending]; decide)
    obtain ⟨hq, hr⟩ := State.not_queued_of_watch h (c := c) (by rw [pending]; decide)
    exact (State.modWatch_scannerOk (by simp [Watch.ok, lock]) (fun e => absurd e hq)
      (fun r hr' e => absurd e (hr r hr')) h)
  case checked c =>
    exact (State.modWatch_scannerOk (hw c) (fun hq => hqueue c hq) (fun r hr e => e ▸ (hrepair r hr).1) h)
  case fault c q checking queue =>
    have lock := State.lock_of_watch h (by rw [checking]; decide)
    obtain ⟨hq, hr⟩ := State.not_queued_of_watch h (c := c) (by rw [checking]; decide)
    have source := hw c
    have faulted := State.modWatch_scannerOk (c := c) (f := fun w => { w with state := .fault })
      ⟨by simp [lock], source.2.1, fun e => (by cases e), fun _ => .inr rfl⟩ (fun _ => rfl) (fun _ _ _ => rfl) h
    have same : (s.modWatch c fun w => { w with state := .fault }).scanner.watch[c].state = .fault := by
      rw [State.modWatch_watch_get, if_pos rfl]
    refine (State.modScanner_scannerOk (s := s.modWatch c fun w => { w with state := .fault }) lock rfl rfl ?_ ?_
      ?_ faulted)
    all_goals obtain rfl | rfl := queue
    · exact hnodup
    · exact List.nodup_append.2 ⟨hnodup, List.nodup_singleton c, fun a ha b hb e => by
        obtain rfl := List.mem_singleton.1 hb
        exact hq (e ▸ ha)⟩
    · exact faulted.2.2.1
    · intro d hd
      obtain hd | hd := List.mem_append.1 hd
      · exact faulted.2.2.1 d hd
      · obtain rfl := List.mem_singleton.1 hd
        exact same
    · exact faulted.2.2.2.1
    · intro r hr'
      refine ⟨(faulted.2.2.2.1 r hr').1, fun e => ?_⟩
      obtain e | e := List.mem_append.1 e
      · exact (faulted.2.2.2.1 r hr').2 e
      · exact hr r hr' (List.mem_singleton.1 e)
  case unqueue c rest queue =>
    have lock := State.lock_of_queue h (c := c) (by rw [queue]; exact List.mem_cons_self)
    rw [queue] at hnodup
    exact (State.modScanner_scannerOk lock rfl rfl hnodup.of_cons
      (fun d hd => hqueue d (by rw [queue]; exact List.mem_cons_of_mem c hd))
      (fun r hr => ⟨(hrepair r hr).1, fun e => (hrepair r hr).2 (by rw [queue]; exact List.mem_cons_of_mem c e)⟩) h)
  case repair c sl rest queue idle =>
    have lock := State.lock_of_queue h (c := c) (by rw [queue]; exact List.mem_cons_self)
    rw [queue] at hnodup
    refine (State.modScanner_scannerOk lock rfl rfl hnodup.of_cons
      (fun d hd => hqueue d (by rw [queue]; exact List.mem_cons_of_mem c hd)) (fun r hr => ?_) h)
    obtain rfl := Option.mem_some.1 hr
    exact ⟨hqueue c (by rw [queue]; exact List.mem_cons_self), (List.nodup_cons.1 hnodup).1⟩
  case phase ph => exact State.phase_scannerOk ph h
  case noRepair =>
    refine ⟨hw, hnodup, hqueue, fun r hr => (by cases hr), fun hl => ?_⟩
    obtain ⟨hp, hq, -⟩ := hlock hl
    exact ⟨hp, hq, rfl⟩
  case activate p _ _ _ => exact State.activate_scannerOk p h
  all_goals exact h

/-- Settles O8, move by move. -/
theorem stepKeepsScannerLaws : Obligations.StepKeepsScannerLaws := by
  intro s t
  refine step_keeps (P := State.scannerOk) (fun _ _ h => h) fun c s t h => ?_
  refine h.keeps State.scannerOk_core (fun _ => resetMeetsTheLaws.2.2.2.1) (fun b target changed scanned stored hs => ?_)
    (fun _ _ _ m hs => m.scannerOk hs)
  have seen : (s.passSees b target changed scanned).scannerOk := by
    unfold State.passSees
    split
    · next p c hp =>
      split
      · exact State.setPass_scannerOk _ (State.lock_of_pass hs (.inr (Option.isSome_of_mem hp))) hs
      · exact hs
    · exact hs
  have stored (u : State) (hu : u.scannerOk) : (u.storeSees b target changed stored).scannerOk := by
    unfold State.storeSees
    split <;> exact hu
  cases target <;> exact stored _ seen

end Sys2Proof.Machine
end

section
/-! What every step keeps of the frame slots and of membership (R68, R82, R87), and of the active records and the set
generation (R26, R142 to R145). -/

namespace Sys2Proof.Machine

variable {σ : Scope} {s t u : State} {P : State → Prop}

/-! ### Frame slots and membership -/

theorem State.framesOk_core (s : State) : s.core.framesOk ↔ s.framesOk := Iff.rfl

theorem State.framesOk_congr (hc : t.capture = s.capture) (hb : t.barrier = s.barrier) (hp : t.pipes = s.pipes)
    (h : s.framesOk) : t.framesOk :=
  State.framesOk_of_same hc (by rw [hb]) (by rw [hb]) (fun c => by rw [hp]) h

/-- R83: READY frames are freed where the size changes. -/
theorem State.rasterChange_framesOk (before : State) (c : Chan) (s : State) (h : s.framesOk) :
    (before.rasterChange c s).framesOk := by
  unfold State.rasterChange
  simp only
  split
  · exact h
  · exact State.framesOk_modCapture (Capture.keeps_slots_free Slots.freeReady_allFree Slots.freeReady_ok
      fun _ => Slots.freeReady_showsB) h

theorem State.nextPass_framesOk (c : Chan) (s : State) (h : s.framesOk) : (s.nextPass c).framesOk := by
  unfold State.nextPass
  split <;> exact h

theorem State.activate_framesOk (p : PendingCommit) (h : s.framesOk) : (s.activate p).framesOk :=
  State.activate_keeps State.framesOk_core (fun _ _ _ h => h) (fun _ _ h => h) State.rasterChange_framesOk
    (State.scannerActivation_keeps (P := State.framesOk) (fun _ _ h => h) State.nextPass_framesOk) (fun _ _ h => h) p h

/-- R68, R82, R87: a change keeps the laws of the frames. -/
theorem Change.framesOk (m : Change σ s t) (h : s.framesOk) : t.framesOk := by
  cases m
  case frames u lawful stored => exact lawful h
  case activate p _ _ _ => exact State.activate_framesOk p h
  all_goals
    exact State.framesOk_congr
      (by simp [State.setSlot, State.startLoad, State.withScanned, State.beginPass, State.setStagingRecord,
        State.setStagingHeader, State.pendPartCommit])
      (by simp [State.setSlot, State.startLoad, State.withScanned, State.beginPass, State.setStagingRecord,
        State.setStagingHeader, State.pendPartCommit])
      (by simp [State.setSlot, State.startLoad, State.withScanned, State.beginPass, State.setStagingRecord,
        State.setStagingHeader, State.pendPartCommit]) h

/-- Settles O9, change by change. -/
theorem stepKeepsFrameLaws : Obligations.StepKeepsFrameLaws := by
  intro s t
  refine step_keeps (P := State.framesOk) (fun _ _ h => h) fun c s t h => ?_
  refine h.keeps State.framesOk_core (fun _ => resetMeetsTheLaws.2.2.2.2.1)
    (fun b target changed scanned stored hs => ?_) (fun _ _ _ m hs => m.framesOk hs)
  have seen : (s.passSees b target changed scanned).framesOk := by
    unfold State.passSees
    split
    · split <;> exact hs
    · exact hs
  have stores (u : State) (hu : u.framesOk) : (u.storeSees b target changed stored).framesOk := by
    unfold State.storeSees
    split <;> exact hu
  cases target <;> exact stores _ seen

end Sys2Proof.Machine
end

section
/-! The active records and header, the selectors and the set generation (R26, R121, R142 to R145): no change but an activation
moves them; what an activation does, part by part. -/

namespace Sys2Proof.Machine

variable {σ : Scope} {s t u : State} {P : State → Prop}

/-! ### Banks -/

theorem otherBank_ne (b : Bank) : b ≠ otherBank b := by revert b; decide

theorem otherBank_otherBank (b : Bank) : otherBank (otherBank b) = b := by revert b; decide

/-- The selectors and the active structures are those of `s`. -/
structure State.SameActive (s t : State) : Prop where
  sel : t.staging.sel = s.staging.sel
  setSel : t.staging.setSel = s.staging.setSel
  header : t.activeHeader = s.activeHeader
  record : ∀ c : Chan, t.activeRecord c = s.activeRecord c

theorem State.SameActive.trans (h : s.SameActive t) (h' : t.SameActive u) : s.SameActive u :=
  ⟨h'.sel.trans h.sel, h'.setSel.trans h.setSel, h'.header.trans h.header, fun c => (h'.record c).trans (h.record c)⟩

theorem State.sameActive_of_eq (hb : t.banks = s.banks) (hs : t.staging.sel = s.staging.sel)
    (hh : t.staging.setSel = s.staging.setSel) : s.SameActive t := by
  refine ⟨hs, hh, ?_, fun c => ?_⟩
  · rw [State.activeHeader, State.activeHeader, State.header, State.header, hb, hh]
  · rw [State.activeRecord, State.activeRecord, State.activeBank, State.activeBank, State.record, State.record, hb, hs]

theorem State.sameActive_of_core (h : t.core = s.core) : s.SameActive t :=
  State.sameActive_of_eq (congrArg State.banks h : t.core.banks = s.core.banks) (congrArg (·.staging.sel) h)
    (congrArg (·.staging.setSel) h)

/-- R132: what is written in a staging record is not active. -/
theorem State.setStagingRecord_sameActive (c : Chan) (r : Cells) (s : State) : s.SameActive (s.setStagingRecord c r) := by
  refine ⟨rfl, rfl, State.header_setRecord _ _ c r s, fun d => ?_⟩
  refine (State.record_setRecord _ _ c d r s).trans (if_neg ?_)
  rintro ⟨e, rfl⟩
  exact otherBank_ne _ e

theorem State.setStagingHeader_sameActive (r : Cells) (s : State) : s.SameActive (s.setStagingHeader r) := by
  refine ⟨rfl, rfl, ?_, fun d => State.record_setHeader _ _ d r s⟩
  exact (State.header_setHeader _ _ r s).trans (if_neg (otherBank_ne _))

/-- R142: a change at which no tick is given keeps the active records and header. -/
theorem Change.sameActive (m : Change σ s t) (hσ : ¬ σ.ticks) : s.SameActive t := by
  cases m
  case record c r _ => exact s.setStagingRecord_sameActive c r
  case header r _ => exact s.setStagingHeader_sameActive r
  case activate p ticks _ _ => exact absurd ticks hσ
  all_goals
    exact State.sameActive_of_eq
      (by simp [State.setSlot, State.startLoad, State.withScanned, State.beginPass, State.pendPartCommit])
      (by simp [State.setSlot, State.startLoad, State.withScanned, State.beginPass, State.pendPartCommit,
        State.openStaging])
      (by simp [State.setSlot, State.startLoad, State.withScanned, State.beginPass, State.pendPartCommit,
        State.openStaging])

/-- R145: a change at which no tick is given keeps the set generation. -/
theorem Change.gen (m : Change σ s t) (hσ : ¬ σ.ticks) : t.staging.gen = s.staging.gen := by
  cases m
  case activate p ticks _ _ => exact absurd ticks hσ
  all_goals
    simp [State.setSlot, State.startLoad, State.withScanned, State.beginPass, State.pendPartCommit, State.openStaging,
      State.setStagingRecord, State.setStagingHeader]

/-- No tick is given. -/
def Scope.quiet : Scope := ⟨fun _ => True, False, True⟩

def Scope.quietLost : Scope := ⟨fun _ => False, False, True⟩

theorem Moves.sameActive (h : Moves σ s t) (hσ : ¬ σ.ticks) : s.SameActive t :=
  h.keeps (P := s.SameActive) (fun _ _ ⟨c, next⟩ hs =>
    hs.trans ((c.sameActive hσ).trans (State.sameActive_of_core next))) (State.sameActive_of_core rfl)

theorem Moves.gen (h : Moves σ s t) (hσ : ¬ σ.ticks) : t.staging.gen = s.staging.gen :=
  h.keeps (P := fun u => u.staging.gen = s.staging.gen) (fun _ _ ⟨c, next⟩ hs =>
    (congrArg (·.staging.gen) next).trans ((c.gen hσ).trans hs)) rfl

/-- Every command but START_UP, damage and those that may give a tick is a run of moves without a tick. -/
theorem Executed.quiet {c : Instr} (h : Executed s c t) (hc : mayChangeActive c = false) :
    ∃ u, Moves Scope.quietLost s u ∧ Moves Scope.quiet u t := by
  cases h with
  | startUp => cases hc
  | damage => cases hc
  | ticked _ _ may _ => cases hc.symm.trans may
  | linkDown k =>
    refine ⟨_, ?_, settled_moves (fun _ => trivial) s _⟩
    split
    · exact s.linkDown_moves k fun h => h
    · exact Moves.of_core (s.modLink_core k _ rfl)
  | acted _ _ _ ht => exact ⟨s, .refl, ht.moves (fun _ => trivial) fun _ => trivial⟩

/-- Settles O12: no tick is given, so no move reaches the active structures. -/
theorem onlyTicksAndDamageChangeActiveRecords : Obligations.OnlyTicksAndDamageChangeActiveRecords := by
  intro c s t hc h
  obtain ⟨u, h₁, h₂⟩ := (exec_executed h).quiet hc
  have same := (h₁.sameActive fun h => h).trans (h₂.sameActive fun h => h)
  exact ⟨same.sel, same.setSel, same.header, same.record⟩

end Sys2Proof.Machine
end

section
/-! The activation of a pending commit, part by part (R83, R142 to R144, R156, R160). -/

namespace Sys2Proof.Machine

variable {s t u : State} {p : PendingCommit}

theorem ChanSet.mem_chans {set : ChanSet} {c : Chan} : c ∈ set.chans ↔ set.getLsbD c.val = true := by
  simp [ChanSet.chans, List.mem_finRange]

theorem ChanSet.chans_nodup (set : ChanSet) : set.chans.Nodup := (List.nodup_finRange 6).filter _

theorem Vector.ofFn_chan {α : Type} (f : Chan → α) (c : Chan) : (Vector.ofFn f)[c] = f c := by simp

/-! ### R143: records and selectors -/

theorem State.activateRecord_record (g : Word32) (c d : Chan) (b : Bank) (s : State) :
    (s.activateRecord g c).record b d =
      if b = s.stagingBank c ∧ d = c then Rec.setGen (s.record b c) g else s.record b d := by
  refine (State.record_setRecord (s.stagingBank c) b c d _ s).trans ?_
  split
  · next h => rw [h.1]
  · rfl

theorem State.activateRecord_sel (g : Word32) (c d : Chan) (s : State) :
    (s.activateRecord g c).staging.sel[d] = if d = c then otherBank s.staging.sel[c] else s.staging.sel[d] :=
  Vector.set_chan _ c d _

/-- What a channel's activation changes: its selector, and its records in both banks. -/
def State.banked (s : State) (c : Chan) : Bank × (Bank → Cells) := (s.staging.sel[c], fun b => s.record b c)

def State.allBanked (s : State) : Vector (Bank × (Bank → Cells)) 6 := Vector.ofFn s.banked

theorem State.allBanked_get (s : State) (c : Chan) : s.allBanked[c] = s.banked c := by simp [State.allBanked]

/-- A channel's records and selector after its activation. -/
def State.bankedActive (g : Word32) (c : Chan) (s : State) : Bank × (Bank → Cells) :=
  (otherBank s.staging.sel[c],
    fun b => if b = otherBank s.staging.sel[c] then Rec.setGen (s.record b c) g else s.record b c)

theorem State.activateRecord_banked_same (g : Word32) (c : Chan) (s : State) :
    (s.activateRecord g c).banked c = s.bankedActive g c := by
  refine Prod.ext ((s.activateRecord_sel g c c).trans (if_pos rfl)) (funext fun b => ?_)
  refine (s.activateRecord_record g c c b).trans ?_
  simp only [and_true]
  rfl

theorem State.activateRecord_banked_ne (g : Word32) {c d : Chan} (h : d ≠ c) (s : State) :
    (s.activateRecord g c).banked d = s.banked d :=
  Prod.ext ((s.activateRecord_sel g c d).trans (if_neg h))
    (funext fun b => (s.activateRecord_record g c d b).trans (if_neg fun e => h e.2))

theorem State.bankedActive_congr {g : Word32} {c : Chan} (h : t.banked c = s.banked c) :
    t.bankedActive g c = s.bankedActive g c := by
  obtain ⟨hsel, hrec⟩ := Prod.ext_iff.1 h
  have hsel : t.staging.sel[c] = s.staging.sel[c] := hsel
  have hrec (b : Bank) : t.record b c = s.record b c := congrFun hrec b
  simp only [State.bankedActive, hsel, hrec]

/-- R143: the channels of the set are activated, the others keep their records and selectors. -/
theorem eachActivate_banked (g : Word32) {cs : List Chan} (hcs : cs.Nodup) (s : State) (c : Chan) :
    (eachChan (State.activateRecord g) cs s).banked c = if c ∈ cs then s.bankedActive g c else s.banked c := by
  have h := eachChan_at State.allBanked (f := State.activateRecord g) (fun c s => s.bankedActive g c)
    (fun c s => by rw [State.allBanked_get, State.activateRecord_banked_same])
    (fun c d s hd => by rw [State.allBanked_get, State.allBanked_get, State.activateRecord_banked_ne g hd])
    (fun c d s hd => State.bankedActive_congr (State.activateRecord_banked_ne g hd s)) (.inl hcs) s c
  simpa only [State.allBanked_get] using h

/-- The states of an activation after the records, after the header, and after the slots. -/
abbrev State.records (s : State) (p : PendingCommit) : State :=
  eachChan (State.activateRecord (s.staging.gen + 1)) p.set.chans s

abbrev State.switched (s : State) (p : PendingCommit) : State := (s.records p).activateHeader (s.staging.gen + 1)

abbrev State.rastered (s : State) (p : PendingCommit) : State := eachChan (State.rasterChange s) p.set.chans (s.switched p)

theorem State.records_same (s : State) (p : PendingCommit) :
    s.records p = { s with
      banks := (s.records p).banks, staging := { s.staging with sel := (s.records p).staging.sel } } :=
  eachChan_keeps (P := fun u => u = { s with banks := u.banks, staging := { s.staging with sel := u.staging.sel } })
    (fun c u hu => by rw [hu]; rfl) _ rfl

theorem State.records_header (s : State) (p : PendingCommit) (b : Bank) : (s.records p).header b = s.header b :=
  eachChan_keeps (P := fun u => u.header b = s.header b) (f := State.activateRecord _)
    (fun _ _ hu => (State.header_setRecord _ _ _ _ _).trans hu) _ rfl

theorem State.switched_same (s : State) (p : PendingCommit) :
    s.switched p = { s with
      banks := (s.switched p).banks
      staging := { s.staging with
        sel := (s.switched p).staging.sel, setSel := otherBank s.staging.setSel, gen := s.staging.gen + 1 } } := by
  have h := s.records_same p
  unfold State.switched
  generalize s.records p = v at h
  rw [h]
  rfl

theorem State.switched_banked (s : State) (p : PendingCommit) (c : Chan) :
    (s.switched p).banked c = if p.set.getLsbD c.val = true then s.bankedActive (s.staging.gen + 1) c else s.banked c := by
  have h := eachActivate_banked (s.staging.gen + 1) p.set.chans_nodup s c
  simp only [ChanSet.mem_chans] at h
  refine Eq.trans ?_ h
  exact Prod.ext rfl (funext fun b => State.record_setHeader _ b c _ _)

theorem State.records_setSel (s : State) (p : PendingCommit) : (s.records p).staging.setSel = s.staging.setSel := by
  rw [State.records_same]

theorem State.activateHeader_header (g : Word32) (b : Bank) (s : State) :
    (s.activateHeader g).header b =
      if b = otherBank s.staging.setSel then Header.setGen (s.header b) g else s.header b := by
  refine (State.header_setHeader (otherBank s.staging.setSel) b _ s).trans ?_
  split
  · next e => rw [e]
  · rfl

theorem State.switched_header (s : State) (p : PendingCommit) (b : Bank) :
    (s.switched p).header b =
      if b = otherBank s.staging.setSel then Header.setGen (s.header b) (s.staging.gen + 1) else s.header b := by
  rw [State.activateHeader_header, State.records_setSel, State.records_header]

/-! ### R83: slots -/

/-- R83: the slots of a channel whose record has been replaced. -/
def State.rasterSlots (before after : State) (c : Chan) (v : Slots) : Slots :=
  if Rec.wIn (before.activeRecord c) = Rec.wIn (after.activeRecord c) ∧
    Rec.hIn (before.activeRecord c) = Rec.hIn (after.activeRecord c) then v else v.freeReady

theorem State.rasterChange_eq (before : State) (c : Chan) (s : State) :
    before.rasterChange c s = s.modSlots c (before.rasterSlots s c) := by
  unfold State.rasterChange State.rasterSlots
  simp only
  split
  · have hset : s.capture.set c s.capture[c] = s.capture := by simp
    show s = { s with capture := s.capture.set c s.capture[c] }
    rw [hset]
  · rfl

theorem State.rastered_same (s : State) (p : PendingCommit) :
    s.rastered p = { s.switched p with capture := (s.rastered p).capture } :=
  eachChan_keeps (P := fun u => u = { s.switched p with capture := u.capture })
    (fun c u hu => by rw [State.rasterChange_eq, hu]; rfl) _ rfl

theorem State.rastered_slots (s : State) (p : PendingCommit) (c : Chan) :
    (s.rastered p).slots c =
      if p.set.getLsbD c.val = true then s.rasterSlots (s.switched p) c (s.slots c) else s.slots c := by
  have hslots : ∀ c, (s.switched p).slots c = s.slots c := fun c => by rw [State.switched_same]; rfl
  have h := eachChan_at (fun u : State => Vector.ofFn u.slots) (f := State.rasterChange s)
    (fun c u => s.rasterSlots u c (u.slots c))
    (fun c u => by simp [State.rasterChange_eq, State.modSlots_slots])
    (fun c d u hd => by simp [State.rasterChange_eq, State.modSlots_slots, hd])
    (fun c d u hd => by rw [State.rasterChange_eq, State.modSlots_slots, if_neg hd]; rfl)
    (.inl p.set.chans_nodup) (s.switched p) c
  simp only [Vector.ofFn_chan, ChanSet.mem_chans, hslots] at h
  exact h

/-! ### R156: the Scanner -/

/-- R156: what the Scanner keeps of a channel whose record has been replaced. -/
def Watch.dropped (w : Watch) : Watch :=
  { w with reference := none, source := none, state := if w.state = .fault then .fault else .referencePending }

theorem Watch.dropped_fault (w : Watch) : w.dropped.state ≠ .fault ↔ w.state ≠ .fault := by
  unfold Watch.dropped
  by_cases h : w.state = .fault <;> simp [h]

theorem eachDrop_watch {cs : List Chan} (hcs : cs.Nodup) (s : State) (c : Chan) :
    (eachChan State.dropReference cs s).scanner.watch[c] =
      if c ∈ cs then s.scanner.watch[c].dropped else s.scanner.watch[c] :=
  eachChan_at (fun s => s.scanner.watch) (f := State.dropReference) (fun c s => s.scanner.watch[c].dropped)
    (fun c s => (s.modWatch_watch_get c c Watch.dropped).trans (if_pos rfl))
    (fun c d s hd => (s.modWatch_watch_get c d Watch.dropped).trans (if_neg hd))
    (fun c d s hd => congrArg Watch.dropped ((s.modWatch_watch_get c d Watch.dropped).trans (if_neg hd))) (.inl hcs) s c

theorem eachDrop_same (cs : List Chan) (s : State) :
    eachChan State.dropReference cs s =
      { s with scanner := { s.scanner with watch := (eachChan State.dropReference cs s).scanner.watch } } :=
  eachChan_keeps (P := fun u => u = { s with scanner := { s.scanner with watch := u.scanner.watch } })
    (f := State.dropReference) (fun c u hu => by rw [hu]; rfl) cs rfl

theorem State.nextPass_same (c : Chan) (s : State) :
    s.nextPass c = { s with scanner := { s.scanner with pass := (s.nextPass c).scanner.pass } } := by
  unfold State.nextPass
  split <;> rfl

theorem State.nextPass_pass (c : Chan) (s : State) :
    (s.nextPass c).scanner.pass =
      ((chansAfter c).find? fun x => decide (s.scanner.watch[x].state ≠ .fault)).map
        fun x => { chan := x, view := s.activeRecord x } := by
  unfold State.nextPass
  split
  · next x hx => rw [hx]; rfl
  · next hx => rw [hx]; rfl

/-- R156: with the lock clear nothing happens to the Scanner. -/
theorem State.scannerActivation_clear (set : ChanSet) (h : s.scanner.lock = false) : s.scannerActivation set = s :=
  (s.scannerActivation_cases set).1 h

theorem State.scannerActivation_same (set : ChanSet) (s : State) :
    s.scannerActivation set = { s with scanner := { s.scanner with
      watch := (s.scannerActivation set).scanner.watch, pass := (s.scannerActivation set).scanner.pass } } :=
  State.scannerActivation_keeps
    (P := fun u => u = { s with scanner := { s.scanner with watch := u.scanner.watch, pass := u.scanner.pass } })
    (fun c u hu => by rw [hu]; rfl) (fun c u hu => by rw [State.nextPass_same, hu]) set s rfl

theorem State.scannerActivation_watch (set : ChanSet) (s : State) (c : Chan) :
    (s.scannerActivation set).scanner.watch[c] =
      if s.scanner.lock = true ∧ set.getLsbD c.val = true then s.scanner.watch[c].dropped else s.scanner.watch[c] := by
  by_cases lock : s.scanner.lock = true
  · have dropped := eachDrop_watch set.chans_nodup s c
    simp only [ChanSet.mem_chans] at dropped
    simp only [lock, true_and]
    rw [← dropped]
    unfold State.scannerActivation
    rw [if_pos lock]
    simp only
    split
    · split
      · rw [State.nextPass_same]
      · rfl
    · rfl
  · rw [State.scannerActivation_clear set (by simpa using lock), if_neg fun e => lock e.1]

/-- R156: a pass over another channel goes on. -/
theorem State.scannerActivation_pass_kept (set : ChanSet) (s : State)
    (h : ∀ q, s.scanner.pass = some q → ¬ set.getLsbD q.chan.val = true) :
    (s.scannerActivation set).scanner.pass = s.scanner.pass := by
  by_cases lock : s.scanner.lock = true
  · rw [((s.scannerActivation_cases set).2 lock).2 fun q hq hc => h q hq (ChanSet.mem_chans.1 hc), eachDrop_same]
  · rw [State.scannerActivation_clear set (by simpa using lock)]

/-- R156: a pass over a channel of the set is abandoned for the next. -/
theorem State.scannerActivation_pass_next (set : ChanSet) (lock : s.scanner.lock = true) {q : Pass}
    (hq : s.scanner.pass = some q) (hc : set.getLsbD q.chan.val = true) :
    (s.scannerActivation set).scanner.pass =
      ((chansAfter q.chan).find? fun x => decide (s.scanner.watch[x].state ≠ .fault)).map
        fun x => { chan := x, view := s.activeRecord x } := by
  rw [((s.scannerActivation_cases set).2 lock).1 q hq (ChanSet.mem_chans.2 hc), State.nextPass_pass]
  have fault (x : Chan) : (eachChan State.dropReference set.chans s).scanner.watch[x].state ≠ .fault ↔
      s.scanner.watch[x].state ≠ .fault := by
    rw [eachDrop_watch set.chans_nodup]
    split
    · exact Watch.dropped_fault _
    · exact Iff.rfl
  have active (x : Chan) : (eachChan State.dropReference set.chans s).activeRecord x = s.activeRecord x := by
    rw [eachDrop_same]
    rfl
  simp only [fault, active]

/-! ### The whole -/

/-- The state of an activation after the Scanner's part. -/
abbrev State.scanned (s : State) (p : PendingCommit) : State := (s.rastered p).scannerActivation p.set

theorem State.completeCommit_same (p : PendingCommit) (g : Word32) (s : State) :
    s.completeCommit p g = { s with
      links := (s.completeCommit p g).links
      staging := { s.staging with waiting := (s.completeCommit p g).staging.waiting } } := by
  unfold State.completeCommit
  split <;> rfl

theorem State.activate_eq (s : State) (p : PendingCommit) :
    s.activate p = { s.scanned p with
      links := (s.activate p).links
      staging := { (s.scanned p).staging with
        waiting := (s.activate p).staging.waiting, commit := none, copyList := p.set.chans, state := .copyBack }
      scanner := { (s.scanned p).scanner with
        repair := (s.scanned p).scanner.repair.map fun r => { r with phase := .copyBack } } } := by
  have h := ((s.scanned p).raise .activated).completeCommit_same p (s.staging.gen + 1)
  show (((s.scanned p).raise .activated).completeCommit p (s.staging.gen + 1)).startCopyBack p.set = _
  generalize hv : ((s.scanned p).raise .activated).completeCommit p (s.staging.gen + 1) = v at h
  have links : (s.activate p).links = v.links := by rw [← hv]; rfl
  have waiting : (s.activate p).staging.waiting = v.staging.waiting := by rw [← hv]; rfl
  rw [links, waiting, h]
  rfl

theorem State.activate_links (s : State) (p : PendingCommit) :
    (s.activate p).links = (((s.scanned p).raise .activated).completeCommit p (s.staging.gen + 1)).links := rfl

theorem State.scanned_of {α : Type} (π : State → α) (hs : ∀ (w : Vector Watch 6) (q : Option Pass) (u : State),
    π { u with scanner := { u.scanner with watch := w, pass := q } } = π u)
    (hc : ∀ (v : Vector Capture 6) (u : State), π { u with capture := v } = π u) (s : State) (p : PendingCommit) :
    π (s.scanned p) = π (s.switched p) :=
  ((congrArg π (State.scannerActivation_same p.set (s.rastered p))).trans (hs _ _ _)).trans
    ((congrArg π (s.rastered_same p)).trans (hc _ _))

theorem State.scanned_links (s : State) (p : PendingCommit) : (s.scanned p).links = s.links :=
  (State.scanned_of State.links (fun _ _ _ => rfl) (fun _ _ => rfl) s p).trans
    (congrArg State.links (s.switched_same p) : (s.switched p).links = _)

theorem State.scanned_staging (s : State) (p : PendingCommit) : (s.scanned p).staging = (s.switched p).staging :=
  State.scanned_of State.staging (fun _ _ _ => rfl) (fun _ _ => rfl) s p

theorem State.activate_staging (s : State) (p : PendingCommit) :
    (s.activate p).staging = { s.staging with
      sel := (s.switched p).staging.sel, setSel := otherBank s.staging.setSel, gen := s.staging.gen + 1
      waiting := (s.activate p).staging.waiting, commit := none, copyList := p.set.chans, state := .copyBack } := by
  have h : (s.activate p).staging = { (s.scanned p).staging with
      waiting := (s.activate p).staging.waiting, commit := none, copyList := p.set.chans, state := .copyBack } :=
    congrArg State.staging (s.activate_eq p)
  have switched : (s.switched p).staging = _ := congrArg State.staging (s.switched_same p)
  rw [State.scanned_staging, switched] at h
  exact h

theorem State.activate_banked_switched (s : State) (p : PendingCommit) (c : Chan) :
    (s.activate p).banked c = (s.switched p).banked c :=
  (congrArg (fun u : State => u.banked c) (s.activate_eq p)).trans
    (State.scanned_of (fun u => u.banked c) (fun _ _ _ => rfl) (fun _ _ => rfl) s p)

/-- R143: after an activation a channel's selector and records are those of its switch. -/
theorem State.activate_banked (s : State) (p : PendingCommit) (c : Chan) :
    (s.activate p).banked c = if p.set.getLsbD c.val = true then s.bankedActive (s.staging.gen + 1) c else s.banked c := by
  rw [State.activate_banked_switched, State.switched_banked]

theorem State.activate_sel (s : State) (p : PendingCommit) (c : Chan) :
    (s.activate p).staging.sel[c] =
      if p.set.getLsbD c.val = true then otherBank s.staging.sel[c] else s.staging.sel[c] := by
  have h := congrArg Prod.fst (s.activate_banked p c)
  rw [apply_ite Prod.fst] at h
  exact h

theorem State.activate_record (s : State) (p : PendingCommit) (b : Bank) (c : Chan) :
    (s.activate p).record b c =
      if p.set.getLsbD c.val = true ∧ b = otherBank s.staging.sel[c] then
        Rec.setGen (s.record b c) (s.staging.gen + 1) else s.record b c := by
  have h := congrFun (congrArg Prod.snd (s.activate_banked p c)) b
  by_cases hc : p.set.getLsbD c.val = true
  · simp only [hc, true_and]
    rw [if_pos hc] at h
    exact h
  · rw [if_neg hc] at h
    rw [if_neg fun e => hc e.1]
    exact h

theorem State.activate_header (s : State) (p : PendingCommit) (b : Bank) :
    (s.activate p).header b =
      if b = otherBank s.staging.setSel then Header.setGen (s.header b) (s.staging.gen + 1) else s.header b := by
  rw [← s.switched_header p b]
  exact (congrArg (fun u : State => u.header b) (s.activate_eq p)).trans
    (State.scanned_of (fun u => u.header b) (fun _ _ _ => rfl) (fun _ _ => rfl) s p)

theorem State.activate_records (s : State) (p : PendingCommit) (c : Chan) :
    (p.set.getLsbD c.val = true →
      (s.activate p).activeRecord c = Rec.setGen (s.stagingRecord c) (s.staging.gen + 1) ∧
      (s.activate p).stagingRecord c = s.activeRecord c) ∧
    (¬ p.set.getLsbD c.val = true →
      (s.activate p).activeRecord c = s.activeRecord c ∧ (s.activate p).stagingRecord c = s.stagingRecord c) := by
  have sel := s.activate_sel p c
  refine ⟨fun hc => ?_, fun hc => ?_⟩
  · rw [if_pos hc] at sel
    constructor
    · rw [State.activeRecord, State.activeBank, sel, State.activate_record, if_pos ⟨hc, rfl⟩]
      rfl
    · rw [State.stagingRecord, State.stagingBank, State.activeBank, sel, State.activate_record, otherBank_otherBank,
        if_neg fun e => otherBank_ne _ e.2]
      rfl
  · rw [if_neg hc] at sel
    constructor
    · rw [State.activeRecord, State.activeBank, sel, State.activate_record, if_neg fun e => hc e.1]
      rfl
    · rw [State.stagingRecord, State.stagingBank, State.activeBank, sel, State.activate_record, if_neg fun e => hc e.1]
      rfl

theorem State.activate_headers (s : State) (p : PendingCommit) :
    (s.activate p).activeHeader = Header.setGen s.stagingHeader (s.staging.gen + 1) ∧
      (s.activate p).stagingHeader = s.activeHeader := by
  have sel : (s.activate p).staging.setSel = otherBank s.staging.setSel := by rw [State.activate_staging]
  constructor
  · rw [State.activeHeader, sel, State.activate_header, if_pos rfl]
    rfl
  · rw [State.stagingHeader, sel, State.activate_header, otherBank_otherBank, if_neg (otherBank_ne _)]
    rfl

theorem State.switched_activeRecord (s : State) (p : PendingCommit) (c : Chan) :
    (s.switched p).activeRecord c = (s.activate p).activeRecord c := by
  obtain ⟨hsel, hrec⟩ := Prod.ext_iff.1 (s.activate_banked_switched p c)
  exact (congrFun hrec _).symm.trans (congrArg (fun b => (s.activate p).record b c) hsel.symm)

theorem State.activate_slots (s : State) (p : PendingCommit) (c : Chan) :
    (s.activate p).slots c =
      if p.set.getLsbD c.val = true then
        if Rec.wIn ((s.activate p).activeRecord c) = Rec.wIn (s.activeRecord c) ∧
          Rec.hIn ((s.activate p).activeRecord c) = Rec.hIn (s.activeRecord c) then s.slots c else (s.slots c).freeReady
      else s.slots c := by
  have h : (s.activate p).slots c = (s.rastered p).slots c :=
    (congrArg (fun u : State => u.slots c) (s.activate_eq p)).trans
      (congrArg (fun u : State => u.slots c) (State.scannerActivation_same p.set (s.rastered p)) : (s.scanned p).slots c = _)
  rw [h, State.rastered_slots, State.rasterSlots, State.switched_activeRecord]
  simp only [eq_comm (a := Rec.wIn (s.activeRecord c)), eq_comm (a := Rec.hIn (s.activeRecord c))]

theorem State.rastered_scanner (s : State) (p : PendingCommit) : (s.rastered p).scanner = s.scanner :=
  (congrArg State.scanner (s.rastered_same p) : (s.rastered p).scanner = _).trans
    (congrArg State.scanner (s.switched_same p) : (s.switched p).scanner = _)

theorem State.rastered_activeRecord (s : State) (p : PendingCommit) (c : Chan) :
    (s.rastered p).activeRecord c = (s.activate p).activeRecord c :=
  (congrArg (fun u : State => u.activeRecord c) (s.rastered_same p)).trans (s.switched_activeRecord p c)

theorem State.activate_scanner (s : State) (p : PendingCommit) :
    (s.activate p).scanner = { s.scanner with
      watch := (s.scanned p).scanner.watch, pass := (s.scanned p).scanner.pass
      repair := s.scanner.repair.map fun r => { r with phase := .copyBack } } := by
  have h : (s.activate p).scanner = _ := congrArg State.scanner (s.activate_eq p)
  have hs : (s.scanned p).scanner = _ := congrArg State.scanner (State.scannerActivation_same p.set (s.rastered p))
  rw [State.rastered_scanner] at hs
  rw [h, hs]

theorem State.activate_link (s : State) (p : PendingCommit) (k : LinkId) :
    (s.activate p).links[k].pending = s.links[k].pending ||| EventKind.activated.bit ∧
      ∀ tag, p.owner = .link k tag → s.links[k].up = true →
        .completion tag .success 0 (word32Bytes (s.staging.gen + 1)) [] ∈ (s.activate p).links[k].sendQ := by
  have raised : ((s.scanned p).raise .activated).links[k] = s.links[k].raise .activated := by
    rw [State.raise_links_get, State.scanned_links]
  rw [State.activate_links]
  generalize (s.scanned p).raise .activated = u at raised
  constructor
  · have same : (u.completeCommit p (s.staging.gen + 1)).links[k].pending = u.links[k].pending := by
      unfold State.completeCommit State.complete
      split
      · rw [State.modLink_links_get]
        split
        · next e => subst e; rw [Link.complete_pending]; rfl
        · rfl
      · rfl
    rw [same, raised, Link.raise_pending]
  · intro tag howner up
    unfold State.completeCommit State.complete
    rw [howner]
    simp only
    rw [State.modLink_links_same, Link.complete_when_up]
    · exact List.mem_append_right _ (by simp [word32Bytes, leBytes])
    · show u.links[k].up = true
      rw [raised, Link.raise_up, up]

theorem Activation.met_iff (kind : Activation) (swapped : Option Word32) :
    kind.met swapped = true ↔
      kind = .nextTick ∨ ∃ n f, kind = .atFrame n ∧ swapped = some f ∧ (f = n ∨ newer f n = true) := by
  cases kind with
  | nextTick => simp [Activation.met]
  | atFrame n =>
    cases swapped with
    | none => simp [Activation.met]
    | some f => simp [Activation.met, newerEq_iff, or_comm]

theorem chansAfter_eq (c : Chan) : chansAfter c = [c + 1, c + 2, c + 3, c + 4, c + 5, c] := by
  revert c
  decide

/-- Settles O52: an activation, part by part. -/
theorem activationSwitchesTheSet : Obligations.ActivationSwitchesTheSet := by
  intro s p swapped state commit t g inSet met
  have ht : t = if p.kind.met swapped then s.activate p else s := by
    show s.testActivation swapped = _
    unfold State.testActivation
    rw [state, commit]
  refine ⟨fun hm => ht.trans (if_neg fun e => hm ((Activation.met_iff _ _).1 e)), fun hm => ?_⟩
  have active : t = s.activate p := ht.trans (if_pos ((Activation.met_iff _ _).2 hm))
  clear ht
  clear_value t
  subst active
  have watch (c : Chan) := State.scannerActivation_watch p.set (s.rastered p) c
  have staging := s.activate_staging p
  have scanner := s.activate_scanner p
  rw [State.rastered_scanner] at watch
  refine ⟨?staging, fun c hc => ?inSet, fun c hc => ?others, (s.activate_headers p).1, (s.activate_headers p).2,
    fun k => (s.activate_link p k).1, fun k tag => (s.activate_link p k).2 tag, fun c hc lock => ?dropped, fun clear => ?clear,
    fun q hq hc => ?kept, fun lock q hq hc => ?next, fun hq => ?noPass, ?scanner⟩
  case staging => rw [staging]; exact ⟨rfl, rfl, rfl, rfl, rfl, by simp [ChanSet.chans, inSet], rfl⟩
  case inSet =>
    obtain ⟨active, stage⟩ := (s.activate_records p c).1 hc
    exact ⟨(s.activate_sel p c).trans (if_pos hc), active, stage, (s.activate_slots p c).trans (if_pos hc)⟩
  case others =>
    obtain ⟨active, stage⟩ := (s.activate_records p c).2 hc
    refine ⟨(s.activate_sel p c).trans (if_neg hc), active, stage, (s.activate_slots p c).trans (if_neg hc), ?_⟩
    rw [scanner]
    exact (watch c).trans (if_neg fun e => hc e.2)
  case dropped => rw [scanner]; exact (watch c).trans (if_pos ⟨lock, hc⟩)
  case clear =>
    rw [scanner]
    have h := State.scannerActivation_clear (s := s.rastered p) p.set (by rw [State.rastered_scanner]; exact clear)
    have hs : (s.scanned p).scanner = s.scanner := (congrArg State.scanner h).trans (s.rastered_scanner p)
    rw [hs]
    exact ⟨rfl, rfl⟩
  case kept =>
    rw [scanner]
    refine (State.scannerActivation_pass_kept p.set (s.rastered p) fun q' hq' => ?_).trans ?_
    · rw [State.rastered_scanner, hq] at hq'
      obtain rfl := Option.some.inj hq'
      exact hc
    · rw [State.rastered_scanner, hq]
  case next =>
    rw [scanner]
    have h := State.scannerActivation_pass_next (s := s.rastered p) p.set (by rw [State.rastered_scanner]; exact lock)
      (by rw [State.rastered_scanner]; exact hq) hc
    simp only [State.rastered_scanner, State.rastered_activeRecord, chansAfter_eq] at h
    exact h
  case noPass =>
    rw [scanner]
    refine (State.scannerActivation_pass_kept p.set (s.rastered p) fun q' hq' => ?_).trans ?_
    · rw [State.rastered_scanner, hq] at hq'
      cases hq'
    · rw [State.rastered_scanner, hq]
  case scanner => rw [scanner]

/-- Between ticks Staging keeps its selectors, generation, state and commit. -/
theorem State.Runs.staging (h : s.Runs t) :
    t.staging.sel = s.staging.sel ∧ t.staging.setSel = s.staging.setSel ∧ t.staging.gen = s.staging.gen ∧
      t.staging.state = s.staging.state ∧ t.staging.commit = s.staging.commit :=
  ⟨congrArg (·.staging.sel) h.next, congrArg (·.staging.setSel) h.next, congrArg (·.staging.gen) h.next,
    congrArg (·.staging.state) h.next, congrArg (·.staging.commit) h.next⟩

theorem State.damaged_gen (b : Bank) (target : CalTarget) (changed : List Host.Cell) (scanned stored : Nat) (s : State) :
    (s.damaged b target changed scanned stored).beginSends.staging.gen = s.staging.gen := by
  have sees : (s.passSees b target changed scanned).staging = s.staging := by
    unfold State.passSees
    split
    · split <;> rfl
    · rfl
  have stores (u : State) : (u.storeSees b target changed stored).staging = u.staging := by
    unfold State.storeSees
    split <;> rfl
  have changes (u : State) : (u.changeStructure b target changed).staging = u.staging := by cases target <;> rfl
  rw [State.beginSends_staging, changes, stores, sees]

/-- Settles O13: an activation is the one change of the generation, and a command gives at most one. -/
theorem generationCountsActivations : Obligations.GenerationCountsActivations := by
  intro c s t h hgen
  cases exec_executed h with
  | startUp => exact .inl rfl
  | damage b target changed scanned stored => exact absurd (s.damaged_gen b target changed scanned stored) hgen
  | linkDown k =>
    obtain ⟨u, h₁, h₂⟩ := Executed.quiet (.linkDown k) rfl
    exact absurd ((h₂.gen fun h => h).trans (h₁.gen fun h => h)) hgen
  | acted _ _ _ ht => exact absurd ((ht.moves (σ := Scope.quiet) (fun _ => trivial) fun _ => trivial).gen fun h => h) hgen
  | ticked _ _ _ ht =>
    refine .inr ?_
    obtain ⟨x, y, hx, rfl | ⟨p, hstate, hcommit, rfl⟩, hy⟩ := ht
    · exact absurd (hy.staging.2.2.1.trans hx.staging.2.2.1) hgen
    · have staging := x.activate_staging p
      have sel := x.activate_sel p
      generalize x.activate p = y at hy staging sel
      obtain ⟨hysel, hyset, hygen, hystate, -⟩ := hy.staging
      obtain ⟨hxsel, hxset, hxgen, -, hxcommit⟩ := hx.staging
      rw [hygen, hyset, hystate, hysel, staging, ← hxgen, ← hxset, ← hxcommit]
      refine ⟨rfl, rfl, rfl, p, hcommit, fun c => ?_⟩
      rw [staging] at sel
      rw [sel c, ← hxsel]
      split
      · next hc => exact iff_of_true (otherBank_ne _).symm hc
      · next hc => exact iff_of_false (fun e => e rfl) hc

end Sys2Proof.Machine
end

section
/-! The dome timebase: reference edges, missing-edge limits and scheduled ticks (R52 to R63), and what every step keeps of the
Timebase. -/

namespace Sys2Proof.Machine

variable {σ : Scope} {s t u : State}

/-! ### An edge and its judgement -/

theorem appendInterval_eq (h : List Nat) (i : Nat) : appendInterval h i = (h ++ [i]).drop (h.length - 7) := by
  rw [appendInterval, show h.length + 1 - 8 = h.length - 7 from Nat.add_sub_add_right _ 1 7]

theorem goodInterval_iff (p i : Nat) : goodInterval p i = true ↔ p - p / 200 ≤ i ∧ i ≤ p + p / 200 := by
  simp [goodInterval]

/-- R52: an edge before the start is ignored. -/
theorem exec_referenceEdge_stopped (elapsed : Nat) (h : s.timebase.running = false) :
    exec (.referenceEdge elapsed) s = .next s.beginSends := by
  simp [exec, execReferenceEdge, h]

/-- R51: with reference source NONE only time passes. -/
theorem exec_referenceEdge_none (elapsed : Nat) (h : s.timebase.running = true) (hs : s.timebase.source = .none) :
    exec (.referenceEdge elapsed) s = .next (s.passTime elapsed).beginSends := by
  simp [exec, execReferenceEdge, h, hs, State.passTime]

theorem exec_referenceEdge_taken (elapsed : Nat) (h : s.timebase.running = true) (hs : s.timebase.source = .houseSync) :
    exec (.referenceEdge elapsed) s = .next (s.passTime elapsed).takeEdge.beginSends := by
  simp [exec, execReferenceEdge, h, hs, State.passTime]

theorem State.takeEdge_judged {e : Nat} (h : s.timebase.state ≠ .freeRun) (he : s.timebase.lastEdge = some e) :
    s.takeEdge = (s.recordEdge (some (s.timebase.now - e))).judgeEdge (s.timebase.now - e) := by
  rw [State.takeEdge, if_neg h, he]

/-- R52: the edge recorded, `elapsed` after the last time-stamped step, with its interval from the edge at `e`. -/
def State.edgeTaken (elapsed e : Nat) (s : State) : State :=
  { s with timebase :=
    { s.timebase with
      now := s.timebase.now + elapsed, lastEdge := some (s.timebase.now + elapsed)
      lastInterval := some (s.timebase.now + elapsed - e) } }

/-- An edge with an interval: what is judged, and the state that it is judged in. -/
theorem exec_referenceEdge_judged {elapsed e : Nat} (running : s.timebase.running = true)
    (source : s.timebase.source = .houseSync) (state : s.timebase.state ≠ .freeRun) (edge : s.timebase.lastEdge = some e) :
    exec (.referenceEdge elapsed) s =
      .next ((s.edgeTaken elapsed e).judgeEdge (s.timebase.now + elapsed - e)).beginSends := by
  rw [exec_referenceEdge_taken elapsed running source, State.takeEdge_judged (s := s.passTime elapsed) state edge]
  rfl

section
variable {i : Nat}

theorem State.judgeEdge_acquiring (h : s.timebase.state = .acquiring) : s.judgeEdge i = s.edgeAcquiring i := by
  rw [State.judgeEdge, h]

theorem State.judgeEdge_locked (h : s.timebase.state = .locked) : s.judgeEdge i = s.edgeLocked i := by
  rw [State.judgeEdge, h]

theorem State.judgeEdge_holdover (h : s.timebase.state = .holdover) : s.judgeEdge i = s.edgeHoldover i := by
  rw [State.judgeEdge, h]

/-- R57, R62: an interval joins the history and the count. -/
def State.countInterval (i : Nat) (s : State) : State :=
  s.modTimebase fun t => { t with history := appendInterval t.history i, good := t.good + 1 }

theorem State.edgeAcquiring_good (h : goodInterval s.timebase.nominal i = true) :
    s.edgeAcquiring i = if 8 ≤ s.timebase.good + 1 then (s.countInterval i).enterLocked else s.countInterval i := if_pos h

theorem State.edgeAcquiring_few (h : goodInterval s.timebase.nominal i = true) (few : s.timebase.good < 7) :
    s.edgeAcquiring i = s.countInterval i := by
  rw [State.edgeAcquiring_good h, if_neg (by omega)]

theorem State.edgeAcquiring_last (h : goodInterval s.timebase.nominal i = true) (last : s.timebase.good = 7) :
    s.edgeAcquiring i = (s.countInterval i).enterLocked := by
  rw [State.edgeAcquiring_good h, if_pos (by omega)]

theorem State.edgeAcquiring_bad (h : ¬ goodInterval s.timebase.nominal i = true) :
    s.edgeAcquiring i = s.modTimebase fun t => { t with history := [], good := 0 } := if_neg h

theorem State.edgeHoldover_good (h : goodInterval s.timebase.nominal i = true) :
    s.edgeHoldover i = if 4 ≤ s.timebase.good + 1 then (s.countInterval i).enterLocked else s.countInterval i := if_pos h

theorem State.edgeHoldover_few (h : goodInterval s.timebase.nominal i = true) (few : s.timebase.good < 3) :
    s.edgeHoldover i = s.countInterval i := by
  rw [State.edgeHoldover_good h, if_neg (by omega)]

theorem State.edgeHoldover_last (h : goodInterval s.timebase.nominal i = true) (last : s.timebase.good = 3) :
    s.edgeHoldover i = (s.countInterval i).enterLocked := by
  rw [State.edgeHoldover_good h, if_pos (by omega)]

theorem State.edgeHoldover_bad (h : ¬ goodInterval s.timebase.nominal i = true) :
    s.edgeHoldover i = s.modTimebase fun t => { t with good := 0 } := if_neg h

theorem State.edgeLocked_good (h : goodInterval s.timebase.nominal i = true) :
    s.edgeLocked i = (s.modTimebase fun t =>
      { t with history := appendInterval t.history i, period := meanPeriod (appendInterval t.history i) }).tick := if_pos h

theorem State.edgeLocked_bad (h : ¬ goodInterval s.timebase.nominal i = true) :
    s.edgeLocked i =
      (if (s.modTimebase Timebase.enterHoldover).timebase.due ≤ s.timebase.now
        then (s.modTimebase Timebase.enterHoldover).holdoverTick else s.modTimebase Timebase.enterHoldover).raise .timebase :=
  if_neg h

/-- R58, R62: the Timebase that enters LOCKED. -/
abbrev State.lockedAt (s : State) : State :=
  s.modTimebase fun t => { t with state := .locked, period := meanPeriod t.history, good := 0, holdoverTicks := 0 }

/-- R58, R62: the tick is realigned when half a period has passed. -/
theorem State.enterLocked_eq (s : State) :
    s.enterLocked =
      (if s.timebase.period ≤ 2 * (s.timebase.now - s.timebase.lastTick) then s.lockedAt.tick
        else s.lockedAt.modTimebase fun t => { t with lockEdge := some t.now }).raise .timebase := rfl

end

/-- Settles O29, by the state that the edge finds and its judgement. -/
theorem referenceEdgesAreJudged : Obligations.ReferenceEdgesAreJudged := by
  refine ⟨fun s elapsed => ⟨fun h => exec_referenceEdge_stopped elapsed h, fun h hs => exec_referenceEdge_none elapsed h hs,
    fun h hs free => ?free⟩, fun s elapsed e running source edge => ?judged⟩
  case free =>
    rw [exec_referenceEdge_taken elapsed h hs, State.takeEdge]
    exact congrArg _ (congrArg _ (if_pos free))
  case judged =>
    intro now p good t h
    have judged := fun state => exec_referenceEdge_judged (elapsed := elapsed) running source state edge
    refine ⟨fun state hgood few => ?_, fun state hbad => ?_, fun state hgood few => ?_, fun state hbad => ?_⟩
    · rw [judged (by rw [state]; decide), State.judgeEdge_acquiring (s := s.edgeTaken elapsed e) state,
        State.edgeAcquiring_few (s := s.edgeTaken elapsed e) ((goodInterval_iff _ _).2 hgood) few, State.countInterval]
      simp only [appendInterval_eq]
      rfl
    · rw [judged (by rw [state]; decide), State.judgeEdge_acquiring (s := s.edgeTaken elapsed e) state,
        State.edgeAcquiring_bad (s := s.edgeTaken elapsed e) (fun e => hbad ((goodInterval_iff _ _).1 e))]
      rfl
    · rw [judged (by rw [state]; decide), State.judgeEdge_holdover (s := s.edgeTaken elapsed e) state,
        State.edgeHoldover_few (s := s.edgeTaken elapsed e) ((goodInterval_iff _ _).2 hgood) few, State.countInterval]
      simp only [appendInterval_eq]
      rfl
    · rw [judged (by rw [state]; decide), State.judgeEdge_holdover (s := s.edgeTaken elapsed e) state,
        State.edgeHoldover_bad (s := s.edgeTaken elapsed e) (fun e => hbad ((goodInterval_iff _ _).1 e))]
      rfl

/-- Settles O30: the interval completes the run, and the tick is realigned or not. -/
theorem goodIntervalsLock : Obligations.GoodIntervalsLock := by
  intro s elapsed e running source edge complete now p hlo hhi h u d
  have good : goodInterval (Config.nominalPeriod s.timebase.rate) (s.timebase.now + elapsed - e) = true :=
    (goodInterval_iff _ _).2 ⟨hlo, hhi⟩
  obtain ⟨v, hv⟩ : ∃ v : State, v = s.edgeTaken elapsed e := ⟨_, rfl⟩
  have entered : exec (.referenceEdge elapsed) s = .next (v.countInterval (now - e)).enterLocked.beginSends := by
    obtain ⟨state, count⟩ | ⟨state, count⟩ := complete
    · rw [exec_referenceEdge_judged running source (by rw [state]; decide) edge, State.judgeEdge_acquiring (s := s.edgeTaken elapsed e) state,
        State.edgeAcquiring_last (s := s.edgeTaken elapsed e) good count, hv]
    · rw [exec_referenceEdge_judged running source (by rw [state]; decide) edge, State.judgeEdge_holdover (s := s.edgeTaken elapsed e) state,
        State.edgeHoldover_last (s := s.edgeTaken elapsed e) good count, hv]
  have locked : (v.countInterval (now - e)).lockedAt = u := by
    rw [hv]
    simp only [State.lockedAt, State.countInterval, State.modTimebase, appendInterval_eq]
    rfl
  have period : (v.countInterval (now - e)).timebase.period = s.timebase.period := by rw [hv]; rfl
  have distance : (v.countInterval (now - e)).timebase.now - (v.countInterval (now - e)).timebase.lastTick = d := by
    rw [hv]; rfl
  rw [entered, State.enterLocked_eq, locked, period, distance]
  refine ⟨fun late => ?_, fun early => ?_⟩
  · rw [if_pos late]
  · rw [if_neg (by omega)]
    rfl

/-- Settles O31: the good interval's tick, and the two cases of a bad one. -/
theorem lockedEdgesTick : Obligations.LockedEdgesTick := by
  intro s elapsed e running source edge state now p good t h
  have judged := exec_referenceEdge_judged (elapsed := elapsed) running source (by rw [state]; decide) edge
  rw [State.judgeEdge_locked (s := s.edgeTaken elapsed e) state] at judged
  refine ⟨fun hgood => ?_, fun hbad early => ?_, fun hbad late => ?_⟩
  · rw [judged, State.edgeLocked_good (s := s.edgeTaken elapsed e) ((goodInterval_iff _ _).2 hgood)]
    simp only [State.modTimebase, appendInterval_eq]
    rfl
  · rw [judged, State.edgeLocked_bad (s := s.edgeTaken elapsed e) (fun e => hbad ((goodInterval_iff _ _).1 e)), if_neg]
    · rfl
    · exact Nat.not_le.2 early
  · rw [judged, State.edgeLocked_bad (s := s.edgeTaken elapsed e) (fun e => hbad ((goodInterval_iff _ _).1 e)), if_pos]
    · rfl
    · exact late

theorem exec_missingEdgeLimitAcquiring {e : Nat} (running : s.timebase.running = true)
    (state : s.timebase.state = .acquiring) (edge : s.timebase.lastEdge = some e) :
    exec .missingEdgeLimitAcquiring s =
      .next ((s.reachTime (e + 3 * s.timebase.nominal / 2)).enterFreeRun).beginSends := by
  rw [exec, execMissingEdgeLimitAcquiring, running, state, edge]

/-- Settles O32: each limit in its state. -/
theorem missingEdgesLeaveTheReference : Obligations.MissingEdgesLeaveTheReference := by
  intro s running p
  refine ⟨fun e state edge => exec_missingEdgeLimitAcquiring running state edge, fun state => ?_⟩
  · simp only [exec, execMissingEdgeLimitLocked]
    rw [if_pos ⟨running, state⟩]
    rfl

theorem exec_frameTick_scheduled (running : s.timebase.running = true) (state : s.timebase.state ≠ .locked) :
    exec .frameTick s = .next s.scheduledTick.beginSends := if_pos ⟨running, state⟩

theorem exec_holdoverTickLimit_scheduled (running : s.timebase.running = true) (state : s.timebase.state = .holdover)
    (count : s.timebase.holdoverTicks = 63) : exec .holdoverTickLimit s = .next s.scheduledTick.beginSends :=
  if_pos ⟨running, state, count⟩

theorem State.scheduledTick_free (state : s.timebase.state ≠ .holdover) :
    s.scheduledTick = (s.reachTime s.timebase.due).tick := if_neg state

theorem State.scheduledTick_holdover (state : s.timebase.state = .holdover) :
    s.scheduledTick = (s.reachTime s.timebase.due).holdoverTick.endHoldover := if_pos state

theorem State.onlyFrames.timebase (h : s.onlyFrames t) : t.timebase = s.timebase :=
  (congrArg State.timebase h.next : t.core.timebase = _)

theorem State.activate_timebase (s : State) (p : PendingCommit) : (s.activate p).timebase = s.timebase :=
  ((congrArg State.timebase (s.activate_eq p) : (s.activate p).timebase = _).trans
    (State.scanned_of State.timebase (fun _ _ _ => rfl) (fun _ _ => rfl) s p)).trans
    (congrArg State.timebase (s.switched_same p) : (s.switched p).timebase = _)

theorem State.testActivation_timebase (swapped : Option Word32) (s : State) :
    (s.testActivation swapped).timebase = s.timebase := by
  obtain h | ⟨p, -, -, h⟩ := s.testActivation_cases swapped
  · rw [h]
  · rw [h, State.activate_timebase]

/-- A tick counts itself, and leaves the rest of the Timebase. -/
theorem State.tick_timebase (s : State) : s.tick.timebase =
    { s.timebase with
      tickCount := s.timebase.tickCount + 1, lastTick := s.timebase.now, lockEdge := none } := by
  have decided := State.onlyFrames_trans (State.applyModes_onlyFrames s.countTick.timebase.tickCount s.countTick)
    (State.barrierDecision_onlyFrames s.modes _)
  unfold State.tick
  dsimp only
  generalize (s.countTick.applyModes s.countTick.timebase.tickCount).barrierDecision s.modes = d at decided
  have adopted := (State.onlyFrames_eachChan State.adoption_onlyFrames (List.finRange 6) (d.1.testActivation d.2)).timebase
  have started (u : State) : u.frameStarts.timebase = u.timebase := rfl
  rw [started, adopted, State.testActivation_timebase, decided.timebase]
  rfl

/-- Settles O33: the scheduled tick in each state. -/
theorem scheduledTicks : Obligations.ScheduledTicks := by
  refine ⟨fun s => ⟨fun h => ?_, fun h state => ?_⟩, fun s running state => ?_⟩
  · simp [exec, execFrameTick, h]
  · rw [exec_frameTick_scheduled h (by obtain e | e := state <;> rw [e] <;> decide),
      State.scheduledTick_free (by obtain e | e := state <;> rw [e] <;> decide)]
    rfl
  · intro u
    have scheduled : s.scheduledTick = u.endHoldover := State.scheduledTick_holdover state
    have count : u.timebase.holdoverTicks = s.timebase.holdoverTicks + 1 := by rw [State.tick_timebase]
    have rate : u.timebase.rate = s.timebase.rate := by rw [State.tick_timebase]
    refine ⟨fun few => ?_, fun last => ⟨?_, ?_⟩⟩
    · rw [exec_frameTick_scheduled running (by rw [state]; decide), scheduled, State.endHoldover, if_neg (by omega)]
    · rw [exec_frameTick_scheduled running (by rw [state]; decide), exec_holdoverTickLimit_scheduled running state last]
    · rw [exec_holdoverTickLimit_scheduled running state last, scheduled, State.endHoldover, if_pos (by omega), ← rate]
      rfl

end Sys2Proof.Machine
end

section
/-! What every step keeps of the Timebase (R53 to R63). -/

namespace Sys2Proof.Machine

variable {σ : Scope} {s t u : State} {b : Timebase} {i : Nat}

/-! ### The interval history -/

theorem length_appendInterval (h : List Nat) (i : Nat) (hl : h.length ≤ 8) :
    (appendInterval h i).length = min 8 (h.length + 1) := by
  rw [appendInterval, List.length_drop, List.length_append, List.length_singleton]
  omega

theorem appendInterval_good {p : Nat} {h : List Nat} (hh : ∀ j ∈ h, goodInterval p j = true)
    (hi : goodInterval p i = true) : ∀ j ∈ appendInterval h i, goodInterval p j = true := fun j hj => by
  obtain hj | hj := List.mem_append.1 (List.mem_of_mem_drop hj)
  · exact hh j hj
  · rw [List.mem_singleton.1 hj]
    exact hi

/-- R58: the mean of 8 good intervals is good. -/
theorem meanPeriod_good {p : Nat} {h : List Nat} (hl : h.length = 8) (hh : ∀ j ∈ h, goodInterval p j = true) :
    goodInterval p (meanPeriod h) = true := by
  have hi := List.sum_le_card_nsmul h (p + p / 200) fun j hj => ((goodInterval_iff p j).1 (hh j hj)).2
  have lo := List.card_nsmul_le_sum h (p - p / 200) fun j hj => ((goodInterval_iff p j).1 (hh j hj)).1
  rw [hl, smul_eq_mul] at hi lo
  rw [goodInterval_iff, meanPeriod]
  generalize p - p / 200 = a at *
  generalize p + p / 200 = c at *
  omega

/-! ### The laws, for each change of the Timebase -/

/-- R52: an edge is recorded outside FREE_RUN. -/
theorem Timebase.ok_recorded (h : b.ok) (hs : b.state ≠ .freeRun) (e : Option Nat) (j : Option Nat) :
    Timebase.ok { b with lastEdge := e, lastInterval := j } := by
  obtain ⟨hrate, hlen, hgood, hfree, hlocked, -, hrest⟩ := h
  exact ⟨hrate, hlen, hgood, hfree, hlocked, fun e => absurd e hs, hrest⟩

/-- R56: an edge in FREE_RUN. -/
theorem Timebase.ok_acquiring (h : b.ok) (hs : b.state = .freeRun) (source : b.source = .houseSync) (e : Option Nat) :
    Timebase.ok { b with lastEdge := e, state := .acquiring, good := 0 } := by
  obtain ⟨hrate, hlen, hgood, hfree, -, hempty, -, -, -, hticks, hzero, -⟩ := h
  refine ⟨hrate, hlen, hgood, fun _ => hfree (.inl hs), fun e => (by obtain e | e := e <;> cases e), fun e => (by cases e),
    fun _ => ⟨?_, by simp⟩, fun e => (by cases e), fun e => (by cases e), hticks, fun _ => hzero (by rw [hs]; decide),
    fun e => ?_⟩
  · rw [(hempty hs).1]; rfl
  · cases source.symm.trans e

/-- R57, R62: an interval that completes no run. -/
theorem Timebase.ok_counted (h : b.ok) (hi : goodInterval b.nominal i = true)
    (hs : b.state = .acquiring ∧ b.good < 7 ∨ b.state = .holdover ∧ b.good < 3) :
    Timebase.ok { b with history := appendInterval b.history i, good := b.good + 1 } := by
  obtain ⟨hrate, hlen, hgood, hfree, hlocked, -, hacq, hlock, hhold, hticks, hzero, hsource⟩ := h
  have length := length_appendInterval b.history i hlen
  refine ⟨hrate, by dsimp only; omega, appendInterval_good hgood hi, hfree, fun e => ⟨?_, (hlocked e).2⟩, fun e => ?_, fun e => ?_,
    fun e => ?_, fun e => ?_, hticks, hzero, hsource⟩
  · have := (hlocked e).1
    dsimp only
    omega
  · exact absurd hs (by rw [show b.state = .freeRun from e]; simp)
  · have := hacq e
    obtain ⟨_, few⟩ | ⟨e', -⟩ := hs
    · dsimp only
      omega
    · cases e'.symm.trans e
  · exact absurd hs (by rw [show b.state = .locked from e]; simp)
  · obtain ⟨e', -⟩ | ⟨-, few⟩ := hs
    · cases e'.symm.trans e
    · dsimp only
      omega

/-- R58, R62: the interval that completes a run. -/
theorem Timebase.ok_locked (h : b.ok) (hi : goodInterval b.nominal i = true)
    (hs : b.state = .acquiring ∧ b.good = 7 ∨ b.state = .holdover) :
    Timebase.ok { b with
      history := appendInterval b.history i, state := .locked, period := meanPeriod (appendInterval b.history i)
      good := 0, holdoverTicks := 0 } := by
  obtain ⟨hrate, hlen, hgood, -, hlocked, -, hacq, -, -, -, -, hsource⟩ := h
  have full : (appendInterval b.history i).length = 8 := by
    rw [length_appendInterval b.history i hlen]
    obtain ⟨e, count⟩ | e := hs
    · have := hacq e
      omega
    · have := hlocked (.inr e)
      omega
  have goods := appendInterval_good hgood hi
  refine ⟨hrate, full.le, goods, fun e => (by obtain e | e := e <;> cases e), fun _ => ⟨full, meanPeriod_good full goods⟩,
    fun e => (by cases e), fun e => (by cases e), fun _ => rfl, fun e => (by cases e), by simp, fun _ => rfl, fun e => ?_⟩
  obtain ⟨e', -⟩ | e' := hs
  · cases e'.symm.trans (hsource e)
  · cases e'.symm.trans (hsource e)

/-- R59: a good interval in LOCKED. -/
theorem Timebase.ok_relocked (h : b.ok) (hi : goodInterval b.nominal i = true) (hs : b.state = .locked) :
    Timebase.ok { b with history := appendInterval b.history i, period := meanPeriod (appendInterval b.history i) } := by
  obtain ⟨hrate, hlen, hgood, -, hlocked, -, -, hlock, -, hticks, hzero, hsource⟩ := h
  have full : (appendInterval b.history i).length = 8 := by
    rw [length_appendInterval b.history i hlen]
    have := hlocked (.inl hs)
    omega
  have goods := appendInterval_good hgood hi
  refine ⟨hrate, full.le, goods, fun e => ?_, fun _ => ⟨full, meanPeriod_good full goods⟩, fun e => ?_, fun e => ?_, hlock,
    fun e => ?_, hticks, hzero, hsource⟩
  · obtain e | e := e <;> cases hs.symm.trans e
  · cases hs.symm.trans e
  · cases hs.symm.trans e
  · cases hs.symm.trans e

/-- R60, R61: HOLDOVER is entered, with no tick yet or with its first. -/
theorem Timebase.ok_holdover (h : b.ok) (hs : b.state = .locked) {n : Nat} (hn : n < 64) :
    Timebase.ok { b with state := .holdover, good := 0, holdoverTicks := n } := by
  obtain ⟨hrate, hlen, hgood, -, hlocked, -, -, -, -, -, -, hsource⟩ := h
  refine ⟨hrate, hlen, hgood, fun e => (by obtain e | e := e <;> cases e), fun _ => hlocked (.inl hs), fun e => (by cases e),
    fun e => (by cases e), fun _ => rfl, fun _ => by dsimp only; decide, hn, fun e => absurd rfl e, fun e => ?_⟩
  cases hs.symm.trans (hsource e)

/-- R62: a holdover tick that is not the last. -/
theorem Timebase.ok_holdoverTick (h : b.ok) (hs : b.state = .holdover) {n : Nat} (hn : n < 64) :
    Timebase.ok { b with holdoverTicks := n } := by
  obtain ⟨hrate, hlen, hgood, hfree, hlocked, hempty, hacq, hlock, hhold, -, -, hsource⟩ := h
  exact ⟨hrate, hlen, hgood, hfree, hlocked, hempty, hacq, hlock, hhold, hn, fun e => absurd hs e, hsource⟩

/-- R57: a bad interval in ACQUIRING. -/
theorem Timebase.ok_discarded (h : b.ok) (hs : b.state = .acquiring) :
    Timebase.ok { b with history := [], good := 0 } := by
  obtain ⟨hrate, -, -, hfree, -, -, -, -, -, hticks, hzero, hsource⟩ := h
  refine ⟨hrate, by simp, fun _ hj => (by cases hj), hfree, fun e => ?_, fun e => ?_, fun _ => ⟨rfl, by simp⟩, fun _ => rfl,
    fun _ => by simp, hticks, hzero, hsource⟩
  · obtain e | e := e <;> cases hs.symm.trans e
  · cases hs.symm.trans e

/-- R62: a bad interval in HOLDOVER. -/
theorem Timebase.ok_uncounted (h : b.ok) (hs : b.state = .holdover) : Timebase.ok { b with good := 0 } := by
  obtain ⟨hrate, hlen, hgood, hfree, hlocked, hempty, -, -, -, hticks, hzero, hsource⟩ := h
  refine ⟨hrate, hlen, hgood, hfree, hlocked, fun e => ?_, fun e => ?_, fun _ => rfl, fun _ => by simp, hticks, hzero, hsource⟩
  · cases hs.symm.trans e
  · cases hs.symm.trans e

/-- R57, R63: FREE_RUN is entered. -/
theorem Timebase.ok_freeRun (hrate : b.rate ≤ 9) :
    Timebase.ok { b with
      state := .freeRun, period := b.nominal, history := [], good := 0, holdoverTicks := 0, lastEdge := none
      lastInterval := none } :=
  ⟨hrate, by simp [Timebase.nominal]⟩

/-! ### The commands that may give a tick -/

theorem State.tick_ok (h : s.timebase.ok) : s.tick.timebase.ok := by
  rw [State.tick_timebase]
  exact h

theorem State.enterLocked_ok (h : s.lockedAt.timebase.ok) : s.enterLocked.timebase.ok := by
  rw [State.enterLocked_eq, State.raise_timebase]
  split
  · exact State.tick_ok h
  · exact h

theorem State.countInterval_lockedAt (hi : goodInterval s.timebase.nominal i = true)
    (hs : s.timebase.state = .acquiring ∧ s.timebase.good = 7 ∨ s.timebase.state = .holdover) (h : s.timebase.ok) :
    (s.countInterval i).lockedAt.timebase.ok :=
  Timebase.ok_locked h hi hs

theorem State.judgeEdge_ok (i : Nat) (h : s.timebase.ok) : (s.judgeEdge i).timebase.ok := by
  by_cases good : goodInterval s.timebase.nominal i = true
  · cases hs : s.timebase.state with
    | freeRun => rw [State.judgeEdge, hs]; exact h
    | acquiring =>
      rw [State.judgeEdge_acquiring hs]
      have few := (h.2.2.2.2.2.2.1 hs).2
      by_cases last : s.timebase.good = 7
      · rw [State.edgeAcquiring_last good last]
        exact State.enterLocked_ok (State.countInterval_lockedAt good (.inl ⟨hs, last⟩) h)
      · rw [State.edgeAcquiring_few good (by omega)]
        exact Timebase.ok_counted h good (.inl ⟨hs, by omega⟩)
    | locked =>
      rw [State.judgeEdge_locked hs, State.edgeLocked_good good]
      exact State.tick_ok (Timebase.ok_relocked h good hs)
    | holdover =>
      rw [State.judgeEdge_holdover hs]
      have few := h.2.2.2.2.2.2.2.2.1 hs
      by_cases last : s.timebase.good = 3
      · rw [State.edgeHoldover_last good last]
        exact State.enterLocked_ok (State.countInterval_lockedAt good (.inr hs) h)
      · rw [State.edgeHoldover_few good (by omega)]
        exact Timebase.ok_counted h good (.inr ⟨hs, by omega⟩)
  · cases hs : s.timebase.state with
    | freeRun => rw [State.judgeEdge, hs]; exact h
    | acquiring =>
      rw [State.judgeEdge_acquiring hs, State.edgeAcquiring_bad good]
      exact Timebase.ok_discarded h hs
    | locked =>
      rw [State.judgeEdge_locked hs, State.edgeLocked_bad good, State.raise_timebase]
      split
      · exact State.tick_ok (Timebase.ok_holdover (n := 1) h hs (by decide))
      · exact Timebase.ok_holdover h hs (by decide)
    | holdover =>
      rw [State.judgeEdge_holdover hs, State.edgeHoldover_bad good]
      exact Timebase.ok_uncounted h hs

theorem State.takeEdge_ok (source : s.timebase.source = .houseSync) (h : s.timebase.ok) : s.takeEdge.timebase.ok := by
  unfold State.takeEdge
  split
  · next free => exact Timebase.ok_acquiring h free source _
  · next taken =>
    split
    · exact State.judgeEdge_ok _ (Timebase.ok_recorded h taken _ _)
    · exact Timebase.ok_recorded h taken _ _

theorem State.scheduledTick_ok (h : s.timebase.ok) : s.scheduledTick.timebase.ok := by
  by_cases state : s.timebase.state = .holdover
  · rw [State.scheduledTick_holdover state]
    have counted : (s.reachTime s.timebase.due).holdoverTick.timebase = _ := State.tick_timebase _
    unfold State.endHoldover
    split
    · refine Timebase.ok_freeRun ?_
      rw [counted]
      exact h.1
    · next few =>
      rw [counted] at few ⊢
      exact Timebase.ok_holdoverTick h state (Nat.not_le.1 few)
  · rw [State.scheduledTick_free state]
    exact State.tick_ok h

/-- A change at which no tick is given keeps the laws of the Timebase. -/
theorem Change.timebaseOk (m : Change σ s t) (hσ : ¬ σ.ticks) (h : s.timebase.ok) : t.timebase.ok := by
  cases m
  case clock f lawful => exact (lawful.resolve_left hσ) h
  case activate p ticks _ _ => exact absurd ticks hσ
  all_goals
    refine (congrArg Timebase.ok ?_).mpr h
    simp [State.setSlot, State.startLoad, State.withScanned, State.beginPass, State.setStagingRecord,
      State.setStagingHeader, State.pendPartCommit, State.openStaging]

theorem Moves.timebaseOk (h : Moves σ s t) (hσ : ¬ σ.ticks) (hs : s.timebase.ok) : t.timebase.ok :=
  h.keeps (P := fun u => u.timebase.ok) (fun _ u ⟨c, next⟩ hs => by
    rw [show u.timebase = _ from (congrArg State.timebase next : u.core.timebase = _)]
    exact c.timebaseOk hσ hs) hs

/-- Sending changes nothing of the Timebase. -/
theorem Timebase.ok_next {o : Host.Outcome State Fault Refusal} (ho : o = .next u.beginSends) (hu : u.timebase.ok)
    (h : o = .next t) : t.timebase.ok := by
  obtain rfl := Host.Outcome.next.inj (ho.symm.trans h)
  rw [State.beginSends_timebase]
  exact hu

theorem exec_frameTick_timebaseOk (h : exec .frameTick s = .next t) (hs : s.timebase.ok) : t.timebase.ok := by
  by_cases scheduled : s.timebase.running ∧ s.timebase.state ≠ .locked
  · exact Timebase.ok_next (if_pos scheduled) (State.scheduledTick_ok hs) h
  · exact Timebase.ok_next (if_neg scheduled) hs h

theorem exec_holdoverTickLimit_timebaseOk (h : exec .holdoverTickLimit s = .next t) (hs : s.timebase.ok) :
    t.timebase.ok := by
  by_cases last : s.timebase.running ∧ s.timebase.state = .holdover ∧ s.timebase.holdoverTicks = 63
  · exact Timebase.ok_next (if_pos last) (State.scheduledTick_ok hs) h
  · exact Timebase.ok_next (if_neg last) hs h

theorem exec_missingEdgeLimitLocked_timebaseOk (h : exec .missingEdgeLimitLocked s = .next t) (hs : s.timebase.ok) :
    t.timebase.ok := by
  by_cases missing : s.timebase.running ∧ s.timebase.state = .locked
  · refine Timebase.ok_next (if_pos missing) ?_ h
    rw [State.raise_timebase]
    exact State.tick_ok (Timebase.ok_holdover (n := 1) hs missing.2 (by decide))
  · exact Timebase.ok_next (if_neg missing) hs h

theorem exec_referenceEdge_timebaseOk {elapsed : Nat} (h : exec (.referenceEdge elapsed) s = .next t)
    (hs : s.timebase.ok) : t.timebase.ok := by
  cases running : s.timebase.running with
  | false => exact Timebase.ok_next (exec_referenceEdge_stopped elapsed running) hs h
  | true =>
    cases source : s.timebase.source with
    | none => exact Timebase.ok_next (exec_referenceEdge_none elapsed running source) hs h
    | houseSync =>
      exact Timebase.ok_next (exec_referenceEdge_taken elapsed running source) (State.takeEdge_ok source hs) h

theorem State.damaged_timebase (b : Bank) (target : CalTarget) (changed : List Host.Cell) (scanned stored : Nat)
    (s : State) : (s.damaged b target changed scanned stored).timebase = s.timebase := by
  have sees : (s.passSees b target changed scanned).timebase = s.timebase := by
    unfold State.passSees
    split
    · split <;> rfl
    · rfl
  have stores (u : State) : (u.storeSees b target changed stored).timebase = u.timebase := by
    unfold State.storeSees
    split <;> rfl
  have changes (u : State) : (u.changeStructure b target changed).timebase = u.timebase := by cases target <;> rfl
  rw [State.damaged, changes, stores, sees]

theorem exec_memoryDamage_timebaseOk {b : Bank} {target : CalTarget} {changed : List Host.Cell} {scanned stored : Nat}
    (h : exec (.memoryDamage b target changed scanned stored) s = .next t) (hs : s.timebase.ok) : t.timebase.ok := by
  by_cases inside : cellsInside changed target.size = true
  · refine Timebase.ok_next (u := s.damaged b target changed scanned stored) (if_pos inside) ?_ h
    rw [State.damaged_timebase]
    exact hs
  · cases (if_neg inside : exec (.memoryDamage b target changed scanned stored) s = _).symm.trans h

theorem exec_timebaseOk {c : Instr} (h : exec c s = .next t) (hs : s.timebase.ok) : t.timebase.ok := by
  by_cases may : mayChangeActive c = true
  · cases c with
    | startUp =>
      obtain rfl := Host.Outcome.next.inj h
      exact resetMeetsTheLaws.2.2.2.2.2.2
    | memoryDamage b target changed scanned stored => exact exec_memoryDamage_timebaseOk h hs
    | frameTick => exact exec_frameTick_timebaseOk h hs
    | referenceEdge elapsed => exact exec_referenceEdge_timebaseOk h hs
    | missingEdgeLimitLocked => exact exec_missingEdgeLimitLocked_timebaseOk h hs
    | holdoverTickLimit => exact exec_holdoverTickLimit_timebaseOk h hs
    | _ => cases may
  · obtain ⟨u, h₁, h₂⟩ := (exec_executed h).quiet (by simpa using may)
    exact h₂.timebaseOk (fun h => h) (h₁.timebaseOk (fun h => h) hs)

/-- Settles O11: each change of the Timebase, command by command. -/
theorem stepKeepsTimebaseLaws : Obligations.StepKeepsTimebaseLaws := by
  intro s t hs h
  unfold step at h
  split at h
  · cases h; exact hs
  · exact exec_timebaseOk h hs

end Sys2Proof.Machine
end

section
/-! What every step keeps of the Preset store (R164 to R169, R174 to R177). -/

namespace Sys2Proof.Machine

variable {σ : Scope} {s t u : State} {sl : SlotId} {d : SlotDir}

/-- The operation is on the slot: it stores, erases or loads it. -/
def NvOp.on (sl : SlotId) : NvOp → Prop
  | .store x => x = sl
  | .erase x => x = sl
  | .load x _ => x = sl
  | .startUpRead => False
  | .setupStore => False

/-- What the operation in flight says of the state of a slot (R158, R169, R174). -/
abbrev slotAgrees (nv : Option NvOp) (sl : SlotId) (x : SlotState) : Prop :=
  (x = .storing ↔ nv = some (.store sl)) ∧ (x = .erasing ↔ nv = some (.erase sl)) ∧
    (nv.bind NvOp.loading? = some sl → x = .valid)

/-- A slot on which no operation is in flight is in none of their states. -/
theorem slotAgrees_off {nv : Option NvOp} (off : ∀ o ∈ nv, ¬ o.on sl) (x : SlotState) :
    slotAgrees nv sl x ↔ x ≠ .storing ∧ x ≠ .erasing := by
  have store : nv ≠ some (.store sl) := fun e => off _ e rfl
  have erase : nv ≠ some (.erase sl) := fun e => off _ e rfl
  have load : nv.bind NvOp.loading? ≠ some sl := fun e => by
    obtain ⟨o, ho, hl⟩ := Option.bind_eq_some_iff.1 e
    cases o <;> cases hl
    exact off _ ho rfl
  simp [slotAgrees, store, erase, load]

/-- The laws of the Preset store, with what each slot's state says of the operation in flight. -/
theorem State.presetOk_iff (s : State) : s.presetOk ↔
    (∀ sl : SlotId, slotAgrees s.preset.nv sl s.preset.directory[sl].state ∧ s.preset.directory[sl].ok = true ∧
      s.flash.directory[sl].ok = true) ∧
    (s.preset.progress.isSome ↔ (s.preset.nv.bind NvOp.loading?).isSome) ∧
    (s.preset.requester.isSome → s.preset.nv.isSome) ∧
    (s.preset.nv ≠ some .startUpRead → s.preset.directory = s.flash.directory) ∧
    (s.preset.setupOutcome = none → s.preset.nv = some .startUpRead) := by
  simp only [State.presetOk, slotAgrees, State.slotState, and_assoc]

theorem State.presetOk_core (s : State) : s.core.presetOk ↔ s.presetOk := Iff.rfl

/-- The controller takes another operation or none, and the directory stays: the slot that it is then on is VALID. -/
theorem State.presetOk_nv (h : s.presetOk) (dir : t.preset.directory = s.preset.directory)
    (flash : t.flash.directory = s.flash.directory) (outcome : t.preset.setupOutcome = s.preset.setupOutcome)
    (was : ∀ sl, s.preset.nv ≠ some (.store sl) ∧ s.preset.nv ≠ some (.erase sl)) (read : s.preset.nv ≠ some .startUpRead)
    (now : ∀ sl, t.preset.nv ≠ some (.store sl) ∧ t.preset.nv ≠ some (.erase sl))
    (valid : ∀ sl, t.preset.nv.bind NvOp.loading? = some sl → s.slotState sl = .valid)
    (progress : t.preset.progress.isSome ↔ (t.preset.nv.bind NvOp.loading?).isSome)
    (requester : t.preset.requester.isSome → t.preset.nv.isSome) : t.presetOk := by
  obtain ⟨hslots, -, -, hsame, hout⟩ := s.presetOk_iff.1 h
  refine t.presetOk_iff.2 ⟨fun sl => ?_, progress, requester, fun _ => by rw [dir, flash]; exact hsame read, fun e => ?_⟩
  · obtain ⟨⟨store, erase, -⟩, hok⟩ := hslots sl
    rw [dir, flash]
    exact ⟨⟨iff_of_false (fun e => (was sl).1 (store.1 e)) (now sl).1, iff_of_false (fun e => (was sl).2 (erase.1 e)) (now sl).2,
      valid sl⟩, hok⟩
  · exact absurd (hout (outcome ▸ e)) read

/-- An operation begins or ends on one slot, whose record changes with it, in the working copy and on flash. -/
theorem State.presetOk_setSlot (h : s.presetOk) (dir : t.preset.directory = s.preset.directory.set sl d)
    (flash : t.flash.directory = s.flash.directory.set sl d) (outcome : t.preset.setupOutcome = s.preset.setupOutcome)
    (was : ∀ o ∈ s.preset.nv, o.on sl) (now : ∀ o ∈ t.preset.nv, o.on sl)
    (agrees : slotAgrees t.preset.nv sl d.state) (ok : d.ok = true)
    (progress : t.preset.progress.isSome ↔ (t.preset.nv.bind NvOp.loading?).isSome)
    (requester : t.preset.requester.isSome → t.preset.nv.isSome) : t.presetOk := by
  obtain ⟨hslots, -, -, hsame, hout⟩ := s.presetOk_iff.1 h
  have read : s.preset.nv ≠ some .startUpRead := fun e => was _ e
  have elsewhere {nv : Option NvOp} (hnv : ∀ o ∈ nv, o.on sl) {x : SlotId} (hx : ¬ x = sl) : ∀ o ∈ nv, ¬ o.on x := by
    intro o ho hon
    have hsl := hnv o ho
    cases o with
    | store | erase | load => exact hx (hon.symm.trans hsl)
    | startUpRead | setupStore => exact hon
  refine t.presetOk_iff.2 ⟨fun x => ?_, progress, requester, fun _ => by rw [dir, flash, hsame read],
    fun e => absurd (hout (outcome ▸ e)) read⟩
  rw [dir, flash, Vector.set_fin, Vector.set_fin]
  split
  · next e => subst e; exact ⟨agrees, ok, ok⟩
  · next e =>
    obtain ⟨agrees, hok⟩ := hslots x
    exact ⟨(slotAgrees_off (elsewhere now e) _).2 ((slotAgrees_off (elsewhere was e) _).1 agrees), hok⟩

theorem SlotDir.scanned_state (d : SlotDir) : d.scanned.state ≠ .storing ∧ d.scanned.state ≠ .erasing := by
  unfold SlotDir.scanned SlotDir.interrupted
  cases h : d.state <;> simp [h]

theorem SlotDir.scanned_ok (h : d.ok = true) : d.scanned.ok = true := by
  unfold SlotDir.scanned
  split
  · rfl
  · exact h

/-- R176: the controller after the scan. -/
theorem State.presetOk_scanned (h : s.presetOk) (dir : t.preset.directory = s.withScanned.preset.directory) (flash : t.flash.directory = s.withScanned.preset.directory)
    (taken : t.preset.setupOutcome.isSome = true)
    (now : ∀ sl, t.preset.nv ≠ some (.store sl) ∧ t.preset.nv ≠ some (.erase sl))
    (valid : ∀ sl, t.preset.nv.bind NvOp.loading? = some sl → s.withScanned.slotState sl = .valid)
    (progress : t.preset.progress.isSome ↔ (t.preset.nv.bind NvOp.loading?).isSome)
    (requester : t.preset.requester.isSome → t.preset.nv.isSome) : t.presetOk := by
  obtain ⟨hslots, -⟩ := s.presetOk_iff.1 h
  refine t.presetOk_iff.2 ⟨fun sl => ?_, progress, requester, fun _ => by rw [dir, flash],
    fun e => absurd e (Option.isSome_iff_ne_none.1 taken)⟩
  have listed : s.withScanned.preset.directory[sl] = s.flash.directory[sl].scanned := by
    simp [State.withScanned, State.modPreset]
  obtain ⟨store, erase⟩ := s.flash.directory[sl].scanned_state
  have hvalid := valid sl
  rw [State.slotState, listed] at hvalid
  rw [dir, flash, listed]
  exact ⟨⟨iff_of_false store (now sl).1, iff_of_false erase (now sl).2, hvalid⟩, SlotDir.scanned_ok (hslots sl).2.2,
    SlotDir.scanned_ok (hslots sl).2.2⟩

theorem State.activate_presetOk (p : PendingCommit) (h : s.presetOk) : (s.activate p).presetOk :=
  State.activate_keeps State.presetOk_core (fun _ _ _ h => h) (fun _ _ h => h)
    (fun before c u h => by unfold State.rasterChange; simp only; split <;> exact h)
    (fun set u h => State.scannerActivation_keeps (P := State.presetOk) (fun _ _ h => h)
      (fun c u h => by unfold State.nextPass; split <;> exact h) set u h)
    (fun _ _ h => h) p h

/-- With the controller idle a slot that is neither EMPTY nor CORRUPT is VALID. -/
theorem State.valid_of_idle (h : s.presetOk) (idle : s.preset.nv = none) (notEmpty : s.slotState sl ≠ .empty)
    (notCorrupt : s.slotState sl ≠ .corrupt) : s.slotState sl = .valid := by
  obtain ⟨store, erase, -⟩ := h.1 sl
  rw [idle] at store erase
  cases e : s.slotState sl with
  | valid => rfl
  | empty => exact absurd e notEmpty
  | corrupt => exact absurd e notCorrupt
  | storing => cases store.1 e
  | erasing => cases erase.1 e

/-- R164 to R177: a change keeps the laws of the Preset store. -/
theorem Change.presetOk (m : Change σ s t) (h : s.presetOk) : t.presetOk := by
  cases m
  case beginStore sl req _ _ idle =>
    exact State.presetOk_setSlot (sl := sl) h rfl rfl rfl (by simp [idle]) (by simp [NvOp.on]) (by simp [slotAgrees, NvOp.loading?])
      rfl (by simp [State.setSlot, NvOp.loading?, (State.presetOk_iff s).1 h, idle]) (fun _ => rfl)
  case beginErase sl req _ idle =>
    exact State.presetOk_setSlot (sl := sl) h rfl rfl rfl (by simp [idle]) (by simp [NvOp.on]) (by simp [slotAgrees, NvOp.loading?])
      rfl (by simp [State.setSlot, NvOp.loading?, (State.presetOk_iff s).1 h, idle]) (fun _ => rfl)
  case endStore sl body info _ op read =>
    exact State.presetOk_setSlot (sl := sl) h rfl rfl rfl (by simp [op, NvOp.on]) (by simp [State.idleNv]) (by simp [slotAgrees, State.idleNv])
      rfl (by simp [State.idleNv]) (by simp [State.idleNv])
  case endErase sl _ op =>
    exact State.presetOk_setSlot (sl := sl) h rfl rfl rfl (by simp [op, NvOp.on]) (by simp [State.idleNv])
      (by simp [slotAgrees, State.idleNv, SlotDir.emptySlot]) rfl (by simp [State.idleNv]) (by simp [State.idleNv])
  case corrupt sl owner r _ op =>
    exact State.presetOk_setSlot (sl := sl) h rfl rfl rfl (by simp [op, NvOp.on]) (by simp [State.idleNv])
      (by simp [slotAgrees, State.idleNv]) rfl (by simp [State.idleNv]) (by simp [State.idleNv])
  case beginLoad sl owner first req notEmpty notCorrupt idle _ =>
    refine State.presetOk_nv h rfl rfl rfl (by simp [idle]) (by simp [idle]) (by simp [State.startLoad])
      (fun x hx => ?_) (by simp [State.startLoad, NvOp.loading?]) (by simp [State.startLoad])
    obtain rfl : sl = x := by simpa [State.startLoad, NvOp.loading?] using hx
    exact State.valid_of_idle h idle notEmpty notCorrupt
  case beginSetupStore bytes req idle =>
    exact State.presetOk_nv h rfl rfl rfl (by simp [idle]) (by simp [idle]) (by simp) (by simp [NvOp.loading?])
      (by simp [NvOp.loading?, (State.presetOk_iff s).1 h, idle]) (by simp)
  case endSetupStore m _ op =>
    exact State.presetOk_nv h rfl rfl rfl (by simp [op]) (by simp [op]) (by simp [State.idleNv])
      (by simp [State.idleNv]) (by simp [State.idleNv]) (by simp [State.idleNv])
  case endLoad sl owner op =>
    exact State.presetOk_nv h rfl rfl rfl (by simp [op]) (by simp [op]) (by simp [State.idleNv])
      (by simp [State.idleNv]) (by simp [State.idleNv]) (by simp [State.idleNv])
  case commitLoad sl owner set _ op =>
    exact State.presetOk_nv h rfl rfl rfl (by simp [op]) (by simp [op]) (by simp [State.idleNv])
      (by simp [State.idleNv]) (by simp [State.idleNv]) (by simp [State.idleNv])
  case scanned _ _ taken =>
    exact State.presetOk_scanned h rfl rfl taken (by simp [State.idleNv]) (by simp [State.idleNv]) (by simp [State.idleNv])
      (by simp [State.idleNv])
  case scannedLoad sl _ _ taken valid =>
    refine State.presetOk_scanned h rfl rfl taken (by simp [State.startLoad]) (fun x hx => ?_)
      (by simp [State.startLoad, NvOp.loading?]) (by simp [State.startLoad])
    obtain rfl : sl = x := by simpa [State.startLoad, NvOp.loading?] using hx
    exact valid
  case progress g running =>
    obtain ⟨hslots, hprogress, hrest⟩ := h
    exact ⟨hslots, iff_of_true rfl (hprogress.1 running), hrest⟩
  case drop f =>
    obtain ⟨hslots, hprogress, hrequester, hrest⟩ := h
    exact ⟨hslots, hprogress, fun e => hrequester (by simpa using e), hrest⟩
  case takeSetup m o _ =>
    obtain ⟨hslots, hprogress, hrequester, hsame, -⟩ := h
    exact ⟨hslots, hprogress, hrequester, hsame, fun e => (by cases e)⟩
  case activate p _ _ _ => exact State.activate_presetOk p h
  all_goals exact h

/-- Settles O10, move by move. -/
theorem stepKeepsPresetLaws : Obligations.StepKeepsPresetLaws := by
  intro s t
  refine step_keeps (P := State.presetOk) (fun _ _ h => h) fun c s t h => ?_
  refine h.keeps State.presetOk_core (fun hs => ?_) (fun b target changed scanned stored hs => ?_)
    (fun _ _ _ m hs => m.presetOk hs)
  · obtain ⟨hreset, hrest⟩ := resetMeetsTheLaws.2.2.2.2.2.1
    exact ⟨fun sl => ⟨(hreset sl).1, (hreset sl).2.1, (hreset sl).2.2.1, (hreset sl).2.2.2.1, (hs.1 sl).2.2.2.2⟩,
      hrest.1, hrest.2.1, fun e => absurd rfl e, hrest.2.2.2⟩
  · have seen : (s.passSees b target changed scanned).presetOk := by
      unfold State.passSees
      split
      · split <;> exact hs
      · exact hs
    have stored (u : State) (hu : u.presetOk) : (u.storeSees b target changed stored).presetOk := by
      unfold State.storeSees
      split <;> exact hu
    cases target <;> exact stored _ seen

end Sys2Proof.Machine
end

section
/-! The states of the preset slots (R165): what a judgement may do to a slot, and what the end of an operation on one calls
for. -/

namespace Sys2Proof.Machine

variable {σ : Scope} {s t u : State} {sl : SlotId}

/-! ### An operation begins on at most one slot -/

/-- A store or an erase of slot `sl` is in flight. -/
def State.writes (s : State) (sl : SlotId) : Prop := s.preset.nv = some (.store sl) ∨ s.preset.nv = some (.erase sl)

/-- No slot has changed, and a store or an erase goes on; or with none in flight one has begun, by R165's table. -/
def State.SlotBegun (s t : State) : Prop :=
  (∀ x, t.slotState x = s.slotState x) ∧ (∀ x, s.writes x → t.writes x) ∨
    (∀ x, ¬ s.writes x) ∧ ∃ sl, t.writes sl ∧ (s.slotState sl, t.slotState sl) ∈ slotMoves ∧
      ∀ x, x ≠ sl → t.slotState x = s.slotState x

theorem State.not_writes (h : ∀ x, s.preset.nv ≠ some (.store x) ∧ s.preset.nv ≠ some (.erase x)) (x : SlotId) :
    ¬ s.writes x := fun e => e.elim (h x).1 (h x).2

/-- Two beginnings cannot follow one another with no end between them. -/
theorem State.SlotBegun.trans (h : s.SlotBegun t) (h' : t.SlotBegun u) : s.SlotBegun u := by
  obtain ⟨same, goes⟩ | ⟨idle, sl, writes, move, same⟩ := h
  · obtain ⟨same', goes'⟩ | ⟨idle', sl', writes', move', same'⟩ := h'
    · exact .inl ⟨fun x => (same' x).trans (same x), fun x hw => goes' x (goes x hw)⟩
    · exact .inr ⟨fun x hw => idle' x (goes x hw), sl', writes', by rwa [← same], fun x hx => (same' x hx).trans (same x)⟩
  · obtain ⟨same', goes'⟩ | ⟨idle', -⟩ := h'
    · exact .inr ⟨idle, sl, goes' sl writes, by rwa [same'], fun x hx => (same' x).trans (same x hx)⟩
    · exact absurd writes (idle' sl)

/-- The directory stays, and so does a store or an erase in flight. -/
theorem State.slotBegun_same (dir : t.preset.directory = s.preset.directory)
    (nv : (∀ x, s.preset.nv ≠ some (.store x) ∧ s.preset.nv ≠ some (.erase x)) ∨ t.preset.nv = s.preset.nv) :
    s.SlotBegun t := by
  refine .inl ⟨fun x => by rw [State.slotState, dir]; rfl, fun x hw => ?_⟩
  obtain idle | same := nv
  · exact absurd hw (State.not_writes idle x)
  · rwa [State.writes, same]

/-- A slot's record changes as an operation begins on it. -/
theorem State.slotBegun_setSlot {d : SlotDir} (dir : t.preset.directory = s.preset.directory.set sl d)
    (idle : s.preset.nv = none) (writes : t.writes sl) (move : (s.slotState sl, d.state) ∈ slotMoves) : s.SlotBegun t := by
  have get (x : SlotId) : t.slotState x = if x = sl then d.state else s.slotState x := by
    rw [State.slotState, dir, Vector.set_fin]
    split <;> rfl
  refine .inr ⟨State.not_writes (by simp [idle]), sl, writes, ?_, fun x hx => ?_⟩
  · rwa [get, if_pos rfl]
  · rw [get, if_neg hx]

/-- R174: a slot that is erased is VALID or CORRUPT. -/
theorem State.erasable (h : s.presetOk) (idle : s.preset.nv = none) (used : s.slotState sl ≠ .empty) :
    (s.slotState sl, SlotState.erasing) ∈ slotMoves := by
  by_cases corrupt : s.slotState sl = .corrupt
  · rw [corrupt]; decide
  · rw [State.valid_of_idle h idle used corrupt]; decide

theorem State.activate_preset (p : PendingCommit) (s : State) : (s.activate p).preset = s.preset :=
  State.activate_keeps (P := fun u => u.preset = s.preset) (fun _ => Iff.rfl) (fun _ _ _ h => h) (fun _ _ h => h)
    (fun before c u h => by unfold State.rasterChange; simp only; split <;> exact h)
    (fun set u h => State.scannerActivation_keeps (P := fun u => u.preset = s.preset) (fun _ _ h => h)
      (fun c u h => by unfold State.nextPass; split <;> exact h) set u h)
    (fun _ _ h => h) p rfl

/-- A change that ends no operation on a slot. -/
theorem Change.slotBegun (m : Change σ s t) (hσ : ¬ σ.ends) (h : s.presetOk) : s.SlotBegun t := by
  cases m
  case beginStore sl req free _ idle =>
    exact State.slotBegun_setSlot rfl idle (.inl rfl) (by rw [free]; decide)
  case beginErase sl req used idle => exact State.slotBegun_setSlot rfl idle (.inr rfl) (State.erasable h idle used)
  case endStore ends _ _ => exact absurd ends hσ
  case endErase ends _ => exact absurd ends hσ
  case corrupt ends _ => exact absurd ends hσ
  case scanned ends _ _ => exact absurd ends hσ
  case scannedLoad ends _ _ _ => exact absurd ends hσ
  case beginLoad idle _ => exact State.slotBegun_same rfl (.inl (by simp [idle]))
  case beginSetupStore idle => exact State.slotBegun_same rfl (.inl (by simp [idle]))
  case endSetupStore op => exact State.slotBegun_same rfl (.inl (by simp [op]))
  case endLoad op => exact State.slotBegun_same rfl (.inl (by simp [op]))
  case commitLoad op => exact State.slotBegun_same rfl (.inl (by simp [op]))
  case activate p _ _ _ =>
    have preset := s.activate_preset p
    exact State.slotBegun_same (by rw [preset]) (.inr (by rw [preset]))
  all_goals exact State.slotBegun_same rfl (.inr rfl)

/-- The slots after a run of moves that ends no operation on one. -/
theorem Moves.slotBegun (h : Moves σ s t) (hσ : ¬ σ.ends) (hs : s.presetOk) : s.SlotBegun t ∧ t.presetOk := by
  refine h.keeps (P := fun u => s.SlotBegun u ∧ u.presetOk) (fun u v ⟨c, next⟩ ⟨begun, hu⟩ => ?_)
    ⟨State.slotBegun_same rfl (.inr rfl), hs⟩
  have preset : v.preset = _ := (congrArg State.preset next : v.core.preset = _)
  exact ⟨(begun.trans (c.slotBegun hσ hu)).trans (State.slotBegun_same (by rw [preset]; rfl) (.inr (by rw [preset]; rfl))),
    Machine.of_core State.presetOk_core next (c.presetOk hu)⟩

/-- Every link may ask, ticks may be given, and no operation on a slot ends. -/
def Scope.steady : Scope := ⟨fun _ => True, True, False⟩

theorem State.SlotBegun.table (h : s.SlotBegun t) (sl : SlotId) :
    t.slotState sl = s.slotState sl ∨ (s.slotState sl, t.slotState sl) ∈ slotMoves := by
  obtain ⟨same, -⟩ | ⟨-, x, -, move, same⟩ := h
  · exact .inl (same sl)
  · by_cases e : sl = x
    · exact .inr (e ▸ move)
    · exact .inl (same sl e)

/-! ### Where only loads wait (R166) -/

/-- What claimant `w` asks for, if it still waits, is a PRESET_LOAD. -/
def State.asksLoad (s : State) : Claimant → Prop
  | .write _ => False
  | .request k tag => ∀ m, s.waitingMsg k tag = some m → ∃ t ps, m = .command t 0x0B ps
  | .repair => True

/-- What the judgement of a PRESET_LOAD may do: the directory, the hold and the queues stay, nothing joins a wait list, and
staging and the controller stay as they are, or the load begins. -/
structure State.ServesLoad (s t : State) : Prop where
  directory : t.preset.directory = s.preset.directory
  rx : ∀ j : LinkId, t.links[j].rx = s.links[j].rx
  hold : t.staging.hold = s.staging.hold
  waits : ∀ j tag m, t.waitingMsg j tag = some m → s.waitingMsg j tag = some m
  state : (t.staging.state = s.staging.state ∧ t.preset.nv = s.preset.nv ∧ t.scanner = s.scanner) ∨
    t.staging.state = .loading

theorem State.servesLoad_refl (s : State) : s.ServesLoad s := ⟨rfl, fun _ => rfl, rfl, fun _ _ _ h => h, .inl ⟨rfl, rfl, rfl⟩⟩

/-- R195: a completion takes messages from a wait list, and adds none. -/
theorem State.complete_waits {k j : LinkId} {tag tag' : Byte} {st : Status} {p : List Byte} {m : Msg}
    (h : (s.complete k tag st p).waitingMsg j tag' = some m) : s.waitingMsg j tag' = some m := by
  unfold State.waitingMsg State.complete at h
  rw [State.modLink_links_get] at h
  split at h
  · next e =>
    subst e
    unfold Link.complete at h
    split at h
    · rw [Link.unkeep, List.find?_filter] at h
      have kept := List.find?_some h
      obtain ⟨other, asks⟩ : m.tag? ≠ some tag ∧ m.tag? = some tag' := by simpa using kept
      rw [State.waitingMsg, ← h]
      refine List.find?_congr fun x _ => ?_
      by_cases e : x.tag? = some tag'
      · have : x.tag? ≠ some tag := fun e' => other (asks.trans (e.symm.trans e'))
        rw [decide_eq_true e, decide_eq_true this]
        rfl
      · simp [e]
    · exact h
  · exact h

theorem State.complete_servesLoad (k : LinkId) (tag : Byte) (st : Status) (p : List Byte) (s : State) :
    s.ServesLoad (s.complete k tag st p) :=
  ⟨by simp, fun j => s.complete_rx k j tag st p, by simp, fun _ _ _ => State.complete_waits,
    .inl ⟨by simp, by simp, by simp⟩⟩

/-- A message that waits already is kept where it is. -/
theorem State.keep_waiting {k : LinkId} {m : Msg} (h : m ∈ s.links[k].wait) : s.keep k m = s := by
  have same : (fun l : Link => if m ∈ l.wait then l else { l with wait := l.wait ++ [m] }) s.links[k] = s.links[k] := if_pos h
  unfold State.keep State.modLink
  rw [same, Fin.getElem_fin, Vector.set_getElem_self]

theorem State.waitingMsg_mem {k : LinkId} {tag : Byte} {m : Msg} (h : s.waitingMsg k tag = some m) : m ∈ s.links[k].wait :=
  List.mem_of_find?_eq_some h

/-- R169: what the judgement of a PRESET_LOAD that waits may do. -/
theorem takePresetLoad_servesLoad (k : LinkId) (tag : Byte) (ps : List Byte) (h : .command tag 0x0B ps ∈ s.links[k].wait) :
    s.ServesLoad (takePresetLoad k tag ps s) := by
  unfold takePresetLoad
  split
  · exact s.complete_servesLoad _ _ _ _
  · next sl _ =>
    split
    · exact s.complete_servesLoad _ _ _ _
    · split
      · exact s.complete_servesLoad _ _ _ _
      · split
        · exact s.complete_servesLoad _ _ _ _
        · split
          · exact s.complete_servesLoad _ _ _ _
          · split
            · exact s.complete_servesLoad _ _ _ _
            · split
              · have stays := s.await_core (.request k tag)
                rw [State.keepWaiting, State.keep_waiting h]
                exact ⟨rfl, fun _ => rfl, (congrArg (·.staging.hold) stays : (s.await _).core.staging.hold = _),
                  fun _ _ _ h => h, .inl ⟨(congrArg (·.staging.state) stays : (s.await _).core.staging.state = _), rfl, rfl⟩⟩
              · have kept := State.keep_waiting (s := (s.unwait (.request k tag)).modPreset fun p =>
                  { p with nv := some (.load sl (.link k)), requester := some { link := k, tag := tag, live := true } }) h
                rw [State.beginNv, kept]
                exact ⟨by simp [State.startLoad], fun _ => rfl, by simp [State.startLoad], fun _ _ _ h => h,
                  .inr (by simp [State.startLoad])⟩

theorem State.waitingMsg_tag {k : LinkId} {tag : Byte} {m : Msg} (h : s.waitingMsg k tag = some m) : m.tag? = some tag := by
  simpa using List.find?_some h

theorem State.serve_servesLoad (w : Claimant) (h : s.asksLoad w) : s.ServesLoad (s.serve w) := by
  cases w with
  | write k => cases h
  | repair => exact s.servesLoad_refl
  | request k tag =>
    unfold State.serve
    simp only
    split
    · next m waits =>
      obtain ⟨t, ps, rfl⟩ := h m waits
      obtain rfl : t = tag := Option.some.inj (State.waitingMsg_tag waits)
      split
      · simp only [judgeRequest, judgeCommand]
        split
        · exact s.complete_servesLoad _ _ _ _
        · split
          · exact s.complete_servesLoad _ _ _ _
          · exact takePresetLoad_servesLoad k t ps (State.waitingMsg_mem waits)
      · exact s.servesLoad_refl
    · exact s.servesLoad_refl

theorem State.ServesLoad.asksLoad (h : s.ServesLoad t) {w : Claimant} (hw : s.asksLoad w) : t.asksLoad w := by
  cases w with
  | write k => exact hw
  | repair => trivial
  | request k tag => exact fun m hm => hw m (h.waits k tag m hm)

/-- No head is called to be judged where queues and hold stay. -/
theorem heads_same (s t : State) (rx : ∀ j : LinkId, t.links[j].rx = s.links[j].rx) (hold : t.staging.hold = s.staging.hold) :
    heads s t = [] := by
  unfold heads holdEnded
  refine List.filter_eq_nil_iff.2 fun k _ => ?_
  rw [rx, hold]
  cases s.links[k].rx <;> by_cases hk : s.staging.hold = some k <;> simp [hk]

theorem State.ServesLoad.claimants (h : s.ServesLoad t) (ws : List Claimant) : claimants s t ws = ws := by
  obtain ⟨state, nv, scanner⟩ | state := h.state
  · exact claimants_same s t state nv (by rw [State.canRepair, State.isOpen, State.nvIdle, state, nv, scanner]; rfl) ws
  · simp [Machine.claimants, State.isOpen, state]

/-- Where only loads wait, a settling changes no slot. -/
theorem settle_loads (n : Nat) (ws : List Claimant) (s : State) (h : ∀ w ∈ ws, s.asksLoad w) :
    (settle n ws [] s).preset.directory = s.preset.directory := by
  induction n generalizing ws s with
  | zero => rfl
  | succ n ih =>
    cases ws with
    | nil => rfl
    | cons w ws =>
      have served := State.serve_servesLoad w (h w List.mem_cons_self)
      rw [settle, served.claimants, heads_same _ _ served.rx served.hold]
      refine (ih _ _ fun x hx => served.asksLoad (h x (List.mem_cons_of_mem w ?_))).trans served.directory
      unfold State.servedAfter at hx
      split at hx
      · cases hx
      · exact hx

/-- With the operation in flight ended and nothing else that is waited for changed, only loads are called to be served, and
no slot changes. -/
theorem settled_ended {s t : State} (busy : s.preset.nv ≠ none) (state : t.staging.state = s.staging.state)
    (hold : t.staging.hold = s.staging.hold) (rx : ∀ j : LinkId, t.links[j].rx = s.links[j].rx) :
    (s.settled t).preset.directory = t.preset.directory := by
  have busy' : s.nvIdle = false := by simp [State.nvIdle, busy]
  have only : ∀ w ∈ claimants s t [], t.asksLoad w := by
    intro w hw
    have called : w ∈ t.staging.waiting.filter t.needsController := by
      have waits : w ∈ if t.nvIdle ∧ s.isOpen = true then t.staging.waiting.filter t.needsController else [] := by
        simpa [claimants, State.canRepair, State.isOpen, state, busy'] using hw
      split at waits
      · exact waits
      · cases waits
    have needs := (List.mem_filter.1 called).2
    cases w with
    | write k => cases needs
    | repair => trivial
    | request k tag =>
      intro m hm
      simp only [State.needsController, hm] at needs
      split at needs
      · next t code ps e => cases e; exact ⟨t, ps, by rw [of_decide_eq_true needs]⟩
      · cases needs
  rw [State.settled, heads_same s t rx hold, State.beginSends_preset, settle_loads _ _ _ only]

/-! ### The ends of operations -/

/-- R165: the slot of an operation that ends moves, and nothing moves after. -/
theorem State.table_ended {d : SlotDir} (busy : s.preset.nv ≠ none) (state : u.staging.state = s.staging.state)
    (hold : u.staging.hold = s.staging.hold) (rx : ∀ j : LinkId, u.links[j].rx = s.links[j].rx)
    (dir : u.preset.directory = s.preset.directory.set sl d) (move : (s.slotState sl, d.state) ∈ slotMoves) (x : SlotId) :
    (s.settled u).slotState x = s.slotState x ∨ (s.slotState x, (s.settled u).slotState x) ∈ slotMoves := by
  rw [State.slotState, settled_ended busy state hold rx, dir, Vector.set_fin]
  split
  · next e => subst e; exact .inr move
  · exact .inl rfl

theorem State.table_quiet (h : Moves Scope.steady s u) (hs : s.presetOk) (x : SlotId) :
    (s.settled u).slotState x = s.slotState x ∨ (s.slotState x, (s.settled u).slotState x) ∈ slotMoves :=
  (Moves.slotBegun (h.trans (settled_moves (fun _ => trivial) s u)) (fun h => h) hs).1.table x

theorem State.completeFor_rx (r : Option Requester) (st : Status) (p : List Byte) (s : State) (j : LinkId) :
    (s.completeFor r st p).links[j].rx = s.links[j].rx := by
  unfold State.completeFor
  split
  · split
    · exact State.complete_rx _ _ _ _ _ _
    · rfl
  · rfl

theorem State.completeFor_preset (r : Option Requester) (st : Status) (p : List Byte) (s : State) :
    (s.completeFor r st p).preset = s.preset :=
  (congrArg State.preset (State.completeFor_core s r st p) : (s.completeFor r st p).core.preset = _)

theorem State.completeFor_state (r : Option Requester) (st : Status) (p : List Byte) (s : State) :
    (s.completeFor r st p).staging.state = s.staging.state :=
  (congrArg (·.staging.state) (State.completeFor_core s r st p) : (s.completeFor r st p).core.staging.state = _)

theorem State.completeFor_hold (r : Option Requester) (st : Status) (p : List Byte) (s : State) :
    (s.completeFor r st p).staging.hold = s.staging.hold :=
  (congrArg (·.staging.hold) (State.completeFor_core s r st p) : (s.completeFor r st p).core.staging.hold = _)

theorem State.storeEnd_table (hs : s.presetOk) (x : SlotId) : (s.settled s.storeEnd).slotState x = s.slotState x ∨
    (s.slotState x, (s.settled s.storeEnd).slotState x) ∈ slotMoves := by
  unfold State.storeEnd
  split
  · next sl body op _ =>
    refine State.table_ended (sl := sl) (d := { state := .valid, info := some (body.info s.staging.gen) }) (by simp [op])
      (by rw [State.completeFor_state]; simp [State.setSlot, State.idleNv]) (by rw [State.completeFor_hold]; simp [State.setSlot, State.idleNv]) (fun j => ?_)
      (by rw [State.completeFor_preset]; simp [State.setSlot, State.idleNv]) (by rw [(hs.1 sl).1.2 op]; simp [slotMoves]) x
    rw [State.completeFor_rx, State.raise_rx]
    rfl
  · exact State.table_quiet .refl hs x

theorem State.eraseEnd_table (hs : s.presetOk) (x : SlotId) : (s.settled s.eraseEnd).slotState x = s.slotState x ∨
    (s.slotState x, (s.settled s.eraseEnd).slotState x) ∈ slotMoves := by
  unfold State.eraseEnd
  split
  · next sl op =>
    refine State.table_ended (sl := sl) (d := SlotDir.emptySlot) (by simp [op])
      (by rw [State.completeFor_state]; simp [State.setSlot, State.idleNv]) (by rw [State.completeFor_hold]; simp [State.setSlot, State.idleNv]) (fun j => ?_)
      (by rw [State.completeFor_preset]; simp [State.setSlot, State.idleNv]) (by rw [(hs.1 sl).2.1.2 op]; decide) x
    rw [State.completeFor_rx, State.raise_rx]
    rfl
  · exact State.table_quiet .refl hs x

/-- R170, R172: a landing ends the load of a bad record, or no operation on a slot. -/
theorem State.landed_table (changed : List Host.Cell) (hs : s.presetOk) (x : SlotId) :
    (s.settled (s.changeLoadedBody changed).recordLanded).slotState x = s.slotState x ∨
      (s.slotState x, (s.settled (s.changeLoadedBody changed).recordLanded).slotState x) ∈ slotMoves := by
  have changes := s.changeLoadedBody_moves (σ := Scope.steady) changed
  have body : (s.changeLoadedBody changed).preset = s.preset ∧ (s.changeLoadedBody changed).staging = s.staging ∧
      (s.changeLoadedBody changed).links = s.links := by
    unfold State.changeLoadedBody
    split <;> exact ⟨rfl, rfl, rfl⟩
  generalize s.changeLoadedBody changed = u at changes body ⊢
  obtain ⟨preset, staging, links⟩ := body
  unfold State.recordLanded
  split
  · next sl owner p op hp =>
    simp only
    have landed : ∀ bytes, Moves Scope.steady s ((u.landRecord p.landing bytes).landName owner) ∧
        ((u.landRecord p.landing bytes).landName owner).preset = s.preset ∧
        ((u.landRecord p.landing bytes).landName owner).staging = s.staging ∧
        ((u.landRecord p.landing bytes).landName owner).links = s.links := fun bytes => by
      refine ⟨changes.trans ((u.landRecord_moves p.landing bytes).trans (State.landName_moves owner _)), ?_⟩
      rw [← preset, ← staging, ← links]
      unfold State.landName
      split <;> exact ⟨rfl, rfl, rfl⟩
    obtain ⟨moves, preset', staging', links'⟩ := landed (Rec.bytes u.flash.bodies[sl].records[p.landing])
    generalize (u.landRecord p.landing (Rec.bytes u.flash.bodies[sl].records[p.landing])).landName owner = v at *
    rw [preset, ← preset'] at op hp
    split
    · exact State.table_quiet (moves.trans (State.recordSound_moves op hp)) hs x
    · have valid : s.slotState sl = .valid := (hs.1 sl).2.2.1 (by rw [← preset', op]; rfl)
      refine State.table_ended (sl := sl) (d := { v.preset.directory[sl] with state := .corrupt })
        (by rw [← preset', op]; simp) (by simp [State.recordBad, State.setSlot, State.idleNv, staging']) (by simp [State.recordBad, State.setSlot, State.idleNv, staging'])
        (fun j => ?_) (by simp [State.recordBad, State.setSlot, State.idleNv, preset']) (by rw [valid]; simp [slotMoves]) x
      rw [← links']
      exact State.raise_rx _ _ _
  · exact State.table_quiet changes hs x

theorem State.damaged_directory (b : Bank) (target : CalTarget) (changed : List Host.Cell) (scanned stored : Nat)
    (s : State) : (s.damaged b target changed scanned stored).preset.directory = s.preset.directory := by
  have sees : (s.passSees b target changed scanned).preset = s.preset := by
    unfold State.passSees
    split
    · split <;> rfl
    · rfl
  have stores (u : State) : (u.storeSees b target changed stored).preset.directory = u.preset.directory := by
    unfold State.storeSees
    split <;> rfl
  have changes (u : State) : (u.changeStructure b target changed).preset = u.preset := by cases target <;> rfl
  rw [State.damaged, changes, stores, sees]

/-- The loss of a link ends no operation either. -/
def Scope.steadyLost : Scope := ⟨fun _ => False, True, False⟩

/-- A command that ends no operation on a slot. -/
theorem Executed.table {c : Instr} (h : Executed s c t) (start : c ≠ .startUp) (ends : ¬ endsSlotOp c) (hs : s.presetOk)
    (x : SlotId) : t.slotState x = s.slotState x ∨ (s.slotState x, t.slotState x) ∈ slotMoves := by
  cases h with
  | startUp => exact absurd rfl start
  | damage b target changed scanned stored =>
    refine .inl ?_
    rw [State.slotState, State.beginSends_preset, State.damaged_directory]
    rfl
  | ticked _ _ _ ht => exact (Moves.slotBegun (Moves.of_ticked (σ := Scope.steady) trivial ht) (fun h => h) hs).1.table x
  | linkDown k =>
    have lost : Moves Scope.steadyLost s
        (if s.links[k].up then s.linkDown k else s.modLink k fun l => { l with peer := false }) := by
      split
      · exact s.linkDown_moves k fun h => h
      · exact Moves.of_core (s.modLink_core k _ rfl)
    obtain ⟨begun, ok⟩ := lost.slotBegun (fun h => h) hs
    exact (begun.trans (Moves.slotBegun (settled_moves (σ := Scope.steady) (fun _ => trivial) s _) (fun h => h) ok).1).table x
  | acted _ _ _ ht =>
    exact (Moves.slotBegun (ht.moves (σ := Scope.steady) (fun _ => trivial) fun e => absurd e ends) (fun h => h) hs).1.table x

/-- Settles O14: an operation begins on at most one slot, and where one ends, none begins. -/
theorem slotStatesFollowTheTable : Obligations.SlotStatesFollowTheTable := by
  intro c s t x hs start scan h
  cases c with
  | directoryScanEnd => exact absurd rfl scan
  | presetRecordLanded changed =>
    simp only [exec, execPresetRecordLanded] at h
    split at h
    · obtain rfl := Host.Outcome.next.inj h
      exact State.landed_table changed hs x
    · cases h
  | presetStoreEnd =>
    obtain rfl := Host.Outcome.next.inj h
    exact State.storeEnd_table hs x
  | presetEraseEnd =>
    obtain rfl := Host.Outcome.next.inj h
    exact State.eraseEnd_table hs x
  | _ => exact (exec_executed h).table start (fun e => e) hs x

end Sys2Proof.Machine
end

section
/-! What every step keeps of the links and event sets (R175, R185, R186, R191, R192, R198, R205). -/

namespace Sys2Proof.Machine

variable {σ : Scope} {s t u : State} {k : LinkId}

/-! ### Ticks -/

theorem State.setMembership_lawful (c : Chan) (m : Member) (s : State) : s.Lawful (s.setMembership c m) :=
  State.raise_lawful .membership (s.modMember c fun _ => m)

theorem State.enterExit_lawful (old : Vector Mode 6) (c : Chan) (s : State) : s.Lawful (s.enterExit old c) := by
  unfold State.enterExit
  split
  · split
    · exact s.lawful_refl
    · exact s.setMembership_lawful _ _
  · split
    · exact s.setMembership_lawful _ _
    · exact s.lawful_refl

theorem State.applyLimit_lawful (s : State) : s.Lawful s.applyLimit := by
  unfold State.applyLimit
  split
  · exact s.lawful_refl
  · next v _ =>
    dsimp only
    split
    · exact State.complete_lawful _ _ _ _ (s.modBarrier fun b => { b with limit := v, pendingLimit := none, pendingReq := none })
    · exact State.lawful_of_links rfl

theorem State.openingTest_lawful (c : Chan) (s : State) : s.Lawful (s.openingTest c) := by
  unfold State.openingTest
  split
  · exact s.setMembership_lawful _ _
  · exact s.lawful_refl

theorem State.swapSet_lawful (n : Word32) (cs : List Chan) (s : State) : s.Lawful (s.swapSet n cs) :=
  (State.eachChan_lawful (f := fun c s => (s.modSlots c (Slots.swapTo n)).modMember c fun m => { m with late := some 0 })
    (fun _ _ => State.lawful_of_links rfl) cs s).then_links rfl

theorem State.countLate_lawful (lead : Word32) {out : Chan → State → State} (hout : ∀ c u, State.Lawful u (out c u))
    (c : Chan) (s : State) : s.Lawful (s.countLate lead out c) := by
  unfold State.countLate
  split
  · exact s.lawful_refl
  · dsimp only
    split
    · exact State.Lawful.of_links (hout c _) rfl
    · exact State.lawful_of_links rfl

theorem State.countLateness_lawful {out : Chan → State → State} (hout : ∀ c u, State.Lawful u (out c u)) (cs : List Chan)
    (s : State) : s.Lawful (s.countLateness out cs) := by
  unfold State.countLateness
  split
  · exact State.eachChan_lawful (State.countLate_lawful _ hout) cs s
  · exact s.lawful_refl

theorem State.swapStage_lawful (s : State) : s.Lawful s.swapStage.1 := by
  rw [State.swapStage_eq]
  split
  · unfold State.joinedStage
    split
    · exact s.swapSet_lawful _ _
    · exact State.countLateness_lawful (fun c u => u.setMembership_lawful c _) _ s
  · split
    · unfold State.readmissionRound
      split
      · exact (s.swapSet_lawful _ _).trans (State.eachChan_lawful (fun c u => u.setMembership_lawful c _) _ _)
      · exact State.countLateness_lawful (out := State.loseCandidacy) (fun _ _ => State.lawful_of_links rfl) _ s
    · exact s.lawful_refl

theorem State.runFree_lawful (c : Chan) (s : State) : s.Lawful (s.runFree c) := by
  unfold State.runFree
  split
  · exact s.lawful_refl
  · split
    · split
      · exact State.lawful_of_links rfl
      · exact s.lawful_refl
    · exact State.lawful_of_links rfl

theorem State.excludedStage_lawful (any : Bool) (swapped : Option Word32) (skip : List Chan) (c : Chan) (s : State) :
    s.Lawful (s.excludedStage any swapped skip c) := by
  obtain h | ⟨-, b, -, ⟨-, h⟩ | ⟨-, h⟩⟩ | ⟨-, h⟩ := s.excludedStage_cases any swapped skip c
  · rw [h]; exact s.lawful_refl
  · rw [h]; exact State.setMembership_lawful c _ (s.modSlots c (Slots.swapTo b))
  · rw [h]; exact s.setMembership_lawful c _
  · rw [h]; exact s.runFree_lawful c

theorem State.emptySet_lawful (s : State) : s.Lawful s.emptySet := by
  unfold State.emptySet
  split
  · exact s.lawful_refl
  · exact State.eachChan_lawful (f := fun c s => s.modMember c fun m => { m with candidate := true, late := some 0 })
      (fun _ _ => State.lawful_of_links rfl) _ s

theorem State.decideLive_lawful (s : State) : s.Lawful s.decideLive.1 := by
  rw [State.decideLive_eq]
  generalize ho : eachChan State.openingTest (chansWhere s.isJoined) s.applyLimit = o
  have opened : s.Lawful o := s.applyLimit_lawful.trans (ho ▸ State.eachChan_lawful State.openingTest_lawful _ _)
  have swapped : s.Lawful o.swapStage.1 := opened.trans o.swapStage_lawful
  generalize o.swapStage = d at swapped
  dsimp only
  exact (swapped.trans (State.eachChan_lawful (State.excludedStage_lawful _ _ _) _ _)).trans (State.emptySet_lawful _)

theorem State.barrierDecision_lawful (old : Vector Mode 6) (s : State) : s.Lawful (s.barrierDecision old).1 := by
  have entered := State.eachChan_lawful (State.enterExit_lawful old) (List.finRange 6) s
  unfold State.barrierDecision
  generalize eachChan (State.enterExit old) (List.finRange 6) s = v at entered
  simp only
  split
  · exact entered.trans v.decideLive_lawful
  · dsimp only
    exact (entered.trans v.applyLimit_lawful).then_links rfl

theorem State.applyModes_lawful (count : Word32) (s : State) : s.Lawful (s.applyModes count) := by
  unfold State.applyModes
  dsimp only
  refine List.foldlRecOn (motive := s.Lawful) _ _ (State.lawful_of_links rfl) fun u hu r _ => ?_
  exact hu.trans (State.complete_lawful _ _ _ _ u)

theorem State.rasterChange_links (before : State) (c : Chan) (s : State) : (before.rasterChange c s).links = s.links := by
  unfold State.rasterChange
  dsimp only
  split <;> rfl

theorem State.scannerActivation_links (set : ChanSet) (s : State) : (s.scannerActivation set).links = s.links :=
  State.scannerActivation_keeps (P := fun u => u.links = s.links) (fun _ _ h => h)
    (fun c u h => (u.nextPass_links c).trans h) set s rfl

theorem State.completeCommit_lawful (p : PendingCommit) (g : Word32) (s : State) : s.Lawful (s.completeCommit p g) := by
  unfold State.completeCommit
  split
  · exact s.complete_lawful _ _ _ _
  · exact s.lawful_refl

theorem State.activate_lawful (p : PendingCommit) (s : State) : s.Lawful (s.activate p) := by
  unfold State.activate
  dsimp only
  have records := State.eachChan_lawful (f := State.activateRecord (s.staging.gen + 1))
    (fun _ _ => State.lawful_of_links rfl) p.set.chans s
  generalize eachChan (State.activateRecord (s.staging.gen + 1)) p.set.chans s = u at records
  have header := records.then_links (u := u.activateHeader (s.staging.gen + 1)) rfl
  generalize u.activateHeader (s.staging.gen + 1) = v at header
  have rasters := header.trans (State.eachChan_lawful
    (fun c u => State.lawful_of_links (s.rasterChange_links c u)) p.set.chans v)
  generalize eachChan (State.rasterChange s) p.set.chans v = w at rasters
  have scanned := rasters.then_links (w.scannerActivation_links p.set)
  generalize w.scannerActivation p.set = x at scanned
  exact ((scanned.trans (x.raise_lawful .activated)).trans
    (State.completeCommit_lawful p (s.staging.gen + 1) _)).then_links rfl

theorem State.adoption_links (c : Chan) (s : State) : (s.adoption c).links = s.links := by
  unfold State.adoption
  split
  · split <;> rfl
  · rfl

theorem State.testActivation_lawful (swapped : Option Word32) (s : State) : s.Lawful (s.testActivation swapped) := by
  obtain h | ⟨p, -, -, h⟩ := s.testActivation_cases swapped
  · rw [h]; exact s.lawful_refl
  · rw [h]; exact s.activate_lawful p

theorem State.tick_lawful (s : State) : s.Lawful s.tick := by
  have counted : s.Lawful s.countTick := State.lawful_of_links rfl
  unfold State.tick
  dsimp only
  generalize s.countTick = u at counted
  have applied := counted.trans (u.applyModes_lawful u.timebase.tickCount)
  generalize u.applyModes u.timebase.tickCount = v at applied
  have decided := applied.trans (v.barrierDecision_lawful s.modes)
  generalize v.barrierDecision s.modes = d at decided
  have tested := decided.trans (d.1.testActivation_lawful d.2)
  generalize d.1.testActivation d.2 = w at tested
  have adopted := tested.trans (State.eachChan_lawful
    (fun c u => State.lawful_of_links (u.adoption_links c)) (List.finRange 6) w)
  generalize eachChan State.adoption (List.finRange 6) w = x at adopted
  exact adopted.then_links rfl

/-! ### Commands that may give a tick (R52 to R63) -/

theorem State.enterFreeRun_lawful (s : State) : s.Lawful s.enterFreeRun :=
  State.Lawful.of_links (State.raise_lawful .timebase _) rfl

theorem State.holdoverTick_lawful (s : State) : s.Lawful s.holdoverTick :=
  State.Lawful.of_links (State.tick_lawful _) rfl

theorem State.enterLocked_lawful (s : State) : s.Lawful s.enterLocked := by
  rw [State.enterLocked_eq]
  refine State.Lawful.trans ?_ (State.raise_lawful .timebase _)
  split
  · exact State.Lawful.of_links (State.tick_lawful _) rfl
  · exact State.lawful_of_links rfl

theorem State.lockAt_lawful (i n : Nat) (s : State) : s.Lawful
    (if n ≤ s.timebase.good + 1 then (s.countInterval i).enterLocked else s.countInterval i) := by
  split
  · exact State.Lawful.of_links (State.enterLocked_lawful _) rfl
  · exact State.lawful_of_links rfl

theorem State.judgeEdge_lawful (i : Nat) (s : State) : s.Lawful (s.judgeEdge i) := by
  unfold State.judgeEdge
  split
  · exact s.lawful_refl
  · by_cases good : goodInterval s.timebase.nominal i = true
    · rw [State.edgeAcquiring_good good]
      exact s.lockAt_lawful i 8
    · rw [State.edgeAcquiring_bad good]
      exact State.lawful_of_links rfl
  · by_cases good : goodInterval s.timebase.nominal i = true
    · rw [State.edgeLocked_good good]
      exact State.Lawful.of_links (State.tick_lawful _) rfl
    · rw [State.edgeLocked_bad good]
      refine State.Lawful.trans ?_ (State.raise_lawful .timebase _)
      split
      · exact State.Lawful.of_links (State.holdoverTick_lawful _) rfl
      · exact State.lawful_of_links rfl
  · by_cases good : goodInterval s.timebase.nominal i = true
    · rw [State.edgeHoldover_good good]
      exact s.lockAt_lawful i 4
    · rw [State.edgeHoldover_bad good]
      exact State.lawful_of_links rfl

theorem State.takeEdge_lawful (s : State) : s.Lawful s.takeEdge := by
  unfold State.takeEdge
  split
  · exact State.Lawful.of_links (State.raise_lawful .timebase _) rfl
  · split
    · exact State.Lawful.of_links (State.judgeEdge_lawful _ _) rfl
    · exact State.lawful_of_links rfl

theorem State.scheduledTick_lawful (s : State) : s.Lawful s.scheduledTick := by
  by_cases state : s.timebase.state = .holdover
  · rw [State.scheduledTick_holdover state]
    have ticked : s.Lawful (s.reachTime s.timebase.due).holdoverTick :=
      State.Lawful.of_links (State.holdoverTick_lawful _) rfl
    generalize (s.reachTime s.timebase.due).holdoverTick = u at ticked
    unfold State.endHoldover
    split
    · exact ticked.trans u.enterFreeRun_lawful
    · exact ticked
  · rw [State.scheduledTick_free state]
    exact State.Lawful.of_links (State.tick_lawful _) rfl

/-! ### Arrivals at the input ports -/

theorem State.inputReason_lawful (c : Chan) (r : InputReason) (s : State) : s.Lawful (s.inputReason c r) :=
  State.raise_lawful .input (s.modCapture c fun cap => { cap with lastReason := r })

theorem State.failFill_lawful (c : Chan) (r : InputReason) (s : State) : s.Lawful (s.failFill c r) :=
  State.Lawful.of_links (State.inputReason_lawful c r _) rfl

theorem State.signalSeen_lawful (c : Chan) (s : State) : s.Lawful (s.signalSeen c) := by
  unfold State.signalSeen
  dsimp only
  split
  · exact State.lawful_of_links rfl
  · exact State.Lawful.of_links (State.raise_lawful .input _) rfl

theorem State.signalLoss_lawful (c : Chan) (s : State) : s.Lawful (s.signalLoss c) := by
  unfold State.signalLoss
  have lost : s.Lawful ((s.modCapture c fun cap => { cap with signal := false, lossLimit := none }).raise .input) :=
    State.Lawful.of_links (State.raise_lawful .input _) rfl
  generalize (s.modCapture c fun cap => { cap with signal := false, lossLimit := none }).raise .input = u at lost
  dsimp only
  split
  · exact lost.trans (u.failFill_lawful c .lost)
  · exact lost

theorem State.judgeHeader_lawful (c : Chan) (n : Word32) (id w h : Nat) (s : State) : s.Lawful (s.judgeHeader c n id w h) := by
  unfold State.judgeHeader
  split
  · exact s.inputReason_lawful c _
  · split
    · exact s.inputReason_lawful c _
    · split
      · have resynced : s.Lawful (s.resync c) :=
          State.Lawful.of_links (State.inputReason_lawful c .resync _) rfl
        exact resynced.then_links rfl
      · split
        · exact State.lawful_of_links rfl
        · exact State.Lawful.of_links (State.inputReason_lawful c .stale _) rfl

theorem State.takeHeader_lawful (c : Chan) (n : Word32) (id w h : Nat) (s : State) : s.Lawful (s.takeHeader c n id w h) := by
  unfold State.takeHeader
  dsimp only
  refine State.Lawful.trans ?_ (State.judgeHeader_lawful c n id w h _)
  split
  · exact s.failFill_lawful c .short
  · exact s.lawful_refl

theorem State.takeLine_lawful (c : Chan) (pixels : List Pixel) (s : State) : s.Lawful (s.takeLine c pixels) := by
  unfold State.takeLine
  split
  · exact s.lawful_refl
  · split
    · split
      · exact s.failFill_lawful c _
      · split
        · exact s.failFill_lawful c _
        · exact State.lawful_of_links rfl
    · exact s.lawful_refl

theorem State.takeEnd_lawful (c : Chan) (s : State) : s.Lawful (s.takeEnd c) := by
  unfold State.takeEnd
  split
  · exact s.lawful_refl
  · split
    · split
      · exact s.failFill_lawful c _
      · split
        · exact State.lawful_of_links rfl
        · exact s.failFill_lawful c _
    · exact s.lawful_refl

theorem State.arrival_lawful (c : Chan) (elapsed : Nat) {act : State → State} (hact : ∀ u, State.Lawful u (act u)) (s : State) :
    s.Lawful (s.arrival c elapsed act).beginSends := by
  refine State.Lawful.trans ?_ (State.beginSends_lawful _)
  unfold State.arrival
  split
  · have seen : s.Lawful ((s.passTime elapsed).signalSeen c) :=
      State.Lawful.of_links (State.signalSeen_lawful c _) rfl
    generalize (s.passTime elapsed).signalSeen c = u at seen
    dsimp only
    split
    · exact seen.trans (hact u)
    · exact seen
  · exact s.lawful_refl

end Sys2Proof.Machine
end

section
/-! Every command keeps the laws of the links (R175, R185, R186). -/

namespace Sys2Proof.Machine

variable {σ : Scope} {s t u : State} {k : LinkId}

/-! ### The boot outcome and the links (R175) -/

/-- R175: no link is UP before the boot outcome is settled, and none is settled during the start-up reads. -/
abbrev State.bootOk (s : State) : Prop :=
  (s.preset.bootOutcome = none → ∀ k : LinkId, s.links[k].up = false) ∧
    (s.preset.nv = some .startUpRead → s.preset.bootOutcome = none ∧ s.staging.restore = none)

theorem State.bootOk_core (s : State) : s.core.bootOk ↔ s.bootOk := by
  have up (k : LinkId) : s.core.links[k].up = s.links[k].up := by simp [State.core, Link.line]
  simp only [State.bootOk, up]
  exact Iff.rfl

theorem State.activate_bootOk (p : PendingCommit) (h : s.bootOk) : (s.activate p).bootOk :=
  State.activate_keeps State.bootOk_core (fun _ _ _ h => h) (fun _ _ h => h)
    (fun before c u h => by unfold State.rasterChange; simp only; split <;> exact h)
    (fun set u h => State.scannerActivation_keeps (P := State.bootOk) (fun _ _ h => h)
      (fun c u h => by unfold State.nextPass; split <;> exact h) set u h)
    (fun _ _ h => h) p h

/-- The controller leaves the start-up reads, or is not in them. -/
theorem State.bootOk_nv (h : s.bootOk) (boot : t.preset.bootOutcome = s.preset.bootOutcome) (links : t.links = s.links)
    (nv : t.preset.nv ≠ some .startUpRead) : t.bootOk :=
  ⟨fun e k => by rw [links]; exact h.1 (boot ▸ e) k, fun e => absurd e nv⟩

theorem Change.bootOk (m : Change σ s t) (h : s.bootOk) : t.bootOk := by
  cases m
  case beginStore => exact State.bootOk_nv h rfl rfl (by simp)
  case beginLoad => exact State.bootOk_nv h (by simp [State.startLoad]) (by simp [State.startLoad]) (by simp [State.startLoad])
  case beginErase => exact State.bootOk_nv h rfl rfl (by simp)
  case beginSetupStore => exact State.bootOk_nv h rfl rfl (by simp)
  case endStore =>
    exact State.bootOk_nv h (by simp [State.setSlot, State.idleNv]) (by simp [State.setSlot, State.idleNv]) (by simp [State.idleNv])
  case endErase => exact State.bootOk_nv h rfl rfl (by simp [State.idleNv])
  case endSetupStore => exact State.bootOk_nv h rfl rfl (by simp [State.idleNv])
  case endLoad => exact State.bootOk_nv h rfl rfl (by simp [State.idleNv])
  case commitLoad => exact State.bootOk_nv h rfl rfl (by simp [State.idleNv])
  case corrupt =>
    exact State.bootOk_nv h (by simp [State.setSlot, State.idleNv]) (by simp [State.setSlot, State.idleNv]) (by simp [State.idleNv])
  case scanned =>
    exact State.bootOk_nv h (by simp [State.withScanned, State.idleNv]) (by simp [State.withScanned, State.idleNv])
      (by simp [State.idleNv])
  case scannedLoad =>
    exact State.bootOk_nv h (by simp [State.startLoad, State.withScanned]) (by simp [State.startLoad, State.withScanned])
      (by simp [State.startLoad])
  case restored running =>
    refine ⟨h.1, fun e => ?_⟩
    have idle : s.staging.restore = none := (h.2 e).2
    rw [idle] at running
    cases running
  case boot o read =>
    refine ⟨fun e => (by cases e), fun e => ?_⟩
    have running := read e
    rw [(h.2 e).2] at running
    cases running
  case lines v _ boot =>
    refine ⟨fun e k => ?_, h.2⟩
    by_contra up
    have down := h.1 e k
    rw [boot e k (by simpa using up)] at down
    cases down
  case drop f =>
    refine ⟨h.1, fun e => ⟨(h.2 e).1, ?_⟩⟩
    simp [(h.2 e).2]
  case activate p _ _ _ => exact State.activate_bootOk p h
  all_goals exact h

theorem Executed.bootOk {c : Instr} (h : Executed s c t) (hs : s.bootOk) : t.bootOk := by
  refine h.keeps State.bootOk_core (fun _ => resetMeetsTheLaws.2.1.2) (fun b target changed scanned stored hs => ?_)
    (fun _ _ _ m hs => m.bootOk hs) hs
  have seen : (s.passSees b target changed scanned).bootOk := by
    unfold State.passSees
    split
    · split <;> exact hs
    · exact hs
  have stored (u : State) (hu : u.bootOk) : (u.storeSees b target changed stored).bootOk := by
    unfold State.storeSees
    split <;> exact hu
  cases target <;> exact stored _ seen

/-! ### Start-up and the links' lines -/

/-- R175: the shares are handed out while every link is DOWN. -/
theorem State.handOut_wired (m : Cells) (o : SetupOutcome) (hs : s.wired) (down : ∀ k : LinkId, s.links[k].up = false) :
    (s.handOut m o).wired := fun k => by
  show (Vector.ofFn fun k : LinkId => s.links[k].configure m k)[k].ok
  rw [Vector.ofFn_link]
  obtain ⟨hcost, hshare, hlen, hnodup, hcredit, hnotified, hdown, hup⟩ := hs k
  have held : s.links[k].unitsHeld = 0 := by
    rw [hcost, Link.cost, (hdown (down k)).1]
    rfl
  exact ⟨hcost, held.le.trans (Nat.zero_le _), hlen, hnodup, hcredit, hnotified, hdown, fun e => by cases (down k).symm.trans e⟩

theorem State.setupRead_wired (hs : s.wired) (down : ∀ k : LinkId, s.links[k].up = false) : s.setupRead.wired := by
  unfold State.setupRead
  split
  · exact State.handOut_wired _ _ hs down
  · exact (State.raise_lawful .setup _).wired (State.handOut_wired _ _ hs down)

theorem execSetupRecordRead_wired {changed : List Host.Cell} (h : execSetupRecordRead changed s = .next t)
    (hs : s.linksOk) : t.wired := by
  unfold execSetupRecordRead at h
  split at h
  · split at h
    · next reading =>
      cases h
      have down := hs.2.1 (hs.2.2 reading.1).1
      exact (State.beginSends_lawful _).wired (State.setupRead_wired
        (s := s.modFlash fun f => { f with setup := Cells.change zeroByte f.setup changed }) hs.1 down)
    · cases h
      exact s.beginSends_lawful.wired hs.1
  · cases h

theorem State.scanDirectory_lawful (s : State) : s.Lawful s.scanDirectory := by
  unfold State.scanDirectory
  dsimp only
  split
  · exact State.Lawful.of_links (State.raise_lawful .preset _) rfl
  · exact State.lawful_of_links rfl

theorem State.examineBoot_lawful (s : State) : s.Lawful s.examineBoot := by
  unfold State.examineBoot
  split
  · exact s.settleBoot_lawful _
  · split
    · exact State.lawful_of_links rfl
    · exact s.settleBoot_lawful _

theorem execDirectoryScanEnd_lawful (h : execDirectoryScanEnd s = .next t) : s.Lawful t := by
  unfold execDirectoryScanEnd at h
  split at h
  · cases h
    exact ((s.scanDirectory_lawful.then_links (u := s.scanDirectory.idleNv) rfl).trans (State.examineBoot_lawful _)).trans
      (State.beginSends_lawful _)
  · cases h
    exact s.beginSends_lawful

theorem execLinkUp_lawful (h : execLinkUp k s = .next t) : s.Lawful t := by
  cases h
  refine State.Lawful.trans ?_ (State.beginSends_lawful _)
  have peer : s.Lawful (s.modLink k fun l => { l with peer := true }) := State.modLink_lawful ⟨id, id⟩
  split
  · exact peer.trans (State.modLink_lawful (Link.tryUp_lawful _))
  · exact peer

theorem Link.clearSets_ok {l : Link} (h : l.ok) : l.clearSets.ok := by
  obtain ⟨hcost, hshare, hlen, hnodup, hcredit, -, hdown, hup⟩ := h
  refine ⟨hcost, hshare, hlen, hnodup, hcredit, BitVec.zero_and, fun e => ?_, hup⟩
  obtain ⟨hrx, hwait, hsendQ, hsending, hout, -, -⟩ := hdown e
  exact ⟨hrx, hwait, hsendQ, hsending, hout, rfl, rfl⟩

theorem State.modLink_wired {f : Link → Link} (h : (f s.links[k]).ok) (hs : s.wired) : (s.modLink k f).wired := fun j => by
  rw [State.modLink_links_get]
  split
  · next e => subst e; exact h
  · exact hs j

theorem State.releaseDown_lawful (k : LinkId) (s : State) : s.Lawful (s.releaseDown k) := by
  unfold State.releaseDown
  split
  · exact s.cancelAndEndHold_lawful
  · exact s.lawful_refl

theorem State.linkDown_wired (k : LinkId) (hs : s.wired) : (s.linkDown k).wired := by
  have down : ((s.modLink k Link.goDown).forgetClaims k).wired := State.modLink_wired (Link.goDown_ok _) hs
  have lost := ((State.releaseDown_lawful k _).then_links
    (u := State.dropRequests k (State.dropRequester k (State.releaseDown k _))) rfl).wired down
  unfold State.linkDown
  dsimp only
  split
  · exact State.modLink_wired (Link.clearSets_ok (lost k)) lost
  · exact lost

/-! ### Arrivals on the links -/

theorem State.receive_wired (k : LinkId) (a : Arrival) (hs : s.wired) : (s.receive k a).wired :=
  State.settled_wired s ((s.arrive_lawful k a).wired hs)

theorem execReferenceEdge_lawful {elapsed : Nat} (h : execReferenceEdge elapsed s = .next t) : s.Lawful t := by
  unfold execReferenceEdge at h
  split at h
  · cases h
    refine State.Lawful.trans ?_ (State.beginSends_lawful _)
    split
    · exact State.Lawful.of_links (State.takeEdge_lawful _) rfl
    · exact State.lawful_of_links rfl
  · cases h
    exact s.beginSends_lawful

theorem execMissingEdgeLimitAcquiring_lawful (h : execMissingEdgeLimitAcquiring s = .next t) : s.Lawful t := by
  unfold execMissingEdgeLimitAcquiring at h
  split at h
  · cases h
    exact State.Lawful.of_links ((State.enterFreeRun_lawful _).trans (State.beginSends_lawful _)) rfl
  · cases h
    exact s.beginSends_lawful

theorem execMissingEdgeLimitLocked_lawful (h : execMissingEdgeLimitLocked s = .next t) : s.Lawful t := by
  unfold execMissingEdgeLimitLocked at h
  split at h
  · obtain rfl := Host.Outcome.next.inj h
    exact State.Lawful.of_links (((State.holdoverTick_lawful _).trans (State.raise_lawful .timebase _)).trans
      (State.beginSends_lawful _)) rfl
  · cases h
    exact s.beginSends_lawful

theorem execHoldoverTickLimit_lawful (h : execHoldoverTickLimit s = .next t) : s.Lawful t := by
  unfold execHoldoverTickLimit at h
  split at h
  · cases h
    exact s.scheduledTick_lawful.trans (State.beginSends_lawful _)
  · cases h
    exact s.beginSends_lawful

theorem execFrameTick_lawful (h : execFrameTick s = .next t) : s.Lawful t := by
  unfold execFrameTick at h
  split at h
  · cases h
    exact s.scheduledTick_lawful.trans (State.beginSends_lawful _)
  · cases h
    exact s.beginSends_lawful

theorem execSignalLost_lawful {c : Chan} {elapsed : Nat} (h : execSignalLost c elapsed s = .next t) : s.Lawful t := by
  unfold execSignalLost at h
  split at h
  · cases h
    refine State.Lawful.trans ?_ (State.beginSends_lawful _)
    split
    · exact State.Lawful.of_links (State.signalLoss_lawful c _) rfl
    · exact State.lawful_of_links rfl
  · cases h
    exact s.beginSends_lawful

theorem execSignalLossLimit_lawful {c : Chan} (h : execSignalLossLimit c s = .next t) : s.Lawful t := by
  unfold execSignalLossLimit at h
  split at h
  · cases h
    exact State.Lawful.of_links ((State.signalLoss_lawful c _).trans (State.beginSends_lawful _)) rfl
  · cases h
    exact s.beginSends_lawful

theorem State.damaged_links (b : Bank) (target : CalTarget) (changed : List Host.Cell) (scanned stored : Nat)
    (s : State) : (s.damaged b target changed scanned stored).links = s.links := by
  have sees : (s.passSees b target changed scanned).links = s.links := by
    unfold State.passSees
    split
    · split <;> rfl
    · rfl
  have stores (u : State) : (u.storeSees b target changed stored).links = u.links := by
    unfold State.storeSees
    split <;> rfl
  have changes (u : State) : (u.changeStructure b target changed).links = u.links := by cases target <;> rfl
  rw [State.damaged, changes, stores, sees]

/-! ### Every command -/

theorem exec_wired {c : Instr} (h : exec c s = .next t) (hs : s.linksOk) : t.wired := by
  cases c with
  | startUp => cases h; exact resetMeetsTheLaws.2.1.1
  | setupRecordRead changed => exact execSetupRecordRead_wired h hs
  | directoryScanEnd => exact (execDirectoryScanEnd_lawful h).wired hs.1
  | memoryDamage b target changed scanned stored =>
    simp only [exec, execMemoryDamage] at h
    split at h
    · cases h
      exact ((State.lawful_of_links (s.damaged_links b target changed scanned stored)).trans
        (State.beginSends_lawful _)).wired hs.1
    · cases h
  | referenceEdge elapsed => exact (execReferenceEdge_lawful h).wired hs.1
  | missingEdgeLimitAcquiring => exact (execMissingEdgeLimitAcquiring_lawful h).wired hs.1
  | missingEdgeLimitLocked => exact (execMissingEdgeLimitLocked_lawful h).wired hs.1
  | holdoverTickLimit => exact (execHoldoverTickLimit_lawful h).wired hs.1
  | frameTick => exact (execFrameTick_lawful h).wired hs.1
  | frameHeader c elapsed n id w ht =>
    cases h; exact (State.arrival_lawful c elapsed (fun u => u.takeHeader_lawful c n id w ht) s).wired hs.1
  | line c elapsed pixels =>
    cases h; exact (State.arrival_lawful c elapsed (fun u => u.takeLine_lawful c pixels) s).wired hs.1
  | endOfFrame c elapsed => cases h; exact (State.arrival_lawful c elapsed (fun u => u.takeEnd_lawful c) s).wired hs.1
  | signalPresent c elapsed => cases h; exact (State.arrival_lawful c elapsed (fun u => u.lawful_refl) s).wired hs.1
  | signalLost c elapsed => exact (execSignalLost_lawful h).wired hs.1
  | signalLossLimit c => exact (execSignalLossLimit_lawful h).wired hs.1
  | linkUp k => exact (execLinkUp_lawful h).wired hs.1
  | linkDown k =>
    cases h
    refine State.settled_wired s ?_
    split
    · exact State.linkDown_wired k hs.1
    · exact State.modLink_wired (f := fun l => { l with peer := false }) (hs.1 k) hs.1
  | messageSent k =>
    cases h; exact ((State.modLink_lawful (Link.sent_lawful _)).trans (State.beginSends_lawful _)).wired hs.1
  | serveWaitingRequests => cases h; exact (State.beginSends_lawful _).wired (settle_wired _ _ _ hs.1)
  | presetRecordLanded changed =>
    simp only [exec, execPresetRecordLanded] at h
    split at h
    · cases h
      exact State.settled_wired s (((State.lawful_of_links (s.changeLoadedBody_links changed)).trans
        (State.recordLanded_lawful _)).wired hs.1)
    · cases h
  | restoreCopyEnd => cases h; exact State.settled_wired s (s.restoreEnd_lawful.wired hs.1)
  | presetStoreEnd => cases h; exact State.settled_wired s (s.storeEnd_lawful.wired hs.1)
  | presetEraseEnd => cases h; exact State.settled_wired s (s.eraseEnd_lawful.wired hs.1)
  | setupStoreEnd => cases h; exact State.settled_wired s (s.setupEnd_lawful.wired hs.1)
  | copyBackCopyEnd =>
    cases h
    refine State.settled_wired s ?_
    split
    · exact s.copyEnd_lawful.wired hs.1
    · exact hs.1
  | scanPassEnd => cases h; exact State.settled_wired s (s.passEnd_lawful.wired hs.1)
  | repairBegin => cases h; exact State.settled_wired s (s.beginRepair_lawful.wired hs.1)
  | _ => cases h; exact State.receive_wired _ _ hs.1

/-- Settles O6: the laws of each link, operation by operation, and the boot outcome, move by move. -/
theorem stepKeepsLinkLaws : Obligations.StepKeepsLinkLaws := by
  intro s t hs h
  unfold step at h
  split at h
  · cases h; exact hs
  · exact ⟨exec_wired h hs, (exec_executed h).bootOk hs.2⟩

end Sys2Proof.Machine
end

section
/-! What every step keeps of Staging, its hold and its commit (R121 to R128, R139). -/

namespace Sys2Proof.Machine

variable {σ : Scope} {s t u : State} {k : LinkId} {g : Staging} {nv : Option NvOp} {lock : Bool}

/-! ### The laws of Staging without the hold's link -/

/-- The laws of Staging, of the lock and of the NV operation, but for the holder's link; the start-up reads find no hold. -/
structure Staging.Base (g : Staging) (lock : Bool) (nv : Option NvOp) : Prop where
  owner : g.owner = none ↔ g.state = .openState
  commit : g.commit.isSome ↔ g.state = .commitPending
  copies : g.copyList ≠ [] ↔ g.state = .copyBack
  restore : g.restore.isSome → g.state = .loading
  pending : ∀ p ∈ g.commit, p.set ≠ 0 ∧ p.owner.holds g.hold = true
  locked : lock = true → g.hold = none
  op : g.nvOk nv = true
  reads : nv = some .startUpRead → g.hold = none

abbrev State.stagingBase (s : State) : Prop := s.staging.Base s.scanner.lock s.preset.nv

theorem Staging.nvOk_load (sl : SlotId) (o : OpOwner) :
    g.nvOk (some (.load sl o)) = true ↔ g.state = .loading ∧ g.owner = some o ∧ g.restore = none := by
  simp [Staging.nvOk, and_assoc]

theorem Staging.nvOk_startUpRead : g.nvOk (some .startUpRead) = true ↔ g.state = .openState ∧ g.restore = none := by
  simp [Staging.nvOk]

theorem Staging.nvOk_store (sl : SlotId) : g.nvOk (some (.store sl)) = true ↔ g.commit = none := by simp [Staging.nvOk]

/-- An NV operation that does not concern Staging, or none. -/
def NvOp.apart : Option NvOp → Prop
  | none => True
  | some (.erase _) => True
  | some .setupStore => True
  | some (.store _) => False
  | some (.load _ _) => False
  | some .startUpRead => False

theorem Staging.nvOk_apart (h : NvOp.apart nv) : g.nvOk nv = true := by
  obtain _ | o := nv
  · rfl
  · cases o with
    | erase => rfl
    | setupStore => rfl
    | store => cases h
    | load => cases h
    | startUpRead => cases h

namespace Staging.Base

/-- A commit is absent outside COMMIT_PENDING. -/
theorem commit_none (h : g.Base lock nv) (hs : g.state ≠ .commitPending) : g.commit = none := by
  by_contra e
  exact hs (h.commit.1 (Option.isSome_iff_ne_none.2 e))

theorem copies_nil (h : g.Base lock nv) (hs : g.state ≠ .copyBack) : g.copyList = [] := by
  by_contra e
  exact hs (h.copies.1 e)

theorem restore_none (h : g.Base lock nv) (hs : g.state ≠ .loading) : g.restore = none := by
  by_contra e
  exact hs (h.restore (Option.isSome_iff_ne_none.2 e))

/-- The operation in flight lets a commit end, and staging be OPEN. -/
theorem nvOk_opened (h : g.Base lock nv) (hs : g.state ≠ .loading ∨ g.restore.isSome = true) {g' : Staging}
    (state : g'.state = .openState) (commit : g'.commit = none) (restore : g'.restore = none) : g'.nvOk nv = true := by
  have op := h.op
  obtain _ | o := nv
  · rfl
  · cases o with
    | startUpRead => exact Staging.nvOk_startUpRead.2 ⟨state, restore⟩
    | store sl => exact (Staging.nvOk_store sl).2 commit
    | load sl o =>
      obtain ⟨loading, -, none⟩ := (Staging.nvOk_load sl o).1 op
      obtain e | e := hs
      · exact absurd loading e
      · rw [none] at e; cases e
    | erase => rfl
    | setupStore => rfl

/-- Staging is OPEN again, with no commit, copy or restore. -/
theorem opened (h : g.Base lock nv) {g' : Staging} (state : g'.state = .openState) (owner : g'.owner = none)
    (commit : g'.commit = none) (copies : g'.copyList = []) (restore : g'.restore = none) (hold : g'.hold = g.hold)
    {nv' : Option NvOp} (op : g'.nvOk nv' = true) (reads : nv' = some .startUpRead → nv = some .startUpRead) :
    g'.Base lock nv' where
  owner := iff_of_true owner state
  commit := iff_of_false (by simp [commit]) (by simp [state])
  copies := iff_of_false (by simp [copies]) (by simp [state])
  restore := fun e => by rw [restore] at e; cases e
  pending := fun p hp => by rw [commit] at hp; cases hp
  locked := fun e => hold.trans (h.locked e)
  op := op
  reads := fun e => hold.trans (h.reads (reads e))

/-- Only the NV operation changes, to one that does not concern Staging. -/
theorem idle (h : g.Base lock nv) {nv' : Option NvOp} (op : NvOp.apart nv') : g.Base lock nv' :=
  { h with op := Staging.nvOk_apart op, reads := fun e => by rw [e] at op; cases op }

/-- Staging in LOADING for a load. -/
theorem loading (h : g.Base lock nv) {g' : Staging} (state : g'.state = .loading) (owner : g'.owner.isSome = true)
    (commit : g'.commit = none) (copies : g'.copyList = []) (hold : g'.hold = g.hold) {nv' : Option NvOp}
    (op : g'.nvOk nv' = true) (reads : nv' ≠ some .startUpRead) : g'.Base lock nv' where
  owner := iff_of_false (Option.isSome_iff_ne_none.1 owner) (by simp [state])
  commit := iff_of_false (by simp [commit]) (by simp [state])
  copies := iff_of_false (by simp [copies]) (by simp [state])
  restore := fun _ => state
  pending := fun p hp => by rw [commit] at hp; cases hp
  locked := fun e => hold.trans (h.locked e)
  op := op
  reads := fun e => absurd e reads

end Staging.Base

/-! ### Move by move -/

theorem ChanSet.chans_ne_nil {set : ChanSet} (h : set ≠ 0) : set.chans ≠ [] := by
  intro e
  refine h (BitVec.eq_of_getLsbD_eq fun i hi => ?_)
  by_contra bit
  have mem : (⟨i, hi⟩ : Chan) ∈ set.chans := ChanSet.mem_chans.2 (by simpa using bit)
  rw [e] at mem
  cases mem

theorem State.activate_lock (p : PendingCommit) (s : State) : (s.activate p).scanner.lock = s.scanner.lock :=
  State.activate_keeps (P := fun u => u.scanner.lock = s.scanner.lock) (fun _ => Iff.rfl) (fun _ _ _ h => h) (fun _ _ h => h)
    (fun before c u h => by rw [State.rasterChange_scanner]; exact h)
    (fun set u h => State.scannerActivation_keeps (P := fun u => u.scanner.lock = s.scanner.lock) (fun _ _ h => h)
      (fun c u h => (u.nextPass_lock c).trans h) set u h)
    (fun _ _ h => h) p rfl

theorem State.activate_stagingBase (p : PendingCommit) (state : s.staging.state = .commitPending)
    (pending : s.staging.commit = some p) (h : s.stagingBase) : (s.activate p).stagingBase := by
  have lock := s.activate_lock p
  have preset := s.activate_preset p
  have staging := s.activate_staging p
  generalize s.activate p = t at lock preset staging
  rw [State.stagingBase, lock, preset, staging]
  have restore := h.restore_none (by rw [state]; decide)
  have some_chan := (h.pending p pending).1
  refine ⟨iff_of_false (fun e => ?_) (by simp), by simp, by simp [ChanSet.chans_ne_nil some_chan], fun e => ?_,
    fun q hq => (by cases hq), h.locked, ?_, h.reads⟩
  · rw [h.owner, state] at e; cases e
  · have e : s.staging.restore.isSome = true := e
    rw [restore] at e; cases e
  · have op := h.op
    generalize s.preset.nv = nv at op ⊢
    obtain _ | o := nv
    · rfl
    · cases o with
      | startUpRead => cases state.symm.trans (Staging.nvOk_startUpRead.1 op).1
      | store sl => exact (Staging.nvOk_store sl).2 rfl
      | load sl o => cases state.symm.trans ((Staging.nvOk_load sl o).1 op).1
      | erase => rfl
      | setupStore => rfl

/-- R126: a link takes the hold. -/
theorem Staging.Base.takeHold (h : g.Base lock nv) (free : g.hold = none) (unlocked : lock = false)
    (reads : nv ≠ some .startUpRead) (k : LinkId) : Staging.Base { g with hold := some k } lock nv := by
  refine { h with
    pending := fun p hp => ⟨(h.pending p hp).1, ?_⟩
    locked := fun e => (by cases unlocked.symm.trans e)
    reads := fun e => absurd e reads }
  have holds := (h.pending p hp).2
  cases ho : p.owner with
  | part => rfl
  | link j tag =>
    rw [ho, CommitOwner.holds, free] at holds
    simp at holds

theorem Staging.Base.endHold (h : g.Base lock nv) (idle : g.commit = none ∨ g.state ≠ .commitPending) :
    Staging.Base { g with hold := none } lock nv := by
  have none : g.commit = none := idle.elim id h.commit_none
  exact { h with
    pending := fun p hp => (by cases none.symm.trans hp), locked := fun _ => rfl, reads := fun _ => rfl }

/-- R139: a commit of the holder becomes pending. -/
theorem Staging.Base.accept (h : g.Base lock nv) (tag : Byte) {set : ChanSet} (kind : Activation) (holds : g.hold = some k)
    (opened : g.state = .openState) (noStore : ∀ sl, nv ≠ some (.store sl)) (some_chan : set ≠ 0) :
    Staging.Base { g with
      state := .commitPending, owner := some (.link k)
      commit := some { owner := .link k tag, set := set, kind := kind } } lock nv := by
  have copies := h.copies_nil (by rw [opened]; decide)
  have restore := h.restore_none (by rw [opened]; decide)
  refine ⟨by simp, by simp, by simp [copies], by simp [restore], fun p hp => ?_, h.locked, ?_, h.reads⟩
  · obtain rfl := Option.some.inj hp
    exact ⟨some_chan, by simp [CommitOwner.holds, holds]⟩
  · have op := h.op
    obtain _ | o := nv
    · rfl
    · cases o with
      | startUpRead => cases (h.reads rfl).symm.trans holds
      | store sl => exact absurd rfl (noStore sl)
      | load sl o => cases opened.symm.trans ((Staging.nvOk_load sl o).1 op).1
      | erase => rfl
      | setupStore => rfl

/-- R141: a load of the part ends with its commit pending. -/
theorem Staging.Base.commitLoad {sl : SlotId} {owner : OpOwner} (h : g.Base lock (some (.load sl owner))) {set : ChanSet}
    (some_chan : set ≠ 0) :
    Staging.Base { g with
      state := .commitPending, commit := some { owner := .part, set := set, kind := .nextTick } } lock none := by
  obtain ⟨loading, owner, restore⟩ := (Staging.nvOk_load sl owner).1 h.op
  have copies := h.copies_nil (by rw [loading]; decide)
  refine ⟨by simp [owner], by simp, by simp [copies], by simp [restore], fun p hp => ?_, h.locked, rfl, fun e => (by cases e)⟩
  obtain rfl := Option.some.inj hp
  exact ⟨some_chan, rfl⟩

theorem Staging.Base.drop (h : g.Base lock nv) (f : Requester → Requester) :
    Staging.Base { g with restore := g.restore.map fun r => { r with requester := r.requester.map f } } lock nv := by
  refine { h with restore := fun e => h.restore (by simpa using e), op := ?_ }
  have op := h.op
  obtain _ | o := nv
  · rfl
  · cases o with
    | startUpRead => simpa [Staging.nvOk] using op
    | store sl => exact op
    | load sl o => simpa [Staging.nvOk] using op
    | erase => rfl
    | setupStore => rfl

/-- Only the NV operation changes. -/
theorem State.stagingBase_idle (h : s.stagingBase) (staging : t.staging = s.staging)
    (lock : t.scanner.lock = s.scanner.lock) (nv : NvOp.apart t.preset.nv) : t.stagingBase := by
  rw [State.stagingBase, staging, lock]
  exact h.idle nv

/-- A change keeps the laws of Staging; the links that may ask are UP, after the start-up reads. -/
theorem Change.stagingBase (m : Change σ s t) (up : ∀ k, σ.asks k → s.links[k].up = true) (boot : s.bootOk)
    (h : s.stagingBase) : t.stagingBase := by
  cases m
  case takeHold k asks free unlocked =>
    refine Staging.Base.takeHold h free unlocked (fun reading => ?_) k
    cases (up k asks).symm.trans (boot.1 (boot.2 reading).1 k)
  case endHold idle => exact Staging.Base.endHold h idle
  case cancel pending =>
    have restore := h.restore_none (by rw [pending]; decide)
    refine Staging.Base.opened h (g' := { s.staging with commit := none, state := .openState, owner := none }) rfl rfl rfl
      (h.copies_nil (by rw [pending]; decide)) restore rfl ?_ id
    exact h.nvOk_opened (.inl (by rw [pending]; decide)) rfl rfl restore
  case accept k tag set kind holds opened noStore some_chan =>
    exact Staging.Base.accept h tag kind holds opened (fun sl e => by simp [State.storeInFlight, e] at noStore) some_chan
  case lock unlocked free => exact { h with locked := fun _ => free }
  case unlock => exact { h with locked := fun e => by cases e }
  case beginStore sl req _ noCommit idle =>
    show s.staging.Base s.scanner.lock (some (.store sl))
    exact { h with op := (Staging.nvOk_store sl).2 (h.commit_none noCommit), reads := fun e => by cases e }
  case beginLoad sl owner first req _ _ idle opened =>
    exact h.loading (by simp [State.startLoad]) (by simp [State.startLoad])
      (by simpa [State.startLoad] using h.commit_none (by rw [opened]; decide))
      (by simpa [State.startLoad] using h.copies_nil (by rw [opened]; decide)) (by simp [State.startLoad])
      ((Staging.nvOk_load sl owner).2 (by simpa [State.startLoad] using h.restore_none (by rw [opened]; decide)))
      (by simp [State.startLoad])
  case beginErase =>
    exact State.stagingBase_idle h (by simp [State.setSlot]) (by simp [State.setSlot]) trivial
  case beginSetupStore => exact State.stagingBase_idle h rfl rfl trivial
  case endStore =>
    exact State.stagingBase_idle h (by simp [State.setSlot, State.idleNv]) (by simp [State.setSlot, State.idleNv]) trivial
  case endErase =>
    exact State.stagingBase_idle h (by simp [State.setSlot, State.idleNv]) (by simp [State.setSlot, State.idleNv]) trivial
  case endSetupStore => exact State.stagingBase_idle h (by simp [State.idleNv]) (by simp [State.idleNv]) trivial
  case endLoad sl owner op =>
    obtain ⟨loading, -, restore⟩ := (Staging.nvOk_load sl owner).1 (op ▸ h.op)
    have commit := h.commit_none (by rw [loading]; decide)
    have copies := h.copies_nil (by rw [loading]; decide)
    exact h.opened (nv' := none) (g' := { s.staging with state := .openState, owner := none }) rfl rfl commit copies
      restore rfl rfl (fun e => by cases e)
  case commitLoad sl owner set some_chan op => exact Staging.Base.commitLoad (sl := sl) (owner := owner) (op ▸ h) some_chan
  case corrupt sl owner r _ op =>
    obtain ⟨loading, owns, restore⟩ := (Staging.nvOk_load sl owner).1 (op ▸ h.op)
    exact h.loading (nv' := none) (by simpa [State.setSlot, State.idleNv] using loading)
      (by simp [State.setSlot, State.idleNv, owns])
      (by simpa [State.setSlot, State.idleNv] using h.commit_none (by rw [loading]; decide))
      (by simpa [State.setSlot, State.idleNv] using h.copies_nil (by rw [loading]; decide))
      (by simp [State.setSlot, State.idleNv]) rfl (by simp)
  case restored running =>
    have loading := h.restore running
    have commit := h.commit_none (by rw [loading]; decide)
    refine Staging.Base.opened h (g' := { s.staging with restore := none, state := .openState, owner := none }) rfl rfl commit
      (h.copies_nil (by rw [loading]; decide)) rfl rfl ?_ id
    exact h.nvOk_opened (.inr running) rfl commit rfl
  case drop f => exact Staging.Base.drop h f
  case copied c rest list left => exact { h with copies := iff_of_true left (h.copies.1 (by rw [list]; simp)) }
  case copiedLast state =>
    have restore := h.restore_none (by rw [state]; decide)
    have commit := h.commit_none (by rw [state]; decide)
    refine Staging.Base.opened h (g' := { s.staging with copyList := [], state := .openState, owner := none }) rfl rfl commit
      rfl restore rfl ?_ id
    exact h.nvOk_opened (.inl (by rw [state]; decide)) rfl commit restore
  case scanned =>
    exact State.stagingBase_idle h (by simp [State.withScanned, State.idleNv]) (by simp [State.withScanned, State.idleNv]) trivial
  case scannedLoad sl _ op _ _ =>
    obtain ⟨opened, restore⟩ := Staging.nvOk_startUpRead.1 (op ▸ h.op)
    exact h.loading (by simp [State.startLoad]) (by simp [State.startLoad])
      (by simpa [State.startLoad, State.withScanned] using h.commit_none (by rw [opened]; decide))
      (by simpa [State.startLoad, State.withScanned] using h.copies_nil (by rw [opened]; decide))
      (by simp [State.startLoad, State.withScanned])
      ((Staging.nvOk_load sl .startUp).2 (by simpa [State.startLoad, State.withScanned] using restore))
      (by simp [State.startLoad])
  case activate p _ state pending => exact State.activate_stagingBase p state pending h
  all_goals exact h

/-! ### The hold and its link (R126, R129) -/

theorem State.stagingBase_core (s : State) : s.core.stagingBase ↔ s.stagingBase :=
  ⟨fun h => ⟨h.owner, h.commit, h.copies, h.restore, h.pending, h.locked, h.op, h.reads⟩,
    fun h => ⟨h.owner, h.commit, h.copies, h.restore, h.pending, h.locked, h.op, h.reads⟩⟩

/-- The hold stays, ends, or goes to a link that may ask. -/
theorem Change.hold (m : Change σ s t) :
    t.staging.hold = s.staging.hold ∨ t.staging.hold = none ∨ ∃ k, σ.asks k ∧ t.staging.hold = some k := by
  cases m
  case takeHold k asks _ _ => exact .inr (.inr ⟨k, asks, rfl⟩)
  case endHold => exact .inr (.inl rfl)
  case activate p _ _ _ => exact .inl (by rw [State.activate_staging])
  all_goals
    refine .inl ?_
    simp [State.setSlot, State.idleNv, State.startLoad, State.withScanned, State.beginPass, State.setStagingRecord,
      State.setStagingHeader, State.pendPartCommit, State.openStaging]

theorem State.activate_up (p : PendingCommit) (s : State) (k : LinkId) (up : s.links[k].up = true) :
    (s.activate p).links[k].up = true := (s.activate_lawful p k).2 up

/-- A link that may ask stays UP. -/
theorem Change.up (m : Change σ s t) (asks : σ.asks k) (up : s.links[k].up = true) : t.links[k].up = true := by
  cases m
  case lines v stays _ => exact stays k asks up
  case activate p _ _ _ => exact s.activate_up p k up
  all_goals
    simpa [State.setSlot, State.idleNv, State.startLoad, State.withScanned, State.beginPass, State.setStagingRecord,
      State.setStagingHeader, State.pendPartCommit, State.openStaging] using up

/-- What a run of moves keeps of Staging where the links that may ask are UP. -/
structure State.Governed (σ : Scope) (s t : State) : Prop where
  base : t.stagingBase
  boot : t.bootOk
  up : ∀ k, σ.asks k → t.links[k].up = true
  hold : t.staging.hold = s.staging.hold ∨ t.staging.hold = none ∨ ∃ k, σ.asks k ∧ t.staging.hold = some k

theorem Moves.governed (h : Moves σ s t) (base : s.stagingBase) (boot : s.bootOk)
    (up : ∀ k, σ.asks k → s.links[k].up = true) : s.Governed σ t := by
  refine h.keeps (P := s.Governed σ) (fun u v ⟨c, next⟩ hu => ⟨?_, ?_, fun k asks => ?_, ?_⟩) ⟨base, boot, up, .inl rfl⟩
  · exact Machine.of_core State.stagingBase_core next (c.stagingBase hu.up hu.boot hu.base)
  · exact Machine.of_core State.bootOk_core next (c.bootOk hu.boot)
  · rw [State.up_of_core next k]
    exact c.up asks (hu.up k asks)
  · rw [show v.staging.hold = _ from (congrArg (·.staging.hold) next : v.core.staging.hold = _)]
    obtain same | none | taken := c.hold
    · obtain h | h | ⟨k, asks, h⟩ := hu.hold
      · exact .inl (same.trans h)
      · exact .inr (.inl (same.trans h))
      · exact .inr (.inr ⟨k, asks, same.trans h⟩)
    · exact .inr (.inl none)
    · exact .inr (.inr taken)

theorem State.stagingOk_iff (boot : s.bootOk) :
    s.stagingOk ↔ s.stagingBase ∧ ∀ k ∈ s.staging.hold, s.links[k].up = true := by
  refine ⟨fun ⟨owner, commit, copies, restore, pending, up, locked, op⟩ =>
    ⟨⟨owner, commit, copies, restore, pending, locked, op, fun reading => ?_⟩, up⟩,
    fun ⟨⟨owner, commit, copies, restore, pending, locked, op, _⟩, up⟩ =>
      ⟨owner, commit, copies, restore, pending, up, locked, op⟩⟩
  cases held : s.staging.hold with
  | none => rfl
  | some k => cases (up k held).symm.trans (boot.1 (boot.2 reading).1 k)

/-- A run of moves in which UP links alone may ask, and stay UP. -/
theorem Moves.stagingOk (h : Moves σ s t) (asks : ∀ k, σ.asks k ↔ s.links[k].up = true) (boot : s.bootOk)
    (hs : s.stagingOk) : t.stagingOk ∧ t.bootOk := by
  obtain ⟨base, up⟩ := (State.stagingOk_iff boot).1 hs
  have kept := h.governed base boot fun k => (asks k).1
  refine ⟨(State.stagingOk_iff kept.boot).2 ⟨kept.base, fun k held => kept.up k ?_⟩, kept.boot⟩
  obtain same | none | ⟨j, may, taken⟩ := kept.hold
  · exact (asks k).2 (up k (same ▸ held))
  · cases none.symm.trans held
  · cases taken.symm.trans held
    exact may

/-! ### Judgements and commands -/

/-- The laws that a settling keeps together. -/
abbrev State.governedOk (s : State) : Prop := s.wired ∧ s.bootOk ∧ s.stagingOk

/-- The links that are UP may ask. -/
def State.upScope (s : State) (ticks ends : Prop) : Scope := ⟨fun k => s.links[k].up = true, ticks, ends⟩

theorem State.serve_governedOk (w : Claimant) (h : s.governedOk) : (s.serve w).governedOk := by
  obtain ⟨wired, boot, staging⟩ := h
  have moves : Moves (s.upScope False False) s (s.serve w) := s.serve_moves w fun k waits => by
    by_contra down
    obtain ⟨hrx, hwait, -⟩ := (wired k).2.2.2.2.2.2.1 (by simpa [State.upScope] using down)
    exact waits.elim (absurd hrx) (absurd hwait)
  obtain ⟨staging', boot'⟩ := moves.stagingOk (fun _ => Iff.rfl) boot staging
  exact ⟨(s.serve_lawful w wired).wired wired, boot', staging'⟩

theorem State.judgeHead_governedOk (k : LinkId) (h : s.governedOk) : (s.judgeHead k).governedOk := by
  obtain ⟨wired, boot, staging⟩ := h
  have moves : Moves (s.upScope False False) s (s.judgeHead k) := s.judgeHead_moves k fun waits => by
    by_contra down
    exact waits ((wired k).2.2.2.2.2.2.1 (by simpa [State.upScope] using down)).1
  obtain ⟨staging', boot'⟩ := moves.stagingOk (fun _ => Iff.rfl) boot staging
  exact ⟨(s.judgeHead_lawful k wired).wired wired, boot', staging'⟩

theorem settle_governedOk (n : Nat) (ws : List Claimant) (ks : List LinkId) (h : s.governedOk) :
    (settle n ws ks s).governedOk :=
  settle_keeps State.governedOk (fun w _ hu => State.serve_governedOk w hu) (fun k _ hu => State.judgeHead_governedOk k hu)
    n ws ks s h

theorem State.stagingOk_core (s : State) : s.core.stagingOk ↔ s.stagingOk := by
  have up (k : LinkId) : s.core.links[k].up = s.links[k].up := by simp [State.core, Link.line]
  simp only [State.stagingOk, up]
  exact Iff.rfl

theorem State.beginSends_stagingOk (h : s.stagingOk) : s.beginSends.stagingOk :=
  of_core State.stagingOk_core s.beginSends_core h

/-- R129: a link that has gone DOWN holds nothing. -/
theorem State.linkDown_hold (k : LinkId) (s : State) : (s.linkDown k).staging.hold ≠ some k := by
  have released (u : State) : (u.releaseDown k).staging.hold ≠ some k := by
    unfold State.releaseDown
    split
    · rw [State.endHold_staging]
      simp
    · next free => exact free
  unfold State.linkDown
  dsimp only
  split <;> exact released _

theorem State.linkDown_governedOk (k : LinkId) (h : s.governedOk) : (s.linkDown k).governedOk := by
  obtain ⟨wired, boot, staging⟩ := h
  obtain ⟨base, up⟩ := (State.stagingOk_iff boot).1 staging
  let σ : Scope := ⟨fun j => s.links[j].up = true ∧ j ≠ k, False, False⟩
  have moves : Moves σ s (s.linkDown k) := s.linkDown_moves k fun e => e.2 rfl
  have kept := moves.governed base boot fun j e => e.1
  refine ⟨State.linkDown_wired k wired, kept.boot, (State.stagingOk_iff kept.boot).2 ⟨kept.base, fun j held => kept.up j ?_⟩⟩
  obtain same | none | ⟨i, may, taken⟩ := kept.hold
  · exact ⟨up j (same ▸ held), fun e => s.linkDown_hold k (e ▸ held)⟩
  · cases none.symm.trans held
  · cases taken.symm.trans held
    exact may

theorem Executed.stagingOk {c : Instr} (h : Executed s c t) (hs : s.governedOk) : t.stagingOk := by
  obtain ⟨wired, boot, staging⟩ := id hs
  cases h with
  | startUp => exact resetMeetsTheLaws.2.2.1
  | damage b target changed scanned stored =>
    refine State.beginSends_stagingOk ?_
    have seen : (s.passSees b target changed scanned).stagingOk := by
      unfold State.passSees
      split
      · split <;> exact staging
      · exact staging
    have reads (u : State) (hu : u.stagingOk) : (u.storeSees b target changed stored).stagingOk := by
      unfold State.storeSees
      split <;> exact hu
    cases target <;> exact reads _ seen
  | ticked _ _ _ ht =>
    exact (Moves.stagingOk (Moves.of_ticked (σ := s.upScope True False) trivial ht) (fun _ => Iff.rfl) boot staging).1
  | linkDown k =>
    refine State.beginSends_stagingOk (settle_governedOk _ _ _ ?_).2.2
    split
    · exact State.linkDown_governedOk k hs
    · have peer : (s.modLink k fun l => { l with peer := false }).core = s.core := s.modLink_core k _ rfl
      exact ⟨State.modLink_wired (f := fun l => { l with peer := false }) (wired k) wired,
        of_core State.bootOk_core peer boot, of_core State.stagingOk_core peer staging⟩
  | acted _ _ _ ht =>
    cases ht with
    | direct t moves => exact (Moves.stagingOk (moves (s.upScope False True) fun _ => trivial) (fun _ => Iff.rfl) boot staging).1
    | settled u n ws ks moves lawful =>
      obtain ⟨staging', boot'⟩ := Moves.stagingOk (moves (s.upScope False True) fun _ => trivial) (fun _ => Iff.rfl) boot staging
      exact State.beginSends_stagingOk (settle_governedOk n ws ks ⟨lawful.wired wired, boot', staging'⟩).2.2

/-- Settles O7, move by move, with the links that are UP. -/
theorem stepKeepsStagingLaws : Obligations.StepKeepsStagingLaws := by
  intro s t links staging h
  unfold step at h
  split at h
  · cases h; exact staging
  · exact (exec_executed h).stagingOk ⟨links.1, links.2, staging⟩

end Sys2Proof.Machine
end

section
/-! The bytes of messages (R184, R187, R188): what a link reads from the bytes of a message is that message, and a row that
names one request is its arrival. -/

namespace Sys2Proof.Machine

variable {s t : State} {k : LinkId} {head payload : List Byte}

/-! ### Little-endian bytes -/

@[simp] theorem length_leBytes (n v : Nat) : (leBytes n v).length = n := by
  induction n generalizing v with
  | zero => rfl
  | succ n ih => rw [leBytes, List.length_cons, ih]

theorem leNat_leBytes (n v : Nat) : leNat (leBytes n v) = v % 256 ^ n := by
  induction n generalizing v with
  | zero => simp [leBytes, leNat, Nat.mod_one]
  | succ n ih =>
    have low : (BitVec.ofNat 8 v).toNat = v % 256 := BitVec.toNat_ofNat v 8
    rw [leBytes, leNat, ih, low, Nat.pow_succ' (n := n), Nat.mod_mul]

/-- A field that stands between two pieces of a list of bytes. -/
theorem field_between (pre mid post : List Byte) : field (pre ++ mid ++ post) pre.length mid.length = leNat mid := by
  simp [field]

/-! ### Sealed messages -/

/-- R184: the CRC-16 that a message carries. -/
def sealBytes (head payload : List Byte) : List Byte := leBytes 2 (crc16 (head ++ payload)).toNat

theorem sealMessage_eq (head payload : List Byte) : sealMessage head payload = head ++ sealBytes head payload ++ payload := rfl

theorem field_seal (h : head.length = 14) {a n : Nat} (ha : a + n ≤ 14) :
    field (sealMessage head payload) a n = field head a n := by
  have within : n ≤ (head.drop a).length := by rw [List.length_drop]; omega
  rw [field, field, sealMessage_eq, List.append_assoc, List.drop_append_of_le_length (by omega),
    List.take_append_of_le_length within]

theorem byteAt_seal (h : head.length = 14) {a : Nat} (ha : a < 14) : byteAt (sealMessage head payload) a = byteAt head a := by
  rw [byteAt, byteAt, sealMessage_eq, List.append_assoc, List.getElem?_append_left (by omega)]

theorem drop_seal (h : head.length = 14) : (sealMessage head payload).drop 16 = payload := by
  have length : (head ++ sealBytes head payload).length = 16 := by simp [sealBytes, h]
  rw [sealMessage_eq, List.drop_append_of_le_length length.ge, List.drop_eq_nil_of_le length.le, List.nil_append]

theorem take_seal (h : head.length = 14) : (sealMessage head payload).take 14 = head := by
  rw [sealMessage_eq, List.append_assoc, List.take_append_of_le_length h.ge, List.take_of_length_le h.le]

/-- R184: the line layer accepts a sealed message whose length field is that of its payload. -/
theorem lineAccepts_seal (h : head.length = 14) (length : field head 8 2 = payload.length) (short : payload.length ≤ 256) :
    lineAccepts (sealMessage head payload) = true := by
  have crc : field (sealMessage head payload) 14 2 = (crc16 (head ++ payload)).toNat := by
    have between := field_between head (sealBytes head payload) payload
    rw [h, sealBytes, length_leBytes, leNat_leBytes] at between
    rw [sealMessage_eq, sealBytes, between]
    exact Nat.mod_eq_of_lt (crc16 (head ++ payload)).isLt
  have whole : (sealMessage head payload).length = 16 + payload.length := by
    simp [sealMessage_eq, sealBytes, h]
    omega
  simp only [lineAccepts, payloadLength, messageCrc, field_seal h (show 8 + 2 ≤ 14 by decide), length, take_seal h, drop_seal h,
    crc, whole]
  simp [short]

theorem readArrival_seal (h : head.length = 14) (length : field head 8 2 = payload.length) (short : payload.length ≤ 256) :
    readArrival (sealMessage head payload) = readMessage (sealMessage head payload) :=
  if_pos (lineAccepts_seal h length short)

/-! ### The fields of the four requests -/

theorem ofNat_leNat_word32Bytes (w : Word32) : BitVec.ofNat 32 (leNat (word32Bytes w)) = w := by
  rw [word32Bytes, leNat_leBytes, Nat.mod_eq_of_lt (show w.toNat < 256 ^ 4 from w.isLt), BitVec.ofNat_toNat,
    BitVec.setWidth_eq]

/-- R184: header bytes 0 … 13: four bytes, a word, and three fields of two bytes. -/
def messageHead (a b c d : Byte) (word : List Byte) (n m : Nat) : List Byte :=
  [a, b, c, d] ++ word ++ leBytes 2 n ++ leBytes 2 m ++ leBytes 2 0

section
variable {a b c d : Byte} {word : List Byte} {n m : Nat}

theorem messageHead_length (h : word.length = 4) : (messageHead a b c d word n m).length = 14 := by
  simp [messageHead, h]

theorem messageHead_word (h : word.length = 4) : field (messageHead a b c d word n m) 4 4 = leNat word := by
  have between := field_between [a, b, c, d] word (leBytes 2 n ++ leBytes 2 m ++ leBytes 2 0)
  simpa [messageHead, h] using between

theorem messageHead_payloadLength (h : word.length = 4) :
    field (messageHead a b c d word n m) 8 2 = n % 65536 := by
  have between := field_between ([a, b, c, d] ++ word) (leBytes 2 n) (leBytes 2 m ++ leBytes 2 0)
  simpa [messageHead, h, leNat_leBytes] using between

theorem messageHead_readLength (h : word.length = 4) : field (messageHead a b c d word n m) 10 2 = m % 65536 := by
  have between := field_between ([a, b, c, d] ++ word ++ leBytes 2 n) (leBytes 2 m) (leBytes 2 0)
  simpa [messageHead, h, leNat_leBytes] using between

/-- What is read of a sealed message, field by field. -/
theorem readArrival_head (h : word.length = 4) (n : payload.length ≤ 256) :
    let bs := sealMessage (messageHead a b c d word payload.length m) payload
    readArrival bs = readMessage bs ∧ bs.drop 16 = payload ∧ byteAt bs 0 = a ∧ byteAt bs 1 = b ∧ byteAt bs 2 = c ∧
      byteAt bs 3 = d ∧ field bs 4 4 = leNat word ∧ field bs 10 2 = m % 65536 := by
  have length := messageHead_length (a := a) (b := b) (c := c) (d := d) (n := payload.length) (m := m) h
  refine ⟨readArrival_seal length ?_ n, drop_seal length, ?_, ?_, ?_, ?_, ?_, ?_⟩
  · rw [messageHead_payloadLength h, Nat.mod_eq_of_lt (by omega)]
  · rw [byteAt_seal length (by decide)]; rfl
  · rw [byteAt_seal length (by decide)]; rfl
  · rw [byteAt_seal length (by decide)]; rfl
  · rw [byteAt_seal length (by decide)]; rfl
  · rw [field_seal length (by decide), messageHead_word h]
  · rw [field_seal length (by decide), messageHead_readLength h]

end

theorem readArrival_write (region channel : Byte) (offset : Word32) (payload : List Byte) (h : payload.length ≤ 256) :
    readArrival (Msg.write region channel offset payload).bytes = .msg (.write region channel offset payload) := by
  obtain ⟨read, drop, kind, -, r, c, word, -⟩ := readArrival_head (a := kindWrite) (b := 0) (c := region) (d := channel)
    (word := word32Bytes offset) (m := 0) rfl h
  refine read.trans ?_
  simp only [readMessage, drop, kind, r, c, word, ofNat_leNat_word32Bytes, if_true]

theorem readArrival_clear (set : BitVec 32) : readArrival (Msg.clear set).bytes = .msg (.clear set) := by
  obtain ⟨read, drop, kind, -, -, -, word, -⟩ := readArrival_head (a := kindClear) (b := 0) (c := 0) (d := 0)
    (word := word32Bytes set) (payload := []) (m := 0) rfl (by simp)
  refine read.trans ?_
  simp only [readMessage, drop, kind, word, ofNat_leNat_word32Bytes, if_true]
  rfl

theorem readArrival_read (tag region channel : Byte) (offset : Word32) (length : BitVec 16) :
    readArrival (Msg.read tag region channel offset length).bytes = .msg (.read tag region channel offset length) := by
  obtain ⟨read, drop, kind, t, r, c, word, len⟩ := readArrival_head (a := kindRead) (b := tag) (c := region) (d := channel)
    (word := word32Bytes offset) (payload := []) (m := length.toNat) rfl (by simp)
  rw [Nat.mod_eq_of_lt length.isLt] at len
  refine read.trans ?_
  simp only [readMessage, drop, kind, t, r, c, word, len, ofNat_leNat_word32Bytes, BitVec.ofNat_toNat, BitVec.setWidth_eq,
    if_true]
  rfl

theorem readArrival_command (tag code : Byte) (params : List Byte) (h : params.length ≤ 16) :
    readArrival (Msg.command tag code params).bytes = .msg (.command tag code params) := by
  obtain ⟨read, drop, kind, t, c, -, -, -⟩ := readArrival_head (a := kindCommand) (b := tag) (c := code) (d := 0)
    (word := leBytes 4 0) (m := 0) rfl (show params.length ≤ 256 by omega)
  refine read.trans ?_
  simp only [readMessage, drop, kind, t, c, h, if_true]
  rfl

/-- R198: the bytes of a CREDIT from the master. -/
theorem readArrival_credit (grant : Byte) :
    readArrival (sealMessage [kindCredit, 0, 0, 0, grant, 0, 0, 0, 0, 0, 0, 0, 0, 0] []) = .credit grant := by
  obtain ⟨read, drop, kind, -⟩ := readArrival_head (a := kindCredit) (b := 0) (c := 0) (d := 0)
    (word := [grant, 0, 0, 0]) (payload := []) (m := 0) rfl (by simp)
  refine read.trans ?_
  simp only [readMessage, drop, kind, if_true]
  rfl

/-- Settles O16, kind by kind. -/
theorem messagesReadBack : Obligations.MessagesReadBack :=
  ⟨readArrival_write, readArrival_clear, readArrival_read, readArrival_command⟩

/-- R187: a well-formed row's message, read from its bytes, is the row's form. -/
theorem formOf_bytes_write {region channel : Byte} {offset : Word32} {payload : List Byte} (h : payload.length ≤ 256) :
    formOf (.write region channel offset payload) = readArrival (Msg.write region channel offset payload).bytes := by
  rw [readArrival_write _ _ _ _ h]
  exact if_pos h

theorem formOf_bytes_command {tag code : Byte} {params : List Byte} (h : params.length ≤ 16) :
    formOf (.command tag code params) = readArrival (Msg.command tag code params).bytes := by
  rw [readArrival_command _ _ _ h]
  exact if_pos h

/-- Settles O15: each row's message has the row's form. -/
theorem namedRequestsAreArrivals : Obligations.NamedRequestsAreArrivals := by
  refine ⟨fun c s k m request formed => ?_, fun k grant s => ?_⟩
  · have row {a : Arrival} {m : Msg} (h : a = readArrival m.bytes) :
        Host.Outcome.next (s.receive k a) = exec (.messageArrival k m.bytes) s := 
          congrArg (fun a => (Host.Outcome.next (s.receive k a) : Host.Outcome State Fault Refusal)) h
    cases c with
    | stagingRecordWrite | stagingHeaderWrite | setupWrite =>
      cases request
      exact row (formOf_bytes_write (of_decide_eq_true formed))
    | write =>
      cases request
      exact row (formOf_bytes_write (of_decide_eq_true (Bool.and_eq_true_iff.1 formed).2))
    | stagingRead => cases request; exact row (readArrival_read _ _ _ _ _).symm
    | clear => cases request; exact row (readArrival_clear _).symm
    | holdAcquire | holdRelease | holdBreak | commit | commitCancel | showLock | showUnlock | channelMode | barrierLimit
    | presetStore | presetLoad | presetErase | setupStore | eventEnable =>
      cases request
      exact row (formOf_bytes_command (of_decide_eq_true formed))
    | _ => cases request
  · exact congrArg (fun a => (Host.Outcome.next (s.receive k a) : Host.Outcome State Fault Refusal))
      (readArrival_credit grant).symm

end Sys2Proof.Machine
end

section
/-! SUPPORT. Arrivals that no queue takes, the credit checks, and what a link sends (R184 to R188, R191, R192, R195 to R199,
R205 to R209). -/

namespace Sys2Proof.Machine

variable {s t : State} {k : LinkId}

/-! ### Arrivals that call for no judgement -/

theorem State.modLink_congr {f g : Link → Link} (h : f s.links[k] = g s.links[k]) : s.modLink k f = s.modLink k g :=
  congrArg (fun l => { s with links := s.links.set k l }) h

theorem sends_congr (h : s = t) :
    (.next s.beginSends : Host.Outcome State Fault Refusal) = .next t.beginSends := h ▸ rfl

theorem claimants_of_same (h : t.staging.state = s.staging.state) (hn : t.preset.nv = s.preset.nv)
    (hs : t.scanner = s.scanner) : claimants s t [] = [] :=
  claimants_same s t h hn (by unfold State.canRepair State.isOpen State.nvIdle; rw [h, hn, hs]) []

/-- A change of the links alone that brings no head to a queue settles at once. -/
theorem settled_of_links (v : Vector Link 4) (h : heads s { s with links := v } = []) :
    s.settled { s with links := v } = State.beginSends { s with links := v } :=
  settled_quiet _ _ (claimants_of_same rfl rfl rfl) h

/-- A change of one link that keeps its receive queue, or adds behind its head, settles at once. -/
theorem settled_modLink (f : Link → Link)
    (h : (f s.links[k]).rx = s.links[k].rx ∨ s.links[k].rx ≠ [] ∧ s.links[k].rx <+: (f s.links[k]).rx) :
    s.settled (s.modLink k f) = (s.modLink k f).beginSends := by
  refine settled_of_links _ ?_
  change heads s (s.modLink k f) = []
  refine List.filter_eq_nil_iff.2 fun j _ => ?_
  have hold : holdEnded s (s.modLink k f) j = false := by
    unfold holdEnded
    by_cases hj : s.staging.hold = some j <;> simp [hj]
  rw [hold]
  by_cases hj : j = k
  · subst hj
    rw [State.modLink_links_same]
    rcases h with h | ⟨ne, pre⟩
    · rw [h]
      cases s.links[j].rx <;> simp
    · have := pre.length_le
      simp [List.isEmpty_iff, ne, -Fin.getElem_fin, Nat.not_lt.2 this]
  · rw [State.modLink_links_ne _ _ _ _ hj]
    cases s.links[j].rx <;> simp

theorem receive_down (a : Arrival) (h : s.links[k].up = false) : s.receive k a = s.beginSends := by
  unfold State.receive State.arrive
  rw [h]
  exact settled_quiet _ _ (claimants_refl _ _) (heads_refl _)

theorem receive_line (h : s.links[k].up = true) : s.receive k .lineDiscard = (s.raiseOn k .line).beginSends := by
  unfold State.receive State.arrive
  rw [if_pos h]
  exact settled_modLink _ (.inl (by simp))

theorem settled_protocolFault (reason : FaultReason) (kind : Byte) :
    s.settled (s.protocolFault k reason kind) = (s.protocolFault k reason kind).beginSends := by
  unfold State.protocolFault State.raiseOn
  rw [State.modLink_modLink]
  exact settled_modLink _ (.inl (by simp [Link.recordFault]))

theorem receive_badForm (reason : FaultReason) (kind : Byte) (h : s.links[k].up = true) :
    s.receive k (.badForm reason kind) = (s.protocolFault k reason kind).beginSends := by
  unfold State.receive State.arrive
  rw [if_pos h]
  exact settled_protocolFault _ _

theorem receive_msg (m : Msg) (h : s.links[k].up = true) : s.receive k (.msg m) = s.settled (s.takeIn k m) := by
  unfold State.receive State.arrive
  rw [if_pos h]

/-! ### The form of an arrival -/

theorem lineAccepts_iff (bs : List Byte) : lineAccepts bs = true ↔
    16 ≤ bs.length ∧ field bs 8 2 ≤ 256 ∧ bs.length = 16 + field bs 8 2 ∧
      (crc16 (bs.take 14 ++ bs.drop 16)).toNat = field bs 14 2 := by
  simp only [lineAccepts, Bool.and_eq_true, decide_eq_true_eq, and_assoc]
  rfl

theorem readMessage_unknown {bs : List Byte} (h : byteAt bs 0 ∉ ([1, 2, 3, 4, 5] : List Byte)) :
    readMessage bs = .badForm .kind (byteAt bs 0) := by
  simp only [List.mem_cons, List.not_mem_nil, or_false, not_or] at h
  obtain ⟨h1, h2, h3, h4, h5⟩ := h
  exact (if_neg h1).trans ((if_neg h2).trans ((if_neg h3).trans ((if_neg h4).trans (if_neg h5))))

theorem readMessage_empty {bs : List Byte} (h : byteAt bs 0 ∈ ([2, 3, 5] : List Byte)) (hp : bs.drop 16 ≠ []) :
    readMessage bs = .badForm .length (byteAt bs 0) := by
  simp only [List.mem_cons, List.not_mem_nil, or_false] at h
  rcases h with h | h | h <;> simp only [readMessage, h, if_neg hp] <;> rfl

theorem readMessage_command {bs : List Byte} (h : byteAt bs 0 = 4) (hp : 16 < (bs.drop 16).length) :
    readMessage bs = .badForm .length (byteAt bs 0) := by
  simp only [readMessage, kindWrite, kindClear, kindRead, kindCommand, h, if_neg (Nat.not_le.2 hp)]
  rfl

/-- Settles O17: an UP link's arrival is a line fault or, by its form, a protocol fault. -/
theorem discardedMessages : Obligations.DiscardedMessages := by
  intro s k bytes n sound fault
  have arrival : sound → readArrival bytes = readMessage bytes := fun h => if_pos ((lineAccepts_iff bytes).2 h)
  have refused (reason : FaultReason) (up : s.links[k].up = true) (h : sound)
      (read : readMessage bytes = .badForm reason (byteAt bytes 0)) : fault reason := by
    change Host.Outcome.next (s.receive k (readArrival bytes)) = _
    rw [arrival h, read, receive_badForm _ _ up]
    rfl
  have payload (h : sound) : (bytes.drop 16).length = n := by
    obtain ⟨-, -, length, -⟩ := h
    rw [List.length_drop]
    omega
  refine ⟨fun down => ?_, fun up bad => ?_, fun up h kind => refused _ up h (readMessage_unknown kind),
    fun up h kind ne => refused _ up h (readMessage_empty kind fun nil => ne ?_),
    fun up h kind long => refused _ up h (readMessage_command kind (by rwa [payload h]))⟩
  · exact congrArg Host.Outcome.next (receive_down _ down)
  · have : readArrival bytes = .lineDiscard := if_neg (by rw [lineAccepts_iff]; exact bad)
    change Host.Outcome.next (s.receive k (readArrival bytes)) = _
    rw [this, receive_line up]
  · rw [← payload h, nil]
    rfl

/-! ### The credit checks -/

theorem holdPosted_rx (m : Msg) (l : Link) : (l.holdPosted m).rx = l.rx ++ [m] := rfl

/-- Settles O18, by the tests of R191 and R192 in their order. -/
theorem arrivalsPassTheCreditChecks : Obligations.ArrivalsPassTheCreditChecks := by
  constructor
  · intro region channel offset payload set cost
    have : cost = 1 + (payload.length + 15) / 16 := rfl
    refine ⟨by omega, by omega, by omega, rfl⟩
  · intro s k bytes m read up l fault
    have arrives {t : State} (taken : s.takeIn k m = t) (settles : s.settled t = t.beginSends) :
        exec (.messageArrival k bytes) s = .next t.beginSends := by
      change Host.Outcome.next (s.receive k (readArrival bytes)) = _
      rw [read, receive_msg _ up, taken, settles]
    have faults {reason : FaultReason} (taken : s.takeIn k m = s.protocolFault k reason m.kindCode) : fault reason :=
      arrives taken (settled_protocolFault _ _)
    refine ⟨fun posted short => faults ?_, fun posted units behind => arrives (t := s.modLink k (Link.holdPosted m)) ?_ ?_,
      fun tag request => ⟨fun full => faults ?_, fun room used => faults ?_,
        fun room free behind => arrives (t := s.modLink k (Link.holdRequest tag m)) ?_ ?_⟩⟩
    · simp only [State.takeIn, posted]
      exact if_pos short
    · simp only [State.takeIn, posted]
      exact if_neg (Nat.not_lt.2 units)
    · exact settled_modLink _ (.inr ⟨behind, List.prefix_append _ _⟩)
    · simp only [State.takeIn, request]
      exact if_pos full
    · simp only [State.takeIn, request]
      exact (if_neg (Nat.not_le.2 room)).trans (if_pos used)
    · simp only [State.takeIn, request]
      exact (if_neg (Nat.not_le.2 room)).trans (if_neg free)
    · exact settled_modLink _ (.inr ⟨behind, List.prefix_append _ _⟩)

/-! ### Notices -/

/-- R207 with the conditions written out. -/
theorem Link.testNotice_eq {l : Link} (up : l.up = true) : l.testNotice =
    if l.enabled &&& l.pending &&& ~~~l.notified ≠ 0 ∧ 1 ≤ l.noticeCredit then
      { l with
        notified := l.notified ||| (l.enabled &&& l.pending)
        noticeCredit := l.noticeCredit - 1
        sendQ := l.sendQ ++ [.notice (l.enabled &&& l.pending)] }
    else l := by
  unfold Link.testNotice Link.wantsNotice
  simp [up]

/-- Settles O21: the grant is added and a notice tested, or the CREDIT is a protocol fault. -/
theorem creditAddsNoticeCredit : Obligations.CreditAddsNoticeCredit := by
  intro s k grant up
  have arrived : exec (.credit k grant) s = .next (s.settled (s.takeCredit k grant)) := by
    change Host.Outcome.next (s.settled (s.arrive k (.credit grant))) = _
    unfold State.arrive
    rw [if_pos up]
  constructor
  · intro beyond
    have : s.takeCredit k grant = s.protocolFault k .noticeCredit kindCredit := if_pos beyond
    rw [arrived, this, settled_protocolFault]
    rfl
  · intro fits l l'
    have : s.takeCredit k grant = s.modLink k fun l => { l with noticeCredit := l.noticeCredit + grant.toNat }.testNotice :=
      if_neg (Nat.not_lt.2 fits)
    rw [arrived, this, settled_modLink _ (.inl (by simp))]
    exact sends_congr (State.modLink_congr (Link.testNotice_eq (l := l') up))

/-! ### Commands taken as they arrive -/

@[simp] theorem State.asked_timebase (tag : Byte) : (s.asked k tag).timebase = s.timebase := rfl
@[simp] theorem State.asked_barrier (tag : Byte) : (s.asked k tag).barrier = s.barrier := rfl
@[simp] theorem State.asked_pipes (tag : Byte) : (s.asked k tag).pipes = s.pipes := rfl
@[simp] theorem State.asked_banks (tag : Byte) : (s.asked k tag).banks = s.banks := rfl
@[simp] theorem State.asked_staging (tag : Byte) : (s.asked k tag).staging = s.staging := rfl
@[simp] theorem State.asked_scanner (tag : Byte) : (s.asked k tag).scanner = s.scanner := rfl
@[simp] theorem State.asked_preset (tag : Byte) : (s.asked k tag).preset = s.preset := rfl
@[simp] theorem State.asked_flash (tag : Byte) : (s.asked k tag).flash = s.flash := rfl

theorem State.asked_link (tag : Byte) :
    (s.asked k tag).links[k] = { s.links[k] with outstanding := s.links[k].outstanding ++ [tag] } :=
  s.modLink_links_same k _

@[simp] theorem State.asked_rx (tag : Byte) (j : LinkId) : (s.asked k tag).links[j].rx = s.links[j].rx := by
  unfold State.asked
  rw [State.modLink_links_get]
  split
  · next h => rw [← h]
  · rfl

@[simp] theorem State.asked_roles (tag : Byte) (j : LinkId) : (s.asked k tag).links[j].roles = s.links[j].roles := by
  unfold State.asked
  rw [State.modLink_links_get]
  split
  · next h => rw [← h]
  · rfl

variable {tag code : Byte} {roles : BitVec 3} {ps : List Byte} {u : State}

/-- A COMMAND that its owner takes at once to `u`, with every receive queue as it was and nothing new to serve. -/
theorem receiveCommand_taken (h : s.takes k tag roles ps) (hr : commandRoles code = some roles)
    (taken : takeCommand k tag code ps (s.asked k tag) = u) (rx : ∀ j : LinkId, u.links[j].rx = s.links[j].rx)
    (none : claimants s u [] = []) : s.receiveCommand k tag code ps = u.beginSends := by
  obtain ⟨calm, ask, short, permitted⟩ := h
  exact receiveCommand_calm s u k tag code ps calm ask short roles hr permitted taken
    (fun j => (rx j).trans (calm.2 j)) none

/-- A COMMAND that its owner answers at once, with nothing else done. -/
theorem receiveCommand_replied {st : Status} {bytes : List Byte} (h : s.takes k tag roles ps)
    (hr : commandRoles code = some roles)
    (taken : takeCommand k tag code ps (s.asked k tag) = (s.asked k tag).complete k tag st bytes) :
    s.receiveCommand k tag code ps = (s.asked k tag).reply k tag st bytes := by
  refine receiveCommand_taken h hr taken (fun j => by simp [-Fin.getElem_fin]) (claimants_of_same ?_ ?_ ?_) <;> simp

/-! ### CLEAR and EVENT_ENABLE -/

/-- R209: a CLEAR that stands alone in its queue. -/
theorem judgeHead_clear (set : BitVec 32) (calm : s.calm) :
    (s.modLink k (Link.holdPosted (.clear set))).judgeHead k =
      (s.modLink k (Link.clearKinds set)).returned k (.clear set) := by
  have head : (s.modLink k (Link.holdPosted (.clear set))).links[k].rx = [.clear set] := by
    rw [State.modLink_links_same, holdPosted_rx, calm.2 k]
    rfl
  unfold State.judgeHead
  rw [head]
  dsimp only
  unfold State.leaveHead State.returned
  rw [State.unwait_none _ _ (by simp [calm.1])]
  simp only [State.modLink_modLink]
  refine State.modLink_congr ?_
  exact Link.hold_leave (s.links[k].clearKinds set) (.clear set) (calm.2 k)

theorem exec_clear (set : BitVec 32) (calm : s.calm) (post : s.canPost k (.clear set)) :
    exec (.clear k set) s = .next ((s.modLink k (Link.clearKinds set)).returned k (.clear set)).beginSends := by
  refine congrArg Host.Outcome.next (receive_posted_calm s _ k _ rfl calm post (judgeHead_clear set calm) ?_ ?_)
  · exact claimants_calm _ _ calm.1
  · refine heads_empty _ _ fun j => ?_
    unfold State.returned
    rw [State.modLink_modLink, State.modLink_links_get]
    split
    · next h => rw [Link.returnCredit_rx]; exact calm.2 k
    · exact calm.2 j

/-- R208: an EVENT_ENABLE with an event set. -/
theorem takeEventEnable_some {e : KindSet} (h : eventSetParam ps = some e) (calm : s.staging.waiting = []) :
    takeEventEnable k tag ps s = s.modLink k fun l =>
      (Link.complete tag .success 0 (leBytes 4 l.pending.toNat) { l with enabled := e }).testNotice := by
  unfold takeEventEnable
  rw [h]
  dsimp only
  rw [State.complete_calm _ _ _ _ _ (by exact calm)]
  simp only [State.modLink_modLink, State.modLink_links_same]
  exact State.modLink_congr rfl

theorem eventSetParam_four (b0 b1 b2 b3 : Byte) (rest : List Byte) :
    eventSetParam (b0 :: b1 :: b2 :: b3 :: rest) = some (BitVec.ofNat 11 (b0.toNat + 256 * b1.toNat)) := by
  have : ¬ (b0 :: b1 :: b2 :: b3 :: rest).length < 4 := by simp
  unfold eventSetParam
  rw [if_neg this]
  refine congrArg some (BitVec.eq_of_toNat_eq ?_)
  have : field (b0 :: b1 :: b2 :: b3 :: rest) 0 4 = b0.toNat + 256 * (b1.toNat + 256 * (b2.toNat + 256 * b3.toNat)) := rfl
  simp only [this, BitVec.toNat_ofNat]
  omega

/-- Settles O22. -/
theorem clearAndEventEnableChangeTheSets : Obligations.ClearAndEventEnableChangeTheSets := by
  refine ⟨fun s k set calm post => exec_clear set calm post, fun s k tag ps takes => ⟨fun short => ?_, ?_⟩⟩
  · refine congrArg Host.Outcome.next (receiveCommand_replied takes rfl ?_)
    have : eventSetParam ps = none := if_pos short
    change takeEventEnable k tag ps _ = _
    unfold takeEventEnable
    rw [this]
  · rintro b0 b1 b2 b3 rest rfl l on l'
    have up : l'.up = true := takes.2.1.1
    have taken : takeCommand k tag 0x0E (b0 :: b1 :: b2 :: b3 :: rest) (s.asked k tag) =
        s.modLink k fun _ => l'.testNotice := by
      refine (takeEventEnable_some (s := s.asked k tag) (eventSetParam_four b0 b1 b2 b3 rest) takes.1.1).trans ?_
      unfold State.asked
      rw [State.modLink_modLink]
      refine State.modLink_congr (congrArg Link.testNotice ?_)
      exact Link.complete_when_up _ _ _ _ _ up
    refine (congrArg Host.Outcome.next (receiveCommand_taken takes rfl taken (fun j => ?_)
      (claimants_of_same rfl rfl rfl))).trans (sends_congr (State.modLink_congr (Link.testNotice_eq up)))
    rw [State.modLink_links_get]
    split
    · next h => subst h; exact Link.testNotice_rx _
    · rfl

/-! ### Sending -/

theorem Link.beginMessage_other {l : Link} {m : OutMsg} {rest : List OutMsg} (h : m ≠ .creditOpen) :
    l.beginMessage m rest = { l with sendQ := rest, sending := some m } := by
  cases m with
  | creditOpen => exact absurd rfl h
  | _ => rfl

theorem Link.returnCredit_sendQ (l : Link) : l.returnCredit.sendQ =
    if l.unitsReturn + l.countsReturn = 0 ∨ .creditOpen ∈ l.sendQ then l.sendQ else l.sendQ ++ [.creditOpen] := by
  have : (l.unitsReturn = 0 ∧ l.countsReturn = 0) ↔ l.unitsReturn + l.countsReturn = 0 := by omega
  unfold Link.returnCredit
  simp only [this]
  split <;> rfl

theorem Link.returnCredit_eq {l : Link} (h : l.countsReturn ≠ 0) : l.returnCredit =
    { l with sendQ := if .creditOpen ∈ l.sendQ then l.sendQ else l.sendQ ++ [.creditOpen] } := by
  unfold Link.returnCredit
  by_cases waits : .creditOpen ∈ l.sendQ <;> simp [waits, h]

/-- Settles O23. -/
theorem completionsAreSent : Obligations.CompletionsAreSent := by
  refine ⟨fun l tag status offset content up => ⟨l.complete_when_up _ _ _ _ up, l.returnCredit_sendQ,
    fun idle m rest queue => ⟨fun other => ?_, ?_⟩, fun busy => l.beginSend_idle (.inr busy)⟩, fun s k => ⟨?_, ?_, ?_⟩⟩
  · rw [l.beginSend_head m rest up idle queue, Link.beginMessage_other other]
  · rintro rfl
    exact l.beginSend_head _ rest up idle queue
  · intro tag status offset payload rest sending more
    refine sends_congr (State.modLink_congr ?_)
    unfold Link.sent
    rw [sending]
    exact if_neg more
  · intro tag status offset payload sending
    refine sends_congr (State.modLink_congr ?_)
    unfold Link.sent
    rw [sending]
    exact (if_pos rfl).trans (Link.returnCredit_eq (Nat.succ_ne_zero _))
  · intro m sending other
    refine sends_congr (State.modLink_congr ?_)
    unfold Link.sent
    rw [sending]
    cases m with
    | completion tag status offset payload rest => exact absurd rfl (other tag status offset payload rest)
    | _ => rfl

/-- Settles O24. -/
theorem linkUpStartsEmpty : Obligations.LinkUpStartsEmpty := by
  intro s k l
  have run : exec (.linkUp k) s = .next (if s.preset.bootOutcome.isSome then
      (s.modLink k fun l => { l with peer := true }).modLink k Link.tryUp else
      s.modLink k fun l => { l with peer := true }).beginSends := rfl
  constructor
  · rintro ⟨boot, down, share⟩
    rw [run, if_pos boot, State.modLink_modLink]
    refine sends_congr (State.modLink_congr ?_)
    unfold Link.tryUp
    exact if_pos (by simpa [l] using And.intro down share)
  · intro other
    rw [run]
    split
    · next boot =>
      rw [State.modLink_modLink]
      refine sends_congr (State.modLink_congr ?_)
      unfold Link.tryUp
      exact if_neg fun up => other ⟨boot, by simpa [l] using up⟩
    · rfl

end Sys2Proof.Machine
end

section
/-! SUPPORT. A link going DOWN (R186): what it loses, and what the blocks that hold state for it drop. -/

namespace Sys2Proof.Machine

variable {s : State} {k : LinkId}

/-- What a link that has gone DOWN sends, raises and completes is nothing. -/
theorem Link.beginSend_down {l : Link} (h : l.up = false) : l.beginSend = l := l.beginSend_idle (.inl h)

theorem Link.raise_down {l : Link} (h : l.up = false) (e : EventKind) :
    l.raise e = { l with pending := l.pending ||| e.bit } := by
  unfold Link.raise
  split
  · next already =>
    have same := l.raise_pending e
    rw [l.raise_pending_already e already] at same
    rw [← same]
  · exact Link.testNotice_when_down _ h

theorem modLink_id {f : Link → Link} (h : f s.links[k] = s.links[k]) : s.modLink k f = s := by
  unfold State.modLink
  rw [h]
  exact congrArg (fun v => { s with links := v }) (Vector.set_getElem_self _)

/-- R127: a commit of a DOWN link is cancelled without a completion. -/
theorem cancelCommit_down (down : s.links[k].up = false) (waiting : s.staging.waiting = []) {p : PendingCommit}
    (hp : s.staging.commit = some p) (holder : p.owner.holds (some k) = true) :
    s.cancelCommit = { s with staging := { s.staging with commit := none, state := .openState, owner := none } } := by
  unfold State.cancelCommit
  rw [hp]
  dsimp only
  cases owner : p.owner with
  | part => rfl
  | link j tag =>
    rw [owner] at holder
    obtain rfl : k = j := by simpa [CommitOwner.holds] using holder
    dsimp only
    rw [State.complete_calm _ _ _ _ _ waiting, modLink_id (Link.complete_when_down _ _ _ _ _ down)]
    rfl

/-- R129: the state after the hold of a DOWN link has been released. -/
def State.released (s : State) : State :=
  State.raise .holdOwner { s with
    staging := { s.staging with
      hold := none
      commit := none
      state := if s.staging.state = .commitPending then .openState else s.staging.state
      owner := if s.staging.state = .commitPending then none else s.staging.owner } }

theorem releaseDown_held (held : s.staging.hold = some k) (down : s.links[k].up = false)
    (waiting : s.staging.waiting = []) (pending : s.staging.commit.isSome ↔ s.staging.state = .commitPending)
    (holder : ∀ p ∈ s.staging.commit, p.owner.holds (some k) = true) : s.releaseDown k = s.released := by
  unfold State.releaseDown State.endHold State.released
  rw [if_pos held]
  by_cases commit : s.staging.state = .commitPending
  · obtain ⟨p, hp⟩ := Option.isSome_iff_exists.1 (pending.2 commit)
    rw [if_pos commit, cancelCommit_down down waiting hp (holder p hp)]
    simp only [commit, if_true]
    rfl
  · have absent : s.staging.commit = none := Option.not_isSome_iff_eq_none.1 fun some => commit (pending.1 some)
    simp only [commit, if_false, ← absent]
    rfl

theorem releaseDown_free (free : s.staging.hold ≠ some k) : s.releaseDown k = s := if_neg free

/-- The state of link `k` gone DOWN, before the loss is handed on. -/
def State.downed (k : LinkId) (s : State) : State := (s.modLink k Link.goDown).forgetClaims k

theorem downed_link : (s.downed k).links[k] = s.links[k].goDown := s.modLink_links_same k _

theorem downed_other {j : LinkId} (h : j ≠ k) : (s.downed k).links[j] = s.links[j] := s.modLink_links_ne k j _ h

/-- With nothing waiting but on the link itself, nothing waits when it has gone. -/
theorem downed_staging (own : ∀ w ∈ s.staging.waiting, w.link? = some k) :
    (s.downed k).staging = { s.staging with waiting := [] } := by
  have : s.staging.waiting.filter (fun w => w.link? ≠ some k) = [] := List.filter_eq_nil_iff.2 fun w hw => by simp [own w hw]
  exact congrArg (fun ws => { s.staging with waiting := ws }) this

/-- R186: the hold and the links when link `k` has gone DOWN, by whether it held staging. -/
theorem releaseDown_downed (ok : s.stagingOk) (own : ∀ w ∈ s.staging.waiting, w.link? = some k) :
    (s.downed k).releaseDown k = if s.staging.hold = some k then (s.downed k).released else s.downed k := by
  obtain ⟨-, pending, -, -, holder, -⟩ := ok
  have staging := downed_staging own
  split
  · next held =>
    refine releaseDown_held ?_ ?_ ?_ ?_ ?_
    · rw [staging]; exact held
    · rw [downed_link]; rfl
    · rw [staging]
    · rw [staging]; exact pending
    · rw [staging]
      exact fun p hp => held ▸ (holder p hp).2
  · next free => exact releaseDown_free (by rw [staging]; exact free)

theorem released_link (j : LinkId) : s.released.links[j] = s.links[j].raise .holdOwner := State.raise_links_get _ _ _

theorem Pipe.dropRequest_eq (p : Pipe) : p.dropRequest k =
    { p with pendingReq := if p.pendingReq.any (fun r => r.link = k) then none else p.pendingReq } := by
  cases p with
  | mk mode pendingMode pendingReq =>
    cases pendingReq with
    | none => rfl
    | some r => by_cases own : r.link = k <;> simp [Pipe.dropRequest, own]

theorem Barrier.dropRequest_eq (b : Barrier) : b.dropRequest k =
    { b with pendingReq := if b.pendingReq.any (fun r => r.1 = k) then none else b.pendingReq } := by
  cases b with
  | mk frame members limit pendingLimit pendingReq =>
    cases pendingReq with
    | none => rfl
    | some r => by_cases own : r.1 = k <;> simp [Barrier.dropRequest, own]

/-- R186: the blocks that hold requests of link `k` drop them. -/
def State.dropped (k : LinkId) (s : State) : State := (s.dropRequester k).dropRequests k

theorem dropped_staging (s : State) : (s.dropped k).staging =
    { s.staging with
      restore := s.staging.restore.map fun r => { r with requester := r.requester.map (Requester.drop k) } } := rfl

theorem dropped_preset (s : State) : (s.dropped k).preset =
    { s.preset with requester := s.preset.requester.map (Requester.drop k) } := rfl

/-- R186: the state of link `k` gone DOWN and its hold released. -/
def State.freed (k : LinkId) (s : State) : State := (s.downed k).releaseDown k

theorem freed_eq (ok : s.stagingOk) (own : ∀ w ∈ s.staging.waiting, w.link? = some k) :
    s.freed k = if s.staging.hold = some k then (s.downed k).released else s.downed k := releaseDown_downed ok own

theorem released_staging (s : State) : s.released.staging =
    { s.staging with
      hold := none
      commit := none
      state := if s.staging.state = .commitPending then .openState else s.staging.state
      owner := if s.staging.state = .commitPending then none else s.staging.owner } := rfl

/-- R129, R186: what Staging holds when the link has gone. -/
theorem freed_staging (ok : s.stagingOk) (own : ∀ w ∈ s.staging.waiting, w.link? = some k) :
    (s.freed k).staging =
      { s.staging with
        hold := if s.staging.hold = some k then none else s.staging.hold
        commit := if s.staging.hold = some k then none else s.staging.commit
        state := if s.staging.hold = some k ∧ s.staging.state = .commitPending then .openState else s.staging.state
        owner := if s.staging.hold = some k ∧ s.staging.state = .commitPending then none else s.staging.owner
        waiting := [] } := by
  rw [freed_eq ok own]
  by_cases held : s.staging.hold = some k
  · simp only [held, if_true, true_and]
    rw [released_staging, downed_staging own]
  · simp only [held, if_false, false_and]
    exact downed_staging own

/-- The blocks that the release does not concern. -/
theorem freed_rest (ok : s.stagingOk) (own : ∀ w ∈ s.staging.waiting, w.link? = some k) :
    s.freed k = { s with links := (s.freed k).links, staging := (s.freed k).staging } := by
  rw [freed_eq ok own]
  split <;> rfl

theorem freed_link (ok : s.stagingOk) (own : ∀ w ∈ s.staging.waiting, w.link? = some k) (j : LinkId) :
    (s.freed k).links[j] =
      if s.staging.hold = some k then (s.downed k).links[j].raise .holdOwner else (s.downed k).links[j] := by
  rw [freed_eq ok own]
  split
  · exact released_link j
  · rfl

theorem linkDown_eq (s : State) : s.linkDown k =
    if Config.setsClearedLast then ((s.freed k).dropped k).modLink k Link.clearSets else (s.freed k).dropped k := rfl

/-- The order of R205's clearing concerns the event sets of the link alone. -/
theorem linkDown_rest (s : State) : s.linkDown k = { (s.freed k).dropped k with links := (s.linkDown k).links } := by
  rw [linkDown_eq]
  split <;> rfl

theorem linkDown_other (s : State) {j : LinkId} (h : j ≠ k) : (s.linkDown k).links[j] = (s.freed k).links[j] := by
  rw [linkDown_eq]
  split
  · exact State.modLink_links_ne _ k j _ h
  · rfl

/-- R186, R205: the link itself, with the HOLD_OWNER that it keeps where the two orders differ. -/
theorem linkDown_self (ok : s.stagingOk) (own : ∀ w ∈ s.staging.waiting, w.link? = some k) :
    ∃ p : KindSet, (s.linkDown k).links[k] = { s.links[k].goDown with pending := p } ∧
      (p = 0 ∨ s.staging.hold = some k ∧ p = EventKind.holdOwner.bit) := by
  have lost := freed_link ok own k
  rw [downed_link] at lost
  rw [linkDown_eq]
  split
  · refine ⟨0, (State.modLink_links_same _ _ _).trans ?_, .inl rfl⟩
    change (s.freed k).links[k].clearSets = _
    rw [lost, Link.raise_down rfl]
    split <;> rfl
  · change ∃ p, (s.freed k).links[k] = _ ∧ _
    rw [lost, Link.raise_down rfl]
    split
    · next held => exact ⟨_, rfl, .inr ⟨held, BitVec.zero_or⟩⟩
    · exact ⟨0, rfl, .inl rfl⟩

/-- R186: where only the link itself has messages and claims, its loss calls for nothing more. -/
theorem settled_linkDown (ok : s.stagingOk) (own : ∀ w ∈ s.staging.waiting, w.link? = some k)
    (queues : ∀ j : LinkId, j ≠ k → s.links[j].rx = []) : s.settled (s.linkDown k) = (s.linkDown k).beginSends := by
  refine settled_quiet _ _ (claimants_calm _ _ ?_) (heads_empty _ _ fun j => ?_)
  · rw [linkDown_rest]
    change (s.freed k).staging.waiting = []
    rw [freed_staging ok own]
  · by_cases h : j = k
    · subst h
      obtain ⟨p, self, -⟩ := linkDown_self ok own
      rw [self]
      rfl
    · rw [linkDown_other _ h, freed_link ok own, downed_other h]
      split
      · rw [Link.raise_rx, queues j h]
      · exact queues j h

/-- Settles O25. -/
theorem linkDownHandsOnTheLoss : Obligations.LinkDownHandsOnTheLoss := by
  intro s k ok up queues own
  have run : exec (.linkDown k) s = .next (s.linkDown k).beginSends := by
    change Host.Outcome.next (s.settled (if s.links[k].up then s.linkDown k else _)) = _
    rw [if_pos up, settled_linkDown ok own queues]
  have rest := linkDown_rest (k := k) s
  have freed := freed_rest ok own
  have staging := freed_staging ok own
  obtain ⟨p, self, kept⟩ := linkDown_self ok own
  refine ⟨_, run, ⟨p, ?_, kept⟩, fun j h => ?_, ?_, fun c => ?_, ?_, ?_, ?_⟩
  · rw [State.beginSends_links_get, self, Link.beginSend_down rfl]
    rfl
  · rw [State.beginSends_links_get, linkDown_other _ h, freed_link ok own, downed_other h]
  · rw [State.beginSends_staging, rest]
    refine (dropped_staging (s.freed k)).trans ?_
    rw [staging]
  · rw [State.beginSends_pipes, rest]
    change (Vector.ofFn fun c : Chan => (s.freed k).pipes[c].dropRequest k)[c] = _
    rw [freed]
    exact (Vector.getElem_ofFn _).trans (Pipe.dropRequest_eq _)
  · rw [State.beginSends_barrier, rest]
    change (s.freed k).barrier.dropRequest k = _
    rw [freed]
    exact Barrier.dropRequest_eq _
  · rw [State.beginSends_preset, rest]
    refine (dropped_preset (s.freed k)).trans ?_
    rw [freed]
  · rw [rest, freed]
    rfl

end Sys2Proof.Machine
end

section
/-! SUPPORT. Start-up and damage: what a read of changed bytes answers (R7), what the setup record read hands out (R175), and
what the directory scan makes of the slots (R176, R177). -/

namespace Sys2Proof.Machine

variable {s t : State} {k : LinkId} {d : Nat → Byte}

/-! ### Bytes that change one by one -/

/-- The byte at offset `i` when the listed changes to offsets that `seen` tells of are made in order. -/
def damagedByte (changed : List Host.Cell) (seen : Nat → Bool) (i : Nat) (old : Byte) : Byte :=
  changed.foldl (fun v p => if p.1 = i ∧ seen p.1 = true then p.2 else v) old

theorem Cells.read_write_one (m : Cells) (a i : Nat) (v : Byte) :
    Cells.read d (Cells.write d m a [v]) i = if a = i then v else Cells.read d m i := by
  split
  · next h => subst h; exact Cells.read_write_in d m a [v] 0 (by simp)
  · next h => exact Cells.read_write_out d m a [v] i (by simp only [List.length_singleton]; omega)

/-- The bytes of a memory of which some have changed, those at the offsets that `seen` tells of. -/
theorem Cells.read_change_seen (seen : Nat → Bool) (i : Nat) (changed : List Host.Cell) : ∀ m : Cells,
    Cells.read d (Cells.change d m (changed.filter fun p => seen p.1)) i =
      damagedByte changed seen i (Cells.read d m i) := by
  induction changed with
  | nil => intro m; rfl
  | cons p ps ih =>
    intro m
    cases hp : seen p.1 with
    | false =>
      rw [List.filter_cons_of_neg (by simp [hp]), ih m]
      exact congrArg (damagedByte ps seen i) (by simp [hp])
    | true =>
      rw [List.filter_cons_of_pos (p := fun p : Host.Cell => seen p.1) hp]
      refine (ih _).trans (congrArg (damagedByte ps seen i) ?_)
      rw [Cells.read_write_one]
      simp [hp]

theorem Cells.read_change (i : Nat) (changed : List Host.Cell) (m : Cells) :
    Cells.read d (Cells.change d m changed) i = damagedByte changed (fun _ => true) i (Cells.read d m i) := by
  rw [← Cells.read_change_seen, List.filter_true]

/-! ### Slot bodies -/

/-- A change to the header of a slot body. -/
theorem Body.changeByte_header (body : Body) {a : Nat} (h : a < 32) (v : Byte) :
    body.changeByte (bodyOffset .header + a, v) = { body with header := Cells.write zeroByte body.header a [v] } := by
  have : bodyOffset .header + a = a := Nat.zero_add a
  unfold Body.changeByte
  rw [this]
  exact if_pos h

/-- A change to a record of a slot body. -/
theorem Body.changeByte_record (body : Body) (c : Chan) {a : Nat} (h : a < 103498) (v : Byte) :
    body.changeByte (bodyOffset (.record c) + a, v) =
      { body with records := body.records.set c (Cells.write defaultByte body.records[c] a [v]) } := by
  have offset : bodyOffset (.record c) + a = 32 + 103498 * c.val + a := rfl
  have chan : (bodyOffset (.record c) + a - Config.headerSize) / Config.recordSize = c.val := by
    rw [offset]
    change (32 + 103498 * c.val + a - 32) / 103498 = _
    omega
  have rest : (bodyOffset (.record c) + a - Config.headerSize) % Config.recordSize = a := by
    rw [offset]
    change (32 + 103498 * c.val + a - 32) % 103498 = _
    omega
  have beyond : ¬ bodyOffset (.record c) + a < Config.headerSize := by
    rw [offset]
    change ¬ 32 + 103498 * c.val + a < 32
    omega
  unfold Body.changeByte
  rw [if_neg beyond]
  simp only [chan, rest, c.isLt, dif_pos]

/-- The changes of a structure, as they stand in a slot body. -/
def bodyChanges (target : CalTarget) (changed : List Host.Cell) : List Host.Cell :=
  changed.map fun x => (bodyOffset target + x.1, x.2)

theorem Body.change_header (changed : List Host.Cell) : ∀ body : Body, (∀ p ∈ changed, p.1 < 32) →
    body.change (bodyChanges .header changed) = { body with header := Cells.change zeroByte body.header changed } := by
  induction changed with
  | nil => intro body _; rfl
  | cons p ps ih =>
    intro body inside
    have first := body.changeByte_header (inside p List.mem_cons_self) p.2
    refine (congrArg (Body.change (bodyChanges .header ps)) first).trans ?_
    exact ih _ fun q hq => inside q (List.mem_cons_of_mem _ hq)

theorem Body.change_record (c : Chan) (changed : List Host.Cell) : ∀ body : Body, (∀ p ∈ changed, p.1 < 103498) →
    body.change (bodyChanges (.record c) changed) =
      { body with records := body.records.set c (Cells.change defaultByte body.records[c] changed) } := by
  induction changed with
  | nil =>
    intro body _
    exact congrArg (fun v => { body with records := v }) (Vector.set_getElem_self _).symm
  | cons p ps ih =>
    intro body inside
    have first := body.changeByte_record c (inside p List.mem_cons_self) p.2
    refine (congrArg (Body.change (bodyChanges (.record c) ps)) first).trans ?_
    refine (ih _ fun q hq => inside q (List.mem_cons_of_mem _ hq)).trans ?_
    dsimp only
    rw [Fin.getElem_fin, Fin.getElem_fin, Vector.getElem_set_self, Vector.set_set]
    rfl

/-- The changes that a store still reads, before and after they are placed in the body. -/
theorem bodyChanges_filter (target : CalTarget) (changed : List Host.Cell) (stored : Nat) :
    (bodyChanges target changed).filter (fun x => decide (stored ≤ x.1)) =
      bodyChanges target (changed.filter fun p => decide (stored ≤ bodyOffset target + p.1)) := List.filter_map

/-! ### Damage -/

/-- What a pass sees of damage (R153). -/
def State.passSeen (b : Bank) (target : CalTarget) (changed : List Host.Cell) (scanned : Nat) (s : State) (p : Pass) : Pass :=
  if target = .record p.chan ∧ b = s.activeBank p.chan then
    { p with view := Cells.change defaultByte p.view (cellsFrom scanned changed) }
  else p

theorem passSees_eq (b : Bank) (target : CalTarget) (changed : List Host.Cell) (scanned : Nat) (s : State) :
    s.passSees b target changed scanned =
      { s with scanner := { s.scanner with pass := s.scanner.pass.map (s.passSeen b target changed scanned) } } := by
  have keeps (q : Option Pass) (h : q = s.scanner.pass) : s = { s with scanner := { s.scanner with pass := q } } := h ▸ rfl
  unfold State.passSees
  cases pass : s.scanner.pass with
  | none => exact keeps _ (by simp [pass])
  | some p =>
    cases target with
    | header => exact keeps _ (by simp [pass, State.passSeen])
    | record c =>
      dsimp only
      unfold State.passSeen
      split
      · next own =>
        obtain ⟨chan, bank⟩ := own
        subst chan
        simp [State.modScanner, bank]
      · next other => exact keeps _ (by rw [pass, Option.map_some, if_neg]; rintro ⟨chan, bank⟩; cases chan; exact other ⟨rfl, bank.symm⟩)

/-- What a store sees of damage (R168). -/
def State.storeSeen (b : Bank) (target : CalTarget) (changed : List Host.Cell) (stored : Nat) (s : State) : Option Body :=
  if s.storeInFlight && s.isActive b target then
    s.preset.storing.map fun body => body.change ((bodyChanges target changed).filter fun x => decide (stored ≤ x.1))
  else s.preset.storing

theorem storeSees_eq (b : Bank) (target : CalTarget) (changed : List Host.Cell) (stored : Nat) (s : State) :
    s.storeSees b target changed stored =
      { s with preset := { s.preset with storing := s.storeSeen b target changed stored } } := by
  unfold State.storeSees State.storeSeen
  split <;> rfl

/-- R7: what damage leaves, block by block. -/
theorem damaged_eq (b : Bank) (target : CalTarget) (changed : List Host.Cell) (scanned stored : Nat) (s : State) :
    s.damaged b target changed scanned stored = { s with
      banks := (s.changeStructure b target changed).banks
      scanner := { s.scanner with pass := s.scanner.pass.map (s.passSeen b target changed scanned) }
      preset := { s.preset with storing := s.storeSeen b target changed stored } } := by
  unfold State.damaged
  rw [storeSees_eq, passSees_eq]
  cases target <;> rfl

/-! ### The structures of the banks -/

theorem changeStructure_record (b x : Bank) (target : CalTarget) (changed : List Host.Cell) (c : Chan) (i : Nat) :
    Cells.read defaultByte ((s.changeStructure b target changed).record x c) i =
      if x = b ∧ target = .record c then damagedByte changed (fun _ => true) i (Cells.read defaultByte (s.record x c) i)
      else Cells.read defaultByte (s.record x c) i := by
  cases target with
  | header => simp [State.changeStructure, State.record_setHeader]
  | record e =>
    simp only [State.changeStructure, State.record_setRecord, CalTarget.record.injEq, eq_comm (a := e)]
    split
    · next h => obtain ⟨rfl, rfl⟩ := h; exact Cells.read_change i changed _
    · rfl

theorem changeStructure_header (b x : Bank) (target : CalTarget) (changed : List Host.Cell) (i : Nat) :
    Cells.read zeroByte ((s.changeStructure b target changed).header x) i =
      if x = b ∧ target = .header then damagedByte changed (fun _ => true) i (Cells.read zeroByte (s.header x) i)
      else Cells.read zeroByte (s.header x) i := by
  cases target with
  | record e => simp [State.changeStructure, State.header_setRecord]
  | header =>
    simp only [State.changeStructure, State.header_setHeader, and_true]
    split
    · next h => subst h; exact Cells.read_change i changed _
    · rfl

/-- R153: the byte at an offset of a pass's view. -/
theorem passSeen_read (b : Bank) (target : CalTarget) (changed : List Host.Cell) (scanned i : Nat) (p : Pass) :
    Cells.read defaultByte (s.passSeen b target changed scanned p).view i =
      if target = .record p.chan ∧ b = s.activeBank p.chan then
        damagedByte changed (fun a => decide (scanned ≤ a)) i (Cells.read defaultByte p.view i)
      else Cells.read defaultByte p.view i := by
  unfold State.passSeen
  split
  · exact Cells.read_change_seen (fun a => decide (scanned ≤ a)) i changed p.view
  · rfl

theorem passSeen_chan (b : Bank) (target : CalTarget) (changed : List Host.Cell) (scanned : Nat) (p : Pass) :
    (s.passSeen b target changed scanned p).chan = p.chan := by
  unfold State.passSeen
  split <;> rfl

/-- R168: the body that a store holds after damage, byte by byte. -/
theorem storeSeen_some (b : Bank) (target : CalTarget) (changed : List Host.Cell) (stored : Nat) (body : Body)
    (inside : ∀ p ∈ changed, p.1 < target.size) (flight : s.storeInFlight = true) (storing : s.preset.storing = some body) :
    ∃ body', s.storeSeen b target changed stored = some body' ∧
      (∀ i, Cells.read zeroByte body'.header i =
        if target = .header ∧ b = s.staging.setSel then
          damagedByte changed (fun a => decide (stored ≤ a)) i (Cells.read zeroByte body.header i)
        else Cells.read zeroByte body.header i) ∧
      ∀ (c : Chan) (i : Nat), Cells.read defaultByte body'.records[c] i =
        if target = .record c ∧ b = s.activeBank c then
          damagedByte changed (fun a => decide (stored ≤ 32 + 103498 * c.val + a)) i (Cells.read defaultByte body.records[c] i)
        else Cells.read defaultByte body.records[c] i := by
  unfold State.storeSeen
  rw [storing, bodyChanges_filter, Option.map_some, flight, Bool.true_and]
  have insideSeen : ∀ p ∈ changed.filter (fun p => decide (stored ≤ bodyOffset target + p.1)), p.1 < target.size :=
    fun p hp => inside p (List.mem_of_mem_filter hp)
  cases target with
  | header =>
    by_cases active : s.staging.setSel = b
    · refine ⟨_, if_pos (by simpa [State.isActive] using active), fun i => ?_, fun c i => ?_⟩
      · rw [Body.change_header _ _ insideSeen, if_pos ⟨rfl, active.symm⟩]
        refine (Cells.read_change_seen (fun a => decide (stored ≤ bodyOffset .header + a)) i changed _).trans ?_
        simp [bodyOffset]
      · rw [Body.change_header _ _ insideSeen, if_neg (by simp)]
    · refine ⟨body, if_neg (by simpa [State.isActive] using active), fun i => ?_, fun c i => ?_⟩
      · rw [if_neg fun h => active h.2.symm]
      · rw [if_neg (by simp)]
  | record e =>
    by_cases active : s.activeBank e = b
    · refine ⟨_, if_pos (by simpa [State.isActive] using active), fun i => ?_, fun c i => ?_⟩
      · rw [Body.change_record _ _ _ insideSeen, if_neg (by simp)]
      · rw [Body.change_record _ _ _ insideSeen]
        by_cases chan : e = c
        · subst chan
          rw [if_pos ⟨rfl, active.symm⟩]
          dsimp only
          rw [Fin.getElem_fin, Vector.getElem_set_self]
          exact Cells.read_change_seen (fun a => decide (stored ≤ bodyOffset (.record e) + a)) i changed _
        · have : (e : Nat) ≠ c := fun h => chan (Fin.ext h)
          simp [chan, this]
    · refine ⟨body, if_neg (by simpa [State.isActive] using active), fun i => ?_, fun c i => ?_⟩
      · rw [if_neg (by simp)]
      · rw [if_neg]
        rintro ⟨chan, bank⟩
        cases chan
        exact active bank.symm

/-- Settles O28. -/
theorem memoryDamageChangesStoredBytes : Obligations.MemoryDamageChangesStoredBytes := by
  intro s b target changed scanned stored inside
  have run : exec (.memoryDamage b target changed scanned stored) s =
    .next (s.damaged b target changed scanned stored).beginSends := if_pos inside
  rw [damaged_eq] at run
  refine ⟨_, run, ?_, ?_, fun k => State.beginSends_links_get _ k, ?_, ?_, ?_, ?_, rfl⟩
  · exact fun x c i => changeStructure_record b x target changed c i
  · exact fun x i => changeStructure_header b x target changed i
  · intro none
    change s.scanner.pass.map _ = _
    rw [none, Option.map_none]
  · intro p pass
    refine ⟨s.passSeen b target changed scanned p, ?_, passSeen_chan b target changed scanned p,
      fun i => passSeen_read b target changed scanned i p⟩
    change s.scanner.pass.map _ = _
    rw [pass, Option.map_some]
  · intro idle
    have : s.storeSeen b target changed stored = s.preset.storing := by
      unfold State.storeSeen
      rcases idle with h | h <;> simp [h]
    change { s.preset with storing := s.storeSeen b target changed stored } = _
    rw [this]
  · intro body flight storing
    exact storeSeen_some b target changed stored body (fun p hp => of_decide_eq_true (List.all_eq_true.1 inside p hp))
      flight storing

/-! ### The setup record read -/

theorem setupShare_eq (m : Cells) (k : LinkId) :
    setupShare m k = (setupByte m (2 * k.val)).toNat + 256 * (setupByte m (2 * k.val + 1)).toNat := rfl

theorem shareOk_iff (n : Nat) : shareOk n = true ↔ n = 0 ∨ 32 ≤ n ∧ n ≤ 480 := by simp [shareOk]

theorem setupShareSum_eq (m : Cells) :
    setupShareSum m = setupShare m 0 + setupShare m 1 + setupShare m 2 + setupShare m 3 := by
  change setupShare m 0 + (setupShare m 1 + (setupShare m 2 + (setupShare m 3 + 0))) = _
  omega

/-- R175: the conditions on a sound setup record, written out. -/
theorem setupSound_iff (m : Cells) : setupSound m = true ↔
    Cells.bytes zeroByte m 28 4 = word32Bytes (crc32 (Cells.bytes zeroByte m 0 28)) ∧
      (∀ k : LinkId, setupShare m k = 0 ∨ 32 ≤ setupShare m k ∧ setupShare m k ≤ 480) ∧ setupShareSum m ≤ 512 ∧
      (setupByte m 12).toNat ≤ 9 ∧ (setupByte m 13).toNat ≤ 1 ∧
      ((setupByte m 15).toNat ≤ 7 ∨ setupByte m 15 = 0xFF) := by
  simp only [setupSound, setupConsistent, Bool.and_eq_true, decide_eq_true_eq, List.all_eq_true, List.mem_finRange,
    true_implies, shareOk_iff, Bool.or_eq_true, beq_iff_eq, and_assoc]
  rfl

/-- R178: the fields that are taken read as they stood. -/
theorem takenFields_byte (m : Cells) {a : Nat} (h : a < 16) : setupByte (takenFields m) a = setupByte m a := by
  have length : a < (Cells.bytes zeroByte m 0 16).length := by simpa [Cells.bytes] using h
  have read := Cells.read_write_in zeroByte [] 0 (Cells.bytes zeroByte m 0 16) a length
  rw [Nat.zero_add] at read
  unfold setupByte takenFields
  rw [read]
  simp [Cells.bytes]

theorem takenFields_share (m : Cells) (k : LinkId) : setupShare (takenFields m) k = setupShare m k := by
  simp only [setupShare_eq]
  rw [takenFields_byte m (by omega), takenFields_byte m (by omega)]

theorem handOut_link (m : Cells) (o : SetupOutcome) (k : LinkId) :
    (s.handOut m o).links[k] = { s.links[k] with share := setupShare m k, roles := (setupByte m (8 + k.val)).setWidth 3 } :=
  Vector.getElem_ofFn _

theorem setupSource_none {m : Cells} (h : (setupByte m 13).toNat ≤ 1) : setupSource m = .none ↔ setupByte m 13 = 1 := by
  unfold setupSource
  split
  · next zero => rw [zero]; decide
  · next one =>
    have : setupByte m 13 = 1 := by
      refine BitVec.eq_of_toNat_eq ?_
      have : (setupByte m 13).toNat ≠ 0 := fun e => one (BitVec.eq_of_toNat_eq e)
      change _ = 1
      omega
    simp [this]

/-- R178: the defaults, handed to each link. -/
theorem setupDefaults_link (k : LinkId) :
    setupShare setupDefaults k = 128 ∧ (setupByte setupDefaults (8 + k.val)).setWidth 3 = (7 : BitVec 3) := by
  revert k
  decide

/-- Settles O26. -/
theorem setupRecordReadHandsOut : Obligations.SetupRecordReadHandsOut := by
  intro s changed nv outcome inside flash byte share sound
  have insideB : cellsInside changed Config.setupSize = true := List.all_eq_true.2 fun p hp => decide_eq_true (inside p hp)
  obtain ⟨u, hu⟩ : ∃ u, u = s.modFlash fun f => { f with setup := flash } := ⟨_, rfl⟩
  have run : exec (.setupRecordRead changed) s = .next u.setupRead.beginSends := by
    rw [hu]
    exact (if_pos insideB).trans (if_pos ⟨nv, outcome⟩)
  have soundness : setupSound flash = true ↔ sound := by
    rw [setupSound_iff, setupShareSum_eq]
    refine and_congr Iff.rfl (and_congr ⟨fun h k hk => h ⟨k, hk⟩, fun h k => h k k.isLt⟩ Iff.rfl)
  by_cases ok : setupSound flash = true
  · have taken : u.setupRead = u.handOut (takenFields flash) .sound := by
      subst hu
      exact if_pos ok
    rw [taken] at run
    subst hu
    obtain ⟨-, -, -, -, source, -⟩ := (setupSound_iff flash).1 ok
    refine ⟨_, run, rfl, rfl, rfl, rfl, rfl, rfl, fun _ => ⟨rfl, fun a ha => takenFields_byte flash ha, ?_, ?_, ?_, fun k => ?_⟩,
      fun bad => absurd (soundness.1 ok) bad, rfl⟩
    · exact congrArg BitVec.toNat (takenFields_byte flash (by decide))
    · have same := takenFields_byte flash (show 13 < 16 by decide)
      exact (setupSource_none (by rw [same]; exact source)).trans (by rw [same]; rfl)
    · exact congrArg BitVec.toNat (takenFields_byte flash (by decide))
    · rw [State.beginSends_links_get, handOut_link, takenFields_share, takenFields_byte flash (by omega)]
      rfl
  · have defaults : u.setupRead = (u.handOut setupDefaults .defaults).raise .setup := by
      subst hu
      exact if_neg ok
    rw [defaults] at run
    subst hu
    refine ⟨_, run, rfl, rfl, rfl, rfl, rfl, rfl, fun good => absurd (soundness.2 good) ok,
      fun _ => ⟨rfl, ?_, ?_, ?_, ?_, fun k => ?_⟩, rfl⟩
    · change Cells.bytes zeroByte setupDefaults 0 28 = _
      decide
    · change (setupByte setupDefaults 12).toNat = 5
      decide
    · change setupSource setupDefaults = .houseSync
      decide
    · change (setupByte setupDefaults 14).toNat = 3
      decide
    · obtain ⟨share, roles⟩ := setupDefaults_link k
      rw [State.beginSends_links_get, State.raise_links_get, handOut_link, share, roles]
      rfl

/-! ### The directory scan -/

theorem SlotDir.interrupted_iff (d : SlotDir) : d.interrupted = true ↔ d.state = .storing ∨ d.state = .erasing := by
  simp [SlotDir.interrupted]

/-- R176: what the scan leaves of the slots and tells the links. -/
def State.scannedDirectory (s : State) : Vector SlotDir 8 := Vector.ofFn fun sl : SlotId => s.flash.directory[sl].scanned

theorem settleBoot_link (o : BootOutcome) (k : LinkId) : (s.settleBoot o).links[k] = s.links[k].tryUp :=
  Vector.getElem_ofFn _

theorem scanDirectory_link (s : State) (k : LinkId) : s.scanDirectory.links[k] =
    if ∃ sl : SlotId, s.flash.directory[sl].state = .storing ∨ s.flash.directory[sl].state = .erasing then
      s.links[k].raise .preset
    else s.links[k] := by
  have any : ((List.finRange 8).any fun sl => s.flash.directory[sl].interrupted) = true ↔
      ∃ sl : SlotId, s.flash.directory[sl].state = .storing ∨ s.flash.directory[sl].state = .erasing := by
    simp only [List.any_eq_true, List.mem_finRange, true_and, SlotDir.interrupted_iff]
  unfold State.scanDirectory
  by_cases h : ∃ sl : SlotId, s.flash.directory[sl].state = .storing ∨ s.flash.directory[sl].state = .erasing
  · rw [if_pos h]
    dsimp only
    rw [if_pos (any.2 h), State.raise_links_get]
    rfl
  · rw [if_neg h]
    dsimp only
    rw [if_neg fun e => h (any.1 e)]
    rfl

theorem scanDirectory_eq (s : State) : s.scanDirectory =
    { s with
      flash := { s.flash with directory := s.scannedDirectory }
      preset := { s.preset with directory := s.scannedDirectory }
      links := s.scanDirectory.links } := by
  unfold State.scanDirectory
  split <;> rfl

theorem slotOf_none {b : Byte} (h : 8 ≤ b.toNat) : slotOf b = none := dif_neg (Nat.not_lt.2 h)

theorem slotOf_eq {b : Byte} {sl : SlotId} (h : sl.val = b.toNat) : slotOf b = some sl :=
  (dif_pos (h ▸ sl.isLt)).trans (congrArg some (Fin.ext h.symm))

/-- R176: what the scan leaves of one slot. -/
theorem scannedDirectory_slot (s : State) (sl : SlotId) : s.scannedDirectory[sl] =
    if s.flash.directory[sl].state = .storing ∨ s.flash.directory[sl].state = .erasing then
      { state := .corrupt, info := none }
    else s.flash.directory[sl] := by
  refine (Vector.getElem_ofFn _).trans ?_
  unfold SlotDir.scanned
  simp only [SlotDir.interrupted_iff]

theorem scannedDirectory_valid (s : State) (sl : SlotId) :
    s.scannedDirectory[sl].state = .valid ↔ s.flash.directory[sl].state = .valid := by
  rw [scannedDirectory_slot]
  split
  · next h => rcases h with h | h <;> rw [h] <;> decide
  · rfl

/-- R164, R176: the state in which the boot preset is examined. -/
def State.scannedIdle (s : State) : State := s.scanDirectory.idleNv

theorem scannedIdle_eq (s : State) : s.scannedIdle =
    { s with
      flash := { s.flash with directory := s.scannedDirectory }
      preset := { s.preset with directory := s.scannedDirectory, nv := none, requester := none, progress := none }
      links := s.scanDirectory.links } := by
  unfold State.scannedIdle
  rw [scanDirectory_eq]
  rfl

/-- Settles O27, by what the setup copy names as boot preset. -/
theorem directoryScanExaminesTheBootPreset : Obligations.DirectoryScanExaminesTheBootPreset := by
  intro s nv outcome
  have run : exec .directoryScanEnd s = .next s.scannedIdle.examineBoot.beginSends := if_pos ⟨nv, outcome⟩
  have told := scanDirectory_link s
  have slot := scannedDirectory_slot s
  have links (j : LinkId) : s.scannedIdle.links[j] = s.scanDirectory.links[j] := rfl
  have examined : s.scannedIdle.examineBoot = match slotOf (setupByte s.preset.setup 15) with
      | none => s.scannedIdle.settleBoot .none
      | some sl => if s.scannedDirectory[sl].state = .valid then s.scannedIdle.startLoad sl .startUp 0
        else s.scannedIdle.settleBoot .slotNotValid := by
    rw [scannedIdle_eq]
    rfl
  have settles (o : BootOutcome) (j : LinkId) :
      (s.scannedIdle.settleBoot o).beginSends.links[j] = (s.scanDirectory.links[j].tryUp).beginSend := by
    rw [State.beginSends_links_get, settleBoot_link, links]
  have idle := scannedIdle_eq s
  generalize s.scannedIdle = u at *
  generalize s.scanDirectory.links = v at *
  subst idle
  refine ⟨_, run, ?_⟩
  by_cases beyond : 8 ≤ (setupByte s.preset.setup 15).toNat
  · rw [slotOf_none beyond] at examined
    dsimp only at examined
    rw [examined]
    refine ⟨slot, rfl, fun _ => ⟨rfl, rfl, rfl, fun j => ?_⟩, fun sl named => absurd sl.isLt (by omega), rfl, rfl⟩
    rw [settles, told]
  · obtain ⟨sl, named⟩ : ∃ sl : SlotId, sl.val = (setupByte s.preset.setup 15).toNat := ⟨⟨_, Nat.not_le.1 beyond⟩, rfl⟩
    have one {sl' : SlotId} (h : sl'.val = (setupByte s.preset.setup 15).toNat) : sl' = sl := Fin.ext (h.trans named.symm)
    rw [slotOf_eq named] at examined
    dsimp only at examined
    by_cases valid : s.flash.directory[sl].state = .valid
    · rw [if_pos ((scannedDirectory_valid s sl).2 valid)] at examined
      rw [examined]
      refine ⟨slot, rfl, fun h => absurd h beyond, fun sl' h => ?_, rfl, rfl⟩
      obtain rfl := one h
      refine ⟨fun h => absurd valid h, fun _ => ⟨rfl, rfl, rfl, rfl, fun j => ?_⟩⟩
      exact (State.beginSends_links_get _ _).trans (congrArg Link.beginSend (told j))
    · rw [if_neg fun h => valid ((scannedDirectory_valid s sl).1 h)] at examined
      rw [examined]
      refine ⟨slot, rfl, fun h => absurd h beyond, fun sl' h => ?_, rfl, rfl⟩
      obtain rfl := one h
      refine ⟨fun _ => ⟨rfl, rfl, rfl, fun j => ?_⟩, fun h => absurd h valid⟩
      rw [settles, told]

end Sys2Proof.Machine
end

section
/-! SUPPORT. Arrivals at the input ports (R69 to R81): the signal, fills that fail, headers, lines and ends of frames. -/

namespace Sys2Proof.Machine

variable {s : State} {c : Chan} {v : Slots}

/-! ### Fills -/

theorem State.modCapture_modCapture (f g : Capture → Capture) :
    (s.modCapture c f).modCapture c g = s.modCapture c fun cap => g (f cap) := by
  simp [State.modCapture]

theorem State.modCapture_congr {f g : Capture → Capture} (h : f s.capture[c] = g s.capture[c]) :
    s.modCapture c f = s.modCapture c g := congrArg (fun cap => { s with capture := s.capture.set c cap }) h

theorem Slots.ext_get {u v : Slots} (h : ∀ i : SlotIx, u[i] = v[i]) : u = v := Vector.ext fun i hi => h ⟨i, hi⟩

/-- R81: the slot that a failed fill frees. -/
theorem Slots.freeFilling_eq {i : SlotIx} (ok : v.ok) (hi : v[i].isFilling = true) : v.freeFilling = v.set i .free := by
  refine Slots.ext_get fun j => ?_
  rw [Slots.getElem_set]
  refine (Slots.getElem_each _ v j).trans ?_
  by_cases h : j = i
  · rw [if_pos h, h, if_pos hi]
  · rw [if_neg h, if_neg fun hj => h ((v.ok_iff.1 ok).1 j i hj hi)]

theorem Slots.find_filling {i : SlotIx} (ok : v.ok) (hi : v[i].isFilling = true) : v.find SlotRec.isFilling = some i := by
  obtain ⟨j, hj⟩ := Slots.find_isSome hi
  rw [hj, (v.ok_iff.1 ok).1 j i (Slots.find_some hj) hi]

theorem Slots.find_noFilling (h : ∀ i : SlotIx, v[i].isFilling = false) : v.find SlotRec.isFilling = none := by
  cases hf : v.find SlotRec.isFilling with
  | none => rfl
  | some j => exact absurd (Slots.find_some hf) (by rw [h j]; decide)

theorem Slots.any_filling {i : SlotIx} (hi : v[i].isFilling = true) : v.toList.any SlotRec.isFilling = true :=
  (v.any_iff _).2 ⟨i, hi⟩

theorem Slots.any_noFilling (h : ∀ i : SlotIx, v[i].isFilling = false) : v.toList.any SlotRec.isFilling = false :=
  Bool.eq_false_iff.2 fun any => by
    obtain ⟨i, hi⟩ := (v.any_iff _).1 any
    rw [h i] at hi
    cases hi

theorem failFill_eq {i : SlotIx} (r : InputReason) (ok : s.capture[c].slots.ok)
    (hi : s.capture[c].slots[i].isFilling = true) : s.failFill c r = s.fillFailed c i r := by
  refine congrArg (State.raise .input) ((State.modCapture_modCapture _ _).trans (State.modCapture_congr ?_))
  dsimp only
  rw [Slots.freeFilling_eq ok hi]

/-! ### The signal -/

theorem signalSeen_eq (elapsed : Nat) : (s.passTime elapsed).signalSeen c = s.seen c elapsed := rfl

theorem raise_capture_get (s : State) (e : EventKind) : (s.raise e).capture[c] = s.capture[c] := rfl

theorem seen_capture (elapsed : Nat) : (s.seen c elapsed).capture[c] =
    { s.capture[c] with
      signal := true
      lossLimit := some (s.timebase.now + elapsed + 2 * s.timebase.period) } := by
  unfold State.seen
  dsimp only
  split
  · rw [State.modCapture_capture_same]
  · exact (raise_capture_get _ _).trans (State.modCapture_capture_same _ c _)

theorem seen_rest (elapsed : Nat) : s.seen c elapsed =
    { s with
      timebase := { s.timebase with now := s.timebase.now + elapsed }
      capture := (s.seen c elapsed).capture
      links := (s.seen c elapsed).links } := by
  unfold State.seen
  dsimp only
  split <;> rfl

theorem seen_pipes (elapsed : Nat) : (s.seen c elapsed).pipes = s.pipes := by rw [seen_rest]

/-- R71, R73: what an arrival other than signal lost does. -/
theorem arrival_running {act : State → State} {elapsed : Nat} (running : s.timebase.running = true) :
    s.arrival c elapsed act =
      if s.pipes[c].mode.captures then act (s.seen c elapsed) else s.seen c elapsed := by
  unfold State.arrival
  rw [if_pos running]
  dsimp only
  rw [signalSeen_eq, seen_pipes]

theorem arrival_stopped {act : State → State} {elapsed : Nat} (stopped : s.timebase.running = false) :
    s.arrival c elapsed act = s := by
  unfold State.arrival
  rw [stopped]
  rfl

theorem Mode.captures_iff (m : Mode) : m.captures = true ↔ m ≠ .off ∧ m ≠ .standby := by cases m <;> decide

theorem takeLine_noFilling (ps : List Pixel) (h : ∀ i : SlotIx, s.capture[c].slots[i].isFilling = false) :
    s.takeLine c ps = s := by
  unfold State.takeLine
  rw [Slots.find_noFilling h]

theorem takeEnd_noFilling (h : ∀ i : SlotIx, s.capture[c].slots[i].isFilling = false) : s.takeEnd c = s := by
  unfold State.takeEnd
  rw [Slots.find_noFilling h]

/-- R72: the loss of a signal, with the fill that it fails. -/
theorem signalLoss_cases :
    ((∀ i : SlotIx, s.capture[c].slots[i].isFilling = false) → s.signalLoss c =
      (s.modCapture c fun cap => { cap with signal := false, lossLimit := none }).raise .input) ∧
    ∀ i : SlotIx, s.capture[c].slots.ok → s.capture[c].slots[i].isFilling = true → s.signalLoss c =
      ((s.modCapture c fun cap => { cap with signal := false, lossLimit := none }).raise .input).fillFailed c i .lost := by
  have slots : ((s.modCapture c fun cap => { cap with signal := false, lossLimit := none }).raise .input).capture[c].slots =
      s.capture[c].slots :=
    (congrArg Capture.slots ((raise_capture_get _ _).trans (State.modCapture_capture_same s c _))).trans rfl
  refine ⟨fun none => ?_, fun i ok filling => ?_⟩
  · unfold State.signalLoss
    dsimp only
    rw [slots, Slots.any_noFilling none]
    rfl
  · unfold State.signalLoss
    dsimp only
    rw [slots, if_pos (Slots.any_filling filling)]
    exact failFill_eq .lost (by rw [slots]; exact ok) (by rw [slots]; exact filling)

/-- Settles O35. -/
theorem theSignalIsTracked : Obligations.TheSignalIsTracked := by
  refine ⟨?_, ?_⟩
  · intro s c elapsed n id w h ps arrivals
    refine ⟨fun stopped i hi => ?_, fun running => ⟨?_, fun idle i hi => ?_, fun none i hi => ?_⟩⟩
    · have stays {act : State → State} := sends_congr (arrival_stopped (c := c) (act := act) (elapsed := elapsed) stopped)
      have lost : exec (.signalLost c elapsed) s = .next s.beginSends := if_neg (by simp [stopped])
      simp only [arrivals, List.mem_cons, List.not_mem_nil, or_false] at hi
      rcases hi with rfl | rfl | rfl | rfl | rfl
      · exact stays
      · exact lost
      · exact stays
      · exact stays
      · exact stays
    · exact sends_congr ((arrival_running running).trans (ite_self _))
    · have idle : ¬ s.pipes[c].mode.captures = true := fun h => by
        obtain ⟨off, standby⟩ := (Mode.captures_iff _).1 h
        exact idle.elim off standby
      have ignored {act : State → State} :=
        sends_congr ((arrival_running (c := c) (act := act) (elapsed := elapsed) running).trans (if_neg idle))
      simp only [arrivals, List.mem_cons, List.not_mem_nil, or_false] at hi
      rcases hi with rfl | rfl | rfl <;> exact ignored
    · have none : ∀ i : SlotIx, (s.seen c elapsed).capture[c].slots[i].isFilling = false := by
        rw [seen_capture]
        exact none
      have ignored {act : State → State} (h : act (s.seen c elapsed) = s.seen c elapsed) :=
        sends_congr ((arrival_running (c := c) (act := act) running).trans (by rw [h, ite_self]))
      simp only [arrivals, List.tail_cons, List.mem_cons, List.not_mem_nil, or_false] at hi
      rcases hi with rfl | rfl
      · exact ignored (takeLine_noFilling ps none)
      · exact ignored (takeEnd_noFilling none)
  · intro s c elapsed running at_ lost next
    have lossNext {now : Nat} {o : Host.Outcome State Fault Refusal} (h : o = .next ((at_ now).signalLoss c).beginSends) :
        next now o := by
      obtain ⟨free, fill⟩ := signalLoss_cases (s := at_ now) (c := c)
      exact ⟨fun none => h.trans (sends_congr (free none)), fun i ok filling => h.trans (sends_congr (fill i ok filling))⟩
    have arrives : exec (.signalLost c elapsed) s = .next
        (if s.capture[c].signal then (at_ (s.timebase.now + elapsed)).signalLoss c
          else at_ (s.timebase.now + elapsed)).beginSends := if_pos running
    refine ⟨fun absent => ?_, fun present => lossNext ?_, fun limit set => lossNext ?_⟩
    · rw [arrives, absent]
      rfl
    · rw [arrives, if_pos present]
    · change execSignalLossLimit c s = _
      unfold execSignalLossLimit
      rw [set]
      rfl

/-! ### Headers -/

theorem sizeMatches_iff (u : State) (w h : Nat) : u.sizeMatches c w h = true ↔
    w = Rec.wIn (u.activeRecord c) ∧ h = Rec.hIn (u.activeRecord c) ∧ frameSizeOk w h := by
  simp only [State.sizeMatches, Bool.and_eq_true, decide_eq_true_eq, and_assoc]

/-- R75: a frame number newer than all that the channel holds. -/
theorem Slots.fresh_of_newer {n : Word32}
    (h : ∀ i : SlotIx, ∀ m, v[i].ready? = some m ∨ v[i].shown? = some m → newer n m = true) : v.fresh n = true := by
  unfold Slots.fresh
  cases held : v.newestHeld with
  | none => rfl
  | some m =>
    obtain ⟨r, mem, holds⟩ := List.mem_filterMap.1 (newestOf_mem held)
    obtain ⟨i, rfl⟩ := (v.mem_iff r).1 mem
    refine h i m ?_
    cases ready : v[i].ready? with
    | some _ => rw [ready] at holds; exact .inl holds
    | none => rw [ready] at holds; exact .inr holds

theorem Slots.fresh_eq {n m : Word32} (h : v.newestHeld = some m) : v.fresh n = newer n m := by
  unfold Slots.fresh
  rw [h]

/-- R75, R76: a header judged, by R75's checks in their order. -/
theorem judgeHeader_cases (u : State) (n : Word32) (id w h : Nat) :
    (id ≠ c.val → u.judgeHeader c n id w h = u.noted c .misroute) ∧
    (id = c.val → u.sizeMatches c w h = false → u.judgeHeader c n id w h = u.noted c .size) ∧
    (id = c.val → u.sizeMatches c w h = true → 4 ≤ u.capture[c].stale →
      u.judgeHeader c n id w h = (u.resync c).modSlots c (Slots.claim n w h)) ∧
    (id = c.val → u.sizeMatches c w h = true → u.capture[c].stale < 4 →
      (u.capture[c].slots.fresh n = true →
        u.judgeHeader c n id w h = u.modCapture c fun cap => { cap with stale := 0, slots := cap.slots.claim n w h }) ∧
      (u.capture[c].slots.fresh n = false →
        u.judgeHeader c n id w h =
          (u.modCapture c fun cap => { cap with stale := cap.stale + 1 }).noted c .stale)) := by
  unfold State.judgeHeader
  refine ⟨fun route => if_pos route, fun route size => ?_, fun route size stale => ?_, fun route size stale => ⟨fun fresh => ?_,
    fun old => ?_⟩⟩
  · rw [if_neg (not_not.2 route), size]
    rfl
  · rw [if_neg (not_not.2 route), size, if_neg (by decide), if_pos stale]
  · rw [if_neg (not_not.2 route), size, if_neg (by decide), if_neg (Nat.not_le.2 stale), if_pos fresh]
  · rw [if_neg (not_not.2 route), size, if_neg (by decide), if_neg (Nat.not_le.2 stale), old]
    rfl

/-- A header taken by a capturing channel, by whether a slot is FILLING. -/
theorem takeHeader_cases (u : State) (n : Word32) (id w h : Nat) :
    ((∀ i : SlotIx, u.capture[c].slots[i].isFilling = false) → u.takeHeader c n id w h = u.judgeHeader c n id w h) ∧
    ∀ i : SlotIx, u.capture[c].slots.ok → u.capture[c].slots[i].isFilling = true →
      u.takeHeader c n id w h = (u.fillFailed c i .short).judgeHeader c n id w h := by
  refine ⟨fun none => ?_, fun i ok filling => ?_⟩
  · unfold State.takeHeader
    rw [Slots.any_noFilling none]
    rfl
  · unfold State.takeHeader
    rw [if_pos (Slots.any_filling filling), failFill_eq .short ok filling]

theorem fillFailed_capture (u : State) (i : SlotIx) (r : InputReason) : (u.fillFailed c i r).capture[c] =
    { u.capture[c] with slots := u.capture[c].slots.set i .free, lastReason := r } :=
  (raise_capture_get _ _).trans (State.modCapture_capture_same _ c _)

/-! ### The slot that a header claims -/

theorem Slots.find_lowest {p : SlotRec → Bool} {i j : SlotIx} (h : v.find p = some i) (lower : j < i) : p v[j] = false := by
  obtain ⟨-, k, hk, at_k, before⟩ := List.find?_eq_some_iff_getElem.1 h
  have ix : k = i.val := by rw [← at_k, List.getElem_finRange]; rfl
  have fails := before j.val (ix ▸ lower)
  rw [List.getElem_finRange, Bool.not_eq_true'] at fails
  exact fails

/-- R78: the slot that a header claims when none is FILLING. -/
theorem Slots.claimIx_cases (noFilling : ∀ i : SlotIx, v[i].isFilling = false) (ok : v.ok) :
    ∃ i : SlotIx, v.claimIx = some i ∧
      (v[i] = .free ∧ (∀ j : SlotIx, j < i → v[j] ≠ .free) ∨
        (∀ j : SlotIx, v[j] ≠ .free) ∧ v[i].ready?.isSome ∧ v[i].ready? = oldestOf v.readyFrames) := by
  unfold Slots.claimIx
  cases free : v.find (fun r => decide (r = .free)) with
  | some i =>
    exact ⟨i, rfl, .inl ⟨of_decide_eq_true (Slots.find_some free), fun j lower =>
      of_decide_eq_false (Slots.find_lowest free lower)⟩⟩
  | none =>
    have none (j : SlotIx) : v[j] ≠ .free := of_decide_eq_false (Slots.find_none free j)
    have held (j : SlotIx) : v[j].isShowing = true ∨ ∃ n w h, v[j] = .ready n w h := by
      cases slot : v[j] with
      | free => exact absurd slot (none j)
      | filling => have := noFilling j; rw [slot] at this; cases this
      | ready n w h => exact .inr ⟨n, w, h, rfl⟩
      | showing => exact .inl rfl
    have ready : v.readyFrames ≠ [] := fun nil => by
      have showing (j : SlotIx) : v[j].isShowing = true := (held j).elim id fun ⟨n, w, h, slot⟩ =>
        absurd (Slots.mem_readyFrames.2 ⟨j, w, h, slot⟩) (by rw [nil]; simp)
      exact absurd ((v.ok_iff.1 ok).2.1 0 1 (showing 0) (showing 1)) (by decide)
    cases oldest : oldestOf v.readyFrames with
    | none => exact absurd ((oldestOf_eq_none_iff _).1 oldest) ready
    | some n =>
      obtain ⟨i, hi⟩ := Slots.readyIx_isSome (decide_eq_true (oldestOf_mem oldest))
      obtain ⟨w, h, slot⟩ := Slots.readyIx_some hi
      exact ⟨i, hi, .inr ⟨none, by rw [slot]; rfl, by rw [slot]; rfl⟩⟩

/-- R77: a resync, slot by slot. -/
theorem Slots.resync_get (v : Slots) (i : SlotIx) : v.freeReady.mark[i] =
    match v[i] with
    | .ready _ _ _ => .free
    | .showing m w' h' _ => .showing m w' h' true
    | r => r := by
  rw [Slots.mark, Slots.getElem_each, Slots.freeReady, Slots.getElem_each]
  cases v[i] <;> rfl

/-- R75, R76: what a header does in state `u`, judged by the values of `s`. -/
theorem judgeHeader_next {u : State} {n : Word32} {id w h : Nat} {o : Host.Outcome State Fault Refusal}
    (run : o = .next (u.judgeHeader c n id w h).beginSends) (record : u.activeRecord c = s.activeRecord c)
    (count : u.capture[c].stale = s.capture[c].stale) :
    let sized := w = Rec.wIn (s.activeRecord c) ∧ h = Rec.hIn (s.activeRecord c) ∧ frameSizeOk w h
    let older := ∀ i : SlotIx, ∀ m, (u.capture[c].slots[i].ready? = some m ∨ u.capture[c].slots[i].shown? = some m) →
      newer n m = true
    (id ≠ c.val → o = .next (u.noted c .misroute).beginSends) ∧
    (id = c.val → ¬ sized → o = .next (u.noted c .size).beginSends) ∧
    (id = c.val → sized → s.capture[c].stale = 4 →
      o = .next (((u.modCapture c fun cap =>
        { cap with slots := cap.slots.freeReady.mark, stale := 0 }).noted c .resync).modSlots c
          (Slots.claim n w h)).beginSends) ∧
    (id = c.val → sized → s.capture[c].stale < 4 → older →
      o = .next (u.modCapture c fun cap => { cap with stale := 0, slots := cap.slots.claim n w h }).beginSends) ∧
    (id = c.val → sized → s.capture[c].stale < 4 → (∃ m, u.capture[c].slots.newestHeld = some m ∧ newer n m = false) →
      o = .next ((u.modCapture c fun cap => { cap with stale := cap.stale + 1 }).noted c .stale).beginSends) := by
  intro sized older
  obtain ⟨misroute, size, resync, judged⟩ := judgeHeader_cases (c := c) u n id w h
  have fits : u.sizeMatches c w h = true ↔ sized := by rw [sizeMatches_iff, record]
  rw [count] at resync judged
  refine ⟨fun route => ?_, fun route bad => ?_, fun route good stale => ?_, fun route good stale fresh => ?_,
    fun route good stale => ?_⟩
  · exact run.trans (sends_congr (misroute route))
  · exact run.trans (sends_congr (size route (Bool.eq_false_iff.2 fun h => bad (fits.1 h))))
  · exact run.trans (sends_congr (resync route (fits.2 good) stale.ge))
  · exact run.trans (sends_congr ((judged route (fits.2 good) stale).1 (Slots.fresh_of_newer fresh)))
  · rintro ⟨m, held, old⟩
    exact run.trans (sends_congr ((judged route (fits.2 good) stale).2 ((Slots.fresh_eq held).trans old)))

theorem seen_slots (elapsed : Nat) : (s.seen c elapsed).capture[c].slots = s.capture[c].slots := by rw [seen_capture]

theorem seen_record (elapsed : Nat) : (s.seen c elapsed).activeRecord c = s.activeRecord c := by rw [seen_rest]; rfl

/-- Settles O36. -/
theorem frameHeadersAreJudged : Obligations.FrameHeadersAreJudged := by
  refine ⟨?_, fun v n w h noFilling ok => ⟨?_, Slots.resync_get v⟩⟩
  · intro s c elapsed n id w h running off standby
    have run : exec (.frameHeader c elapsed n id w h) s = .next ((s.seen c elapsed).takeHeader c n id w h).beginSends :=
      sends_congr ((arrival_running running).trans (if_pos ((Mode.captures_iff _).2 ⟨off, standby⟩)))
    obtain ⟨free, fill⟩ := takeHeader_cases (c := c) (s.seen c elapsed) n id w h
    have slots := seen_slots (s := s) (c := c) elapsed
    rw [slots] at free fill
    refine ⟨fun none => ?_, fun i ok filling => ?_⟩
    · exact judgeHeader_next (run.trans (sends_congr (free none))) (seen_record elapsed) (by rw [seen_capture])
    · refine judgeHeader_next (run.trans (sends_congr (fill i ok filling))) (seen_record elapsed) ?_
      rw [fillFailed_capture, seen_capture]
  · obtain ⟨i, claimed, which⟩ := Slots.claimIx_cases noFilling ok
    refine ⟨i, ?_, which⟩
    unfold Slots.claim
    rw [claimed]

/-! ### Lines and ends of frames -/

theorem takeLine_filling {i : SlotIx} {n : Word32} {w h lines : Nat} (ps : List Pixel) (ok : s.capture[c].slots.ok)
    (slot : s.capture[c].slots[i] = .filling n w h lines) : s.takeLine c ps =
      if h ≤ lines then s.fillFailed c i .long
      else if ps.length ≠ w then s.fillFailed c i .badLine
      else { s with frameMem := Cells.write zeroByte s.frameMem (pixelAddress c i 0 lines) (lineBytes ps) }.modSlots c
        fun v => v.set i (.filling n w h (lines + 1)) := by
  have filling : s.capture[c].slots[i].isFilling = true := by rw [slot]; rfl
  unfold State.takeLine
  rw [Slots.find_filling ok filling]
  dsimp only
  rw [slot]
  dsimp only
  rw [failFill_eq _ ok filling, failFill_eq _ ok filling]

theorem takeEnd_filling {i : SlotIx} {n : Word32} {w h lines : Nat} (ok : s.capture[c].slots.ok)
    (slot : s.capture[c].slots[i] = .filling n w h lines) : s.takeEnd c =
      if lines < h then s.fillFailed c i .short
      else if s.sizeMatches c w h then s.modSlots c fun v => v.set i (.ready n w h)
      else s.fillFailed c i .size := by
  have filling : s.capture[c].slots[i].isFilling = true := by rw [slot]; rfl
  unfold State.takeEnd
  rw [Slots.find_filling ok filling]
  dsimp only
  rw [slot]
  dsimp only
  rw [failFill_eq _ ok filling, failFill_eq _ ok filling]

theorem lineBytes_length (ps : List Pixel) : (lineBytes ps).length = 4 * ps.length := by
  induction ps with
  | nil => rfl
  | cons p ps ih => 
    change (leBytes 4 (pixelWord p) ++ lineBytes ps).length = _
    rw [List.length_append, ih, length_leBytes, List.length_cons]
    omega

/-- R69: byte `k` of a line's bytes. -/
theorem lineBytes_get (ps : List Pixel) : ∀ (k : Nat) (h : k < (lineBytes ps).length),
    (lineBytes ps)[k] = match ps[k / 4]? with
      | some p => BitVec.ofNat 8 ((p.r.toNat + 2 ^ 10 * p.g.toNat + 2 ^ 20 * p.b.toNat) / 256 ^ (k % 4))
      | none => 0 := by
  induction ps with
  | nil => intro k h; cases h
  | cons p ps ih =>
    intro k h
    match k with
    | 0 => simp [lineBytes, leBytes, pixelWord]
    | 1 => simp [lineBytes, leBytes, pixelWord]
    | 2 => simp [lineBytes, leBytes, pixelWord, Nat.div_div_eq_div_mul]
    | 3 => simp [lineBytes, leBytes, pixelWord, Nat.div_div_eq_div_mul]
    | k + 4 =>
      have short : k < (lineBytes ps).length := by
        rw [lineBytes_length] at h ⊢
        rw [List.length_cons] at h
        omega
      have quotient : (k + 4) / 4 = k / 4 + 1 := by omega
      have rest : (k + 4) % 4 = k % 4 := by omega
      rw [quotient, rest, List.getElem?_cons_succ]
      exact ih k short

/-- R69: where a line's bytes go. -/
theorem read_lineBytes (mem : Cells) (base w : Nat) {ps : List Pixel} (width : ps.length = w) (a : Nat) :
    Cells.read zeroByte (Cells.write zeroByte mem base (lineBytes ps)) a =
      if base ≤ a ∧ a < base + 4 * w then
        match ps[(a - base) / 4]? with
        | some p => BitVec.ofNat 8 ((p.r.toNat + 2 ^ 10 * p.g.toNat + 2 ^ 20 * p.b.toNat) / 256 ^ ((a - base) % 4))
        | none => 0
      else Cells.read zeroByte mem a := by
  have length : (lineBytes ps).length = 4 * w := by rw [lineBytes_length, width]
  by_cases inside : base ≤ a ∧ a < base + 4 * w
  · rw [if_pos inside]
    obtain ⟨start, finish⟩ := inside
    have at_ : a = base + (a - base) := by omega
    have short : a - base < (lineBytes ps).length := by omega
    calc Cells.read zeroByte (Cells.write zeroByte mem base (lineBytes ps)) a
        = Cells.read zeroByte (Cells.write zeroByte mem base (lineBytes ps)) (base + (a - base)) := congrArg _ at_
      _ = (lineBytes ps)[a - base] := Cells.read_write_in _ _ _ _ _ short
      _ = _ := lineBytes_get ps _ short
  · rw [if_neg inside]
    exact Cells.read_write_out _ _ _ _ _ (by omega)

/-- Settles O37, by the tests of R79 and R80 in their order. -/
theorem fillsTakeLinesAndEnd : Obligations.FillsTakeLinesAndEnd := by
  constructor
  · intro s c elapsed ps i n w h lines running off standby ok slot o
    have captures := (Mode.captures_iff s.pipes[c].mode).2 ⟨off, standby⟩
    have slots := seen_slots (s := s) (c := c) elapsed
    have taken := takeLine_filling (s := s.seen c elapsed) ps (by rw [slots]; exact ok) (by rw [slots]; exact slot)
    have run {t : State} (h : (s.seen c elapsed).takeLine c ps = t) : o = .next t.beginSends :=
      sends_congr ((arrival_running running).trans ((if_pos captures).trans h))
    refine ⟨fun long => run ?_, fun room bad => run ?_, fun room width => ?_⟩
    · rw [taken, if_pos long]
    · rw [taken, if_neg (Nat.not_le.2 room), if_pos bad]
    · rw [if_neg (Nat.not_le.2 room), if_neg (not_not.2 width)] at taken
      refine ⟨_, run taken, fun a => ?_, rfl⟩
      have memory : (s.seen c elapsed).frameMem = s.frameMem := by rw [seen_rest]
      have base : pixelAddress c i 0 lines = (3 * c.val + i.val) * 35389440 + 16384 * lines := by
        unfold pixelAddress Config.slotBytes Config.rowPitch
        rw [Nat.mul_zero, Nat.add_zero]
      change Cells.read zeroByte (Cells.write zeroByte (s.seen c elapsed).frameMem (pixelAddress c i 0 lines) (lineBytes ps)) a = _
      rw [memory, base]
      exact read_lineBytes _ _ w width a
  · intro s c elapsed i n w h lines running off standby ok slot o sized
    have captures := (Mode.captures_iff s.pipes[c].mode).2 ⟨off, standby⟩
    have slots := seen_slots (s := s) (c := c) elapsed
    have taken := takeEnd_filling (s := s.seen c elapsed) (by rw [slots]; exact ok) (by rw [slots]; exact slot)
    have run {t : State} (h : (s.seen c elapsed).takeEnd c = t) : o = .next t.beginSends :=
      sends_congr ((arrival_running running).trans ((if_pos captures).trans h))
    have fits : (s.seen c elapsed).sizeMatches c w h = true ↔ sized := by
      have fields := ((Slots.ok_iff _).1 ok).2.2 i
      rw [slot] at fields
      have size : frameSizeOk w h := (of_decide_eq_true fields).1
      rw [sizeMatches_iff, seen_record]
      exact ⟨fun ⟨width, height, _⟩ => ⟨width, height⟩, fun ⟨width, height⟩ => ⟨width, height, size⟩⟩
    refine ⟨fun short => run ?_, fun full bad => run ?_, fun full good => run ?_⟩
    · rw [taken, if_pos short]
    · rw [taken, if_neg (Nat.not_lt.2 full), if_neg fun h => bad (fits.1 h)]
    · rw [taken, if_neg (Nat.not_lt.2 full), if_pos (fits.2 good)]
      rfl

end Sys2Proof.Machine
end

section
/-! SUPPORT. The correction computation (R30 to R49): the ranges of its stages, and each stage written out. -/

namespace Sys2Proof.Machine

/-! ### Ranges of the stages -/

/-- R33: a bilinear mean of four values, in units of the cell's area, lies between them. -/
theorem bilinear_mem {a b c d lo hi fx fy cx cy : Int} (x0 : 0 ≤ fx) (x1 : fx ≤ cx) (y0 : 0 ≤ fy) (y1 : fy ≤ cy)
    (ha : lo ≤ a ∧ a ≤ hi) (hb : lo ≤ b ∧ b ≤ hi) (hc : lo ≤ c ∧ c ≤ hi) (hd : lo ≤ d ∧ d ≤ hi) :
    lo * (cx * cy) ≤ (a * (cx - fx) + b * fx) * (cy - fy) + (c * (cx - fx) + d * fx) * fy ∧
      (a * (cx - fx) + b * fx) * (cy - fy) + (c * (cx - fx) + d * fx) * fy ≤ hi * (cx * cy) := by
  have mean {p q : Int} (hp : lo ≤ p ∧ p ≤ hi) (hq : lo ≤ q ∧ q ≤ hi) :
      lo * cx ≤ p * (cx - fx) + q * fx ∧ p * (cx - fx) + q * fx ≤ hi * cx := by
    constructor
    · nlinarith [mul_le_mul_of_nonneg_right hp.1 (sub_nonneg.2 x1), mul_le_mul_of_nonneg_right hq.1 x0]
    · nlinarith [mul_le_mul_of_nonneg_right hp.2 (sub_nonneg.2 x1), mul_le_mul_of_nonneg_right hq.2 x0]
  obtain ⟨top0, top1⟩ := mean ha hb
  obtain ⟨bottom0, bottom1⟩ := mean hc hd
  constructor
  · nlinarith [mul_le_mul_of_nonneg_right top0 (sub_nonneg.2 y1), mul_le_mul_of_nonneg_right bottom0 y0]
  · nlinarith [mul_le_mul_of_nonneg_right top1 (sub_nonneg.2 y1), mul_le_mul_of_nonneg_right bottom1 y0]

/-- Rounding half up keeps whole bounds. -/
theorem round_mem {v lo hi area : Int} (pos : 0 < area) (h : lo * area ≤ v ∧ v ≤ hi * area) :
    lo ≤ (v + area / 2) / area ∧ (v + area / 2) / area ≤ hi := by
  constructor
  · rw [Int.le_ediv_iff_mul_le pos]
    omega
  · rw [← Int.lt_add_one_iff, Int.ediv_lt_iff_lt_mul pos, Int.add_mul]
    omega

theorem interpolate_mem (cell : Cell) (a b c d lo hi : Int) (x : cell.fx < cell.cx) (y : cell.fy < cell.cy)
    (h : ∀ v ∈ [a, b, c, d], lo ≤ v ∧ v ≤ hi) :
    lo ≤ interpolate cell a b c d ∧ interpolate cell a b c d ≤ hi := by
  simp only [List.forall_mem_cons] at h
  obtain ⟨ha, hb, hc, hd, -⟩ := h
  have pos : 0 < (cell.cx : Int) * cell.cy := mul_pos (by omega) (by omega)
  exact round_mem pos (bilinear_mem (by omega) (by omega) (by omega) (by omega) ha hb hc hd)

/-- R38 as the interpolation in a cell of 64 by 64. -/
theorem filterValue_eq_interpolate {p00 p10 p01 p11 au av : Nat} (hu : au < 64) (hv : av < 64) :
    (filterValue p00 p10 p01 p11 au av : Int) = interpolate ⟨0, 0, au, av, 64, 64⟩ p00 p10 p01 p11 := by
  simp only [filterValue, interpolate]
  push_cast [hu.le, hv.le]
  rfl

theorem filterValue_mem (p00 p10 p01 p11 au av lo hi : Nat) (hu : au < 64) (hv : av < 64)
    (h : ∀ p ∈ [p00, p10, p01, p11], lo ≤ p ∧ p ≤ hi) :
    lo ≤ filterValue p00 p10 p01 p11 au av ∧ filterValue p00 p10 p01 p11 au av ≤ hi := by
  have inside := interpolate_mem ⟨0, 0, au, av, 64, 64⟩ p00 p10 p01 p11 lo hi hu hv (by
    simp only [List.forall_mem_cons, List.not_mem_nil, false_implies, implies_true, and_true] at h ⊢
    omega)
  rw [← filterValue_eq_interpolate hu hv] at inside
  omega

theorem applyGain_le {l g : Nat} (hg : g ≤ 4096) : applyGain l g ≤ l := by
  unfold applyGain
  have := Nat.mul_le_mul_left l hg
  omega

theorem applyLift_le {l lift : Nat} (hl : l ≤ 65535) (h : lift ≤ 65535) : applyLift l lift ≤ 65535 := by
  unfold applyLift
  have := Nat.mul_le_mul_right (65535 - lift) hl
  omega

theorem applyLift_full {lift : Nat} (h : lift ≤ 65535) : applyLift 65535 lift = 65535 := by
  unfold applyLift
  omega

theorem applyLift_zero (l : Nat) : applyLift l 0 = l := by
  unfold applyLift
  omega

/-! ### Fields as Pipeline c reads them (R49) -/

theorem clampNat_mem {lo hi v : Nat} (h : lo ≤ hi) : lo ≤ clampNat lo hi v ∧ clampNat lo hi v ≤ hi := by
  unfold clampNat
  split
  · omega
  · split <;> omega

/-- R49: an unsigned field read lies in the range of its table. -/
theorem clampedNat_mem (r : Cells) {a lo hi : Nat} (field : (recordField a).treat = .unsigned lo hi) (h : lo ≤ hi)
    (size : hi < 256 ^ (recordField a).size) : lo ≤ Rec.clampedNat r a ∧ Rec.clampedNat r a ≤ hi := by
  have length : (Cells.bytes defaultByte r a (recordField a).size).length = (recordField a).size := by simp [Cells.bytes]
  have clamped := clampNat_mem (v := leNat (Cells.bytes defaultByte r a (recordField a).size)) h
  unfold Rec.clampedNat Rec.clampedBytes
  rw [field]
  unfold Treatment.store
  dsimp only
  rw [leNat_leBytes, length, Nat.mod_eq_of_lt (by omega)]
  exact clamped

theorem recordField_regamma {a : Nat} (h : 101448 ≤ a) :
    recordField a = ⟨101448 + 2 * ((a - 101448) / 2), 2, .unsigned 0 1023⟩ := by
  unfold recordField
  rw [if_neg (by omega), if_neg (by omega), if_neg (by omega), if_neg (by omega)]

theorem regammaEntry_le (r : Cells) (q : Nat) : regammaEntry r q ≤ 1023 := by
  have field := recordField_regamma (a := 101448 + 2 * q) (by omega)
  exact (clampedNat_mem r (by rw [field]) (by decide) (by rw [field]; exact (by decide : 1023 < 256 ^ 2))).2

theorem regamma_le (r : Cells) (f : Nat) : regamma r f ≤ 1023 := by
  have low := Nat.mul_le_mul_right (64 - f % 64) (regammaEntry_le r (f / 64))
  have high := Nat.mul_le_mul_right (f % 64) (regammaEntry_le r (f / 64 + 1))
  unfold regamma regammaBetween
  omega

theorem outputWidth_pos (r : Cells) : 0 < Rec.clampedNat r 4 :=
  Nat.lt_of_lt_of_le (by decide) (clampedNat_mem r (lo := 640) (hi := 2560) rfl (by decide) (by decide)).1

theorem gridExponent_mem (r : Cells) : 3 ≤ Rec.clampedNat r 36 ∧ Rec.clampedNat r 36 ≤ 8 :=
  clampedNat_mem r rfl (by decide) (by decide)

/-- R16 for a size that is not 0. -/
theorem gridDim_eq {size : Nat} (h : 0 < size) (exponent : Nat) : gridDim size exponent = (size - 1) / 2 ^ exponent + 2 := by
  unfold gridDim
  have : ((size : Int) - 1) / (2 ^ exponent : Nat) + 2 = ((size - 1) / 2 ^ exponent + 2 : Nat) := by
    push_cast [h]
    rfl
  rw [this, Int.toNat_natCast]

/-! ### The stages written out -/

theorem clampInt_eq {lo hi : Int} (h : lo ≤ hi) (v : Int) : clampInt lo hi v = max lo (min hi v) := by
  unfold clampInt
  split
  · omega
  · split <;> omega

theorem clampIndex_eq (i : Int) (size : Nat) : clampIndex i size = (max 0 (min ((size : Int) - 1) i)).toNat := by
  unfold clampIndex clampInt
  split
  · omega
  · split <;> omega

theorem matrixRow_eq (m0 m1 m2 : Int) (lr lg lb : Nat) : matrixRow m0 m1 m2 lr lg lb =
    (max 0 (min 65535 ((m0 * lr + m1 * lg + m2 * lb + 2048) / 4096))).toNat :=
  congrArg Int.toNat (clampInt_eq (by decide) _)

theorem fetchCode_eq (mem : Cells) (a component : Nat) :
    fetchCode mem a component = leNat (Cells.bytes zeroByte mem a 4) / 1024 ^ component % 1024 := by
  unfold fetchCode
  rw [Nat.pow_mul]

theorem pixelAddress_eq (c : Chan) (s : SlotIx) (i j : Nat) :
    pixelAddress c s i j = (3 * c.val + s.val) * 35389440 + 16384 * j + 4 * i := by
  unfold pixelAddress Config.slotBytes Config.rowPitch
  rfl

/-- R44: the interpolation of unsigned corner values. -/
theorem interpolate_toNat (cell : Cell) (a b c d : Nat) (x : cell.fx ≤ cell.cx) (y : cell.fy ≤ cell.cy) :
    (interpolate cell a b c d).toNat =
      ((a * (cell.cx - cell.fx) + b * cell.fx) * (cell.cy - cell.fy) + (c * (cell.cx - cell.fx) + d * cell.fx) * cell.fy +
        cell.cx * cell.cy / 2) / (cell.cx * cell.cy) := by
  have : interpolate cell a b c d =
      (((a * (cell.cx - cell.fx) + b * cell.fx) * (cell.cy - cell.fy) + (c * (cell.cx - cell.fx) + d * cell.fx) * cell.fy +
        cell.cx * cell.cy / 2) / (cell.cx * cell.cy) : Nat) := by
    unfold interpolate
    push_cast [x, y]
    rfl
  rw [this, Int.toNat_natCast]

theorem cellOf_inside (ex ey x y : Nat) : (cellOf ex ey x y).fx < (cellOf ex ey x y).cx ∧
    (cellOf ex ey x y).fy < (cellOf ex ey x y).cy :=
  ⟨Nat.mod_lt _ (Nat.two_pow_pos _), Nat.mod_lt _ (Nat.two_pow_pos _)⟩

theorem outside_iff (u v : Int) (ws hs : Nat) : outside u v ws hs = false ↔
    -64 ≤ u ∧ u < 64 * (ws : Int) ∧ -64 ≤ v ∧ v < 64 * (hs : Int) := by
  simp only [outside, Bool.or_eq_false_iff, decide_eq_false_iff_not]
  omega

/-- R37 to R41: what an unmasked pixel inside its source finishes. -/
theorem outputPixel_inside (mem r : Cells) (c : Chan) (src : Option SourceFrame) (x y : Nat) (masked : pixelMasked r x y = false)
    (inside : outside (pixelUV r x y).1 (pixelUV r x y).2 (sourceSize r src).1 (sourceSize r src).2 = false) :
    let u := (pixelUV r x y).1
    let v := (pixelUV r x y).2
    let sample := sampleOrZero mem c src u v
    let g := gridValue (Rec.clampedNat r 36) (u / 64) (v / 64)
    outputPixel mem r c .live src x y = finishPixel r x y (sample 0) (sample 1) (sample 2) ∧
    outputPixel mem r c .hold src x y = finishPixel r x y (sample 0) (sample 1) (sample 2) ∧
    outputPixel mem r c .grid src x y = finishPixel r x y g g g := by
  simp only [outputPixel, masked, inside, Bool.false_eq_true, if_false, and_self]

/-- R31, R35: what an output pixel is, by its mode: black, or finished from three values. -/
theorem outputPixel_cases (mem r : Cells) (c : Chan) (mode : Mode) (src : Option SourceFrame) (x y : Nat) :
    outputPixel mem r c mode src x y = Codes.black ∨
      ∃ vr vg vb, outputPixel mem r c mode src x y = finishPixel r x y vr vg vb := by
  unfold outputPixel
  cases mode <;> dsimp only
  case off => exact .inl rfl
  case standby => exact .inl rfl
  case flat =>
    split
    · exact .inl rfl
    · exact .inr ⟨_, _, _, rfl⟩
  all_goals
    split
    · exact .inl rfl
    · split
      · exact .inl rfl
      · exact .inr ⟨_, _, _, rfl⟩

theorem outputPixel_masked (mem r : Cells) (c : Chan) (mode : Mode) (src : Option SourceFrame) (x y : Nat)
    (h : mode = .standby ∨ pixelMasked r x y = true) : outputPixel mem r c mode src x y = Codes.black := by
  rcases h with rfl | h
  · rfl
  · cases mode <;> simp only [outputPixel, h, if_true]

theorem outputPixel_outside (mem r : Cells) (c : Chan) (mode : Mode) (src : Option SourceFrame) (x y : Nat)
    (flat : mode ≠ .flat)
    (h : outside (pixelUV r x y).1 (pixelUV r x y).2 (sourceSize r src).1 (sourceSize r src).2 = true) :
    outputPixel mem r c mode src x y = Codes.black := by
  cases mode with
  | flat => exact absurd rfl flat
  | off => rfl
  | standby => rfl
  | _ => simp only [outputPixel, h, if_true, ite_self]

theorem nodeMasked_iff (r : Cells) (e : Nat) : nodeMasked r e = true ↔
    4225 ≤ e ∨ (Cells.read defaultByte r (64 + 8 * e + 6)).getLsbD 0 = true := by
  simp only [nodeMasked, nodeOffset, Bool.or_eq_true, decide_eq_true_eq]
  rfl

theorem pipeGx_eq (r : Cells) : pipeGx r = (Rec.clampedNat r 4 - 1) / 2 ^ Rec.clampedNat r 8 + 2 :=
  gridDim_eq (outputWidth_pos r) _

theorem pipeHx_eq (r : Cells) : pipeHx r = (Rec.clampedNat r 4 - 1) / 2 ^ Rec.clampedNat r 10 + 2 :=
  gridDim_eq (outputWidth_pos r) _

theorem pixelMasked_iff (r : Cells) (x y : Nat) :
    let a := y / 2 ^ Rec.clampedNat r 9 * pipeGx r + x / 2 ^ Rec.clampedNat r 8
    pixelMasked r x y = true ↔ ∃ e ∈ [a, a + 1, a + pipeGx r, a + pipeGx r + 1],
      4225 ≤ e ∨ (Cells.read defaultByte r (64 + 8 * e + 6)).getLsbD 0 = true := by
  simp only [List.exists_mem_cons_iff, List.not_mem_nil, false_and, exists_false, or_false, ← nodeMasked_iff]
  simp only [pixelMasked, corners, geometryCell, cellOf, Bool.or_eq_true, or_assoc]

/-- R44, R46: a blend value of a pixel, at byte `field` of its entries. -/
def blendValue (r : Cells) (x y field : Nat) : Nat :=
  let bx := 2 ^ Rec.clampedNat r 10
  let rows := 2 ^ Rec.clampedNat r 11
  let hx := (Rec.clampedNat r 4 - 1) / bx + 2
  let a := y / rows * hx + x / bx
  let value := fun e : Nat => Rec.clampedNat r (33864 + 4 * e + field)
  let top := value a * (bx - x % bx) + value (a + 1) * (x % bx)
  let bottom := value (a + hx) * (bx - x % bx) + value (a + hx + 1) * (x % bx)
  (top * (rows - y % rows) + bottom * (y % rows) + bx * rows / 2) / (bx * rows)

theorem blendAt_eq (r : Cells) (x y : Nat) : blendAt r x y = (blendValue r x y 0, blendValue r x y 2) := by
  obtain ⟨width, height⟩ := cellOf_inside (Rec.clampedNat r 10) (Rec.clampedNat r 11) x y
  unfold blendAt blendValue
  dsimp only [corners]
  rw [pipeHx_eq]
  exact Prod.ext (interpolate_toNat _ _ _ _ _ width.le height.le) (interpolate_toNat _ _ _ _ _ width.le height.le)

/-- R42 to R47: the code of component `k` of a pixel. -/
def finishedCode (r : Cells) (x y : Nat) (vals : Nat × Nat × Nat) (k : Nat) : Nat :=
  let sum := (matrixEntry r k 0 * degamma r vals.1 + matrixEntry r k 1 * degamma r vals.2.1 +
    matrixEntry r k 2 * degamma r vals.2.2 + 2048) / 4096
  let light := (max 0 (min 65535 sum)).toNat
  let faded := (light * blendValue r x y 0 + 2048) / 4096
  let lifted := blendValue r x y 2 + (faded * (65535 - blendValue r x y 2) + 32767) / 65535
  (regammaEntry r (lifted / 64) * (64 - lifted % 64) + regammaEntry r (lifted / 64 + 1) * (lifted % 64) + 32) / 64

theorem finishPixel_eq (r : Cells) (x y : Nat) (vals : Nat × Nat × Nat) :
    finishPixel r x y vals.1 vals.2.1 vals.2.2 =
      ⟨finishedCode r x y vals 0, finishedCode r x y vals 1, finishedCode r x y vals 2⟩ := by
  unfold finishPixel
  rw [blendAt_eq]
  simp only [matrixRow_eq]
  rfl

/-- R36 to R38, R69: a filtered component of a source frame. -/
def filteredComponent (mem : Cells) (c : Chan) (f : SourceFrame) (u v : Int) (component : Nat) : Nat :=
  let fetch := fun di dj : Int =>
    let i := (max 0 (min ((f.width : Int) - 1) (u / 64 + di))).toNat
    let j := (max 0 (min ((f.height : Int) - 1) (v / 64 + dj))).toNat
    let word := leNat (Cells.bytes zeroByte mem ((3 * c.val + f.slot.val) * 35389440 + 16384 * j + 4 * i) 4)
    word / 1024 ^ component % 1024
  let au := (u - 64 * (u / 64)).toNat
  let av := (v - 64 * (v / 64)).toNat
  let t := fetch 0 0 * (64 - au) + fetch 1 0 * au
  let b := fetch 0 1 * (64 - au) + fetch 1 1 * au
  (t * (64 - av) + b * av + 2048) / 4096

theorem sampleSource_eq (mem : Cells) (c : Chan) (f : SourceFrame) (u v : Int) (component : Nat) :
    sampleSource mem c f u v component = filteredComponent mem c f u v component := by
  unfold sampleSource filteredComponent filterValue
  simp only [clampIndex_eq, fetchCode_eq, pixelAddress_eq, Int.add_zero]

/-- R32: a position of a pixel, interpolated from byte `field` of its corner nodes. -/
theorem pixelUV_eq (r : Cells) (x y : Nat) :
    let cell := geometryCell r x y
    let gx := (Rec.clampedNat r 4 - 1) / 2 ^ Rec.clampedNat r 8 + 2
    let a := y / 2 ^ Rec.clampedNat r 9 * gx + x / 2 ^ Rec.clampedNat r 8
    pixelUV r x y =
      (interpolate cell (nodeU r a) (nodeU r (a + 1)) (nodeU r (a + gx)) (nodeU r (a + gx + 1)),
        interpolate cell (nodeV r a) (nodeV r (a + 1)) (nodeV r (a + gx)) (nodeV r (a + gx + 1))) := by
  unfold pixelUV
  rw [pipeGx_eq]
  rfl

theorem finishPixel_le (r : Cells) (x y vr vg vb : Nat) :
    (finishPixel r x y vr vg vb).r ≤ 1023 ∧ (finishPixel r x y vr vg vb).g ≤ 1023 ∧ (finishPixel r x y vr vg vb).b ≤ 1023 :=
  ⟨regamma_le _ _, regamma_le _ _, regamma_le _ _⟩

/-- Settles O39. -/
theorem pixelStagesKeepTheirRanges : Obligations.PixelStagesKeepTheirRanges := by
  refine ⟨fun cell a b c d lo hi x y h => interpolate_mem cell a b c d lo hi x y h,
    fun p00 p10 p01 p11 au av lo hi hu hv h => filterValue_mem p00 p10 p01 p11 au av lo hi hu hv h,
    fun l g lift hl hg h => ?_, ?_⟩
  · have zero : applyGain l 0 = 0 := by unfold applyGain; omega
    have full : applyGain l 4096 = l := by unfold applyGain; omega
    have floor : applyLift 0 lift = lift := by unfold applyLift; omega
    exact ⟨applyGain_le hg, full, zero, Nat.le_add_right _ _, applyLift_le hl (by omega), floor, applyLift_full (by omega),
      applyLift_zero l⟩
  · intro mem r c mode src x y p masked u v wOut
    refine ⟨?_, outputPixel_masked mem r c mode src x y, outputPixel_outside mem r c mode src x y, ⟨?_, ?_, ?_⟩, ?_⟩
    · obtain h | ⟨vr, vg, vb, h⟩ := outputPixel_cases mem r c mode src x y
      · simp only [p, h]
        decide
      · simp only [p, h]
        exact finishPixel_le r x y vr vg vb
    · have := pixelMasked_iff r x y
      rw [pipeGx_eq] at this
      exact this
    · exact congrArg Prod.fst (pixelUV_eq r x y)
    · exact congrArg Prod.snd (pixelUV_eq r x y)
    · intro deg reg m bx rows hx a blend code finished inside filtered unmasked
      have finish (vals : Nat × Nat × Nat) : finishPixel r x y vals.1 vals.2.1 vals.2.2 = finished vals :=
        finishPixel_eq r x y vals
      have sampled (f : SourceFrame) (k : Nat) : sampleOrZero mem c (some f) u v k = filtered f k :=
        sampleSource_eq mem c f u v k
      have within (s : Option SourceFrame) (h : inside (sourceSize r s).1 (sourceSize r s).2) :=
        outputPixel_inside mem r c s x y unmasked ((outside_iff _ _ _ _).2 h)
      have k := gridExponent_mem r
      clear_value finished filtered
      refine ⟨?_, fun f h => ?_, fun h => ?_, fun h => ⟨k, ?_⟩⟩
      · exact Eq.trans (if_neg (Bool.eq_false_iff.1 unmasked)) (finish (_, _, _))
      · obtain ⟨live, hold, -⟩ := within (some f) h
        have values := finish (filtered f 0, filtered f 1, filtered f 2)
        dsimp only at values live hold
        rw [← sampled, ← sampled, ← sampled] at values
        rw [live, hold, ← sampled, ← sampled, ← sampled]
        exact ⟨values, values⟩
      · obtain ⟨live, hold, -⟩ := within none h
        exact ⟨live.trans (finish (0, 0, 0)), hold.trans (finish (0, 0, 0))⟩
      · have h : inside (sourceSize r src).1 (sourceSize r src).2 := by
          rcases h with ⟨rfl, h⟩ | ⟨f, rfl, h⟩ <;> exact h
        obtain ⟨-, -, grid⟩ := within src h
        exact grid.trans (finish (_, _, _))

end Sys2Proof.Machine
end

section
/-! SUPPORT. The default record (R25) read field by field, and the correction computation carried through on it (R40). -/

namespace Sys2Proof.Machine

/-! ### The fields of the default record -/

/-- The bytes of a field that the default record holds as a little-endian value. -/
theorem bytes_default {a n v : Nat} (h : ∀ j < n, defaultByte (a + j) = ((leBytes n v)[j]?).getD 0) :
    Cells.bytes defaultByte [] a n = leBytes n v := by
  refine List.ext_getElem (by simp [Cells.bytes, length_leBytes]) fun j hj hj' => ?_
  have short : j < n := by simpa [Cells.bytes] using hj
  simp only [Cells.bytes, List.getElem_map, List.getElem_range]
  refine (h j short).trans ?_
  rw [List.getElem?_eq_getElem hj', Option.getD_some]

/-- An unsigned field whose stored value lies in its range reads as stored. -/
theorem clampedNat_default {a v lo hi size : Nat} (field : (recordField a).treat = .unsigned lo hi)
    (length : (recordField a).size = size) (bytes : Cells.bytes defaultByte [] a size = leBytes size v) (lower : lo ≤ v) (upper : v ≤ hi)
    (fits : v < 256 ^ size) : Rec.clampedNat [] a = v := by
  have clamp : clampNat lo hi v = v := by
    unfold clampNat
    rw [if_neg (Nat.not_lt.2 lower), if_neg (Nat.not_lt.2 upper)]
  unfold Rec.clampedNat Rec.clampedBytes
  rw [field, length, bytes]
  unfold Treatment.store
  dsimp only
  have value : leNat (leBytes size v) = v := by rw [leNat_leBytes, Nat.mod_eq_of_lt fits]
  rw [value, length_leBytes, clamp, value]

theorem degamma_default {v : Nat} (h : v ≤ 1023) : degamma [] v = 64 * v := by
  have field : recordField (99400 + 2 * v) = ⟨99400 + 2 * v, 2, .plain⟩ := by
    have : 99400 + 2 * ((99400 + 2 * v - 99400) / 2) = 99400 + 2 * v := by omega
    unfold recordField
    rw [if_neg (by omega), if_neg (by omega), if_neg (by omega), if_pos (by omega), this]
  have bytes : Cells.bytes defaultByte [] (99400 + 2 * v) 2 = leBytes 2 (64 * v) := bytes_default fun j hj => by
    have entry : (99400 + 2 * v + j - 99400) / 2 = v := by omega
    have rest : (99400 + 2 * v + j - 99400) % 2 = j := by omega
    unfold defaultByte
    rw [if_neg (by omega), if_neg (by omega), if_neg (by omega), if_pos (by omega), entry, rest]
  unfold degamma Rec.clampedNat Rec.clampedBytes
  rw [field]
  unfold Treatment.store
  dsimp only
  rw [bytes, leNat_leBytes, Nat.mod_eq_of_lt (by omega)]

theorem regammaEntry_default {q : Nat} (h : q ≤ 1024) : regammaEntry [] q = min q 1023 := by
  have field := recordField_regamma (a := 101448 + 2 * q) (by omega)
  have bytes : Cells.bytes defaultByte [] (101448 + 2 * q) 2 = leBytes 2 (min q 1023) := bytes_default fun j hj => by
    have entry : (101448 + 2 * q + j - 101448) / 2 = q := by omega
    have rest : (101448 + 2 * q + j - 101448) % 2 = j := by omega
    unfold defaultByte
    rw [if_neg (by omega), if_neg (by omega), if_neg (by omega), if_neg (by omega), if_pos (by omega), entry, rest]
  exact clampedNat_default (by rw [field]) (by rw [field]) bytes (Nat.zero_le _) (Nat.min_le_right _ _) (by omega)

/-- R25: the bytes of a blend entry of the default record. -/
theorem defaultByte_blend {e j : Nat} (he : e < 16384) (hj : j < 4) :
    defaultByte (33864 + 4 * e + j) = ((leBytes 4 4096)[j]?).getD 0 := by
  have rest : (33864 + 4 * e + j - 33864) % 4 = j := by omega
  unfold defaultByte
  rw [if_neg (by omega), if_neg (by omega), if_pos (by omega), rest]

theorem recordField_blend {e rel : Nat} (he : e < 16384) (h : rel < 4) :
    recordField (33864 + 4 * e + rel) = blendField (33864 + 4 * e) rel := by
  have base : 33864 + 4 * ((33864 + 4 * e + rel - 33864) / 4) = 33864 + 4 * e := by omega
  have rest : (33864 + 4 * e + rel - 33864) % 4 = rel := by omega
  unfold recordField
  rw [if_neg (by omega), if_neg (by omega), if_pos (by omega), base, rest]

theorem blendGain_default {e : Nat} (he : e < 16384) : Rec.clampedNat [] (33864 + 4 * e + 0) = 4096 := by
  have field := recordField_blend he (show 0 < 4 by decide)
  refine clampedNat_default (size := 2) (by rw [field]; rfl) (by rw [field]; rfl) (bytes_default fun j hj => ?_)
    (Nat.zero_le _) le_rfl (by decide)
  refine (defaultByte_blend he (by omega)).trans ?_
  match j, hj with
  | 0, _ => rfl
  | 1, _ => rfl

theorem blendLift_default {e : Nat} (he : e < 16384) : Rec.clampedNat [] (33864 + 4 * e + 2) = 0 := by
  have field := recordField_blend he (show 2 < 4 by decide)
  refine clampedNat_default (size := 2) (by rw [field]; rfl) (by rw [field]; rfl) (bytes_default fun j hj => ?_)
    (Nat.zero_le _) (Nat.zero_le _) (by decide)
  rw [Nat.add_assoc]
  refine (defaultByte_blend he (by omega)).trans ?_
  match j, hj with
  | 0, _ => rfl
  | 1, _ => rfl

/-- R25: the bytes of a geometry entry of the default record. -/
theorem defaultByte_node {e rel : Nat} (he : e < 620) (h : rel < 8) : defaultByte (64 + 8 * e + rel) =
    if rel < 3 then ((leBytes 3 (4096 * (e % 31)))[rel]?).getD 0
    else if rel < 6 then ((leBytes 3 (4096 * (e / 31)))[rel - 3]?).getD 0
    else 0 := by
  have entry : (64 + 8 * e + rel - 64) / 8 = e := by omega
  have rest : (64 + 8 * e + rel - 64) % 8 = rel := by omega
  unfold defaultByte defaultNodeByte
  rw [if_neg (by omega), if_pos (by omega), entry, rest, if_pos he]

theorem recordField_node {e rel : Nat} (he : e < 4225) (h : rel < 8) :
    recordField (64 + 8 * e + rel) = geometryField (64 + 8 * e) rel := by
  have base : 64 + 8 * ((64 + 8 * e + rel - 64) / 8) = 64 + 8 * e := by omega
  have rest : (64 + 8 * e + rel - 64) % 8 = rel := by omega
  unfold recordField
  rw [if_neg (by omega), if_pos (by omega), base, rest]

theorem leInt_leBytes {v : Nat} (h : 2 * v < 256 ^ 3) : leInt (leBytes 3 v) = v := by
  unfold leInt
  rw [leNat_leBytes, length_leBytes, Nat.mod_eq_of_lt (by omega), if_pos h]

/-- A signed coordinate of the default record reads as stored. -/
theorem clampedInt_default {a v : Nat} (field : (recordField a).treat = .signed (-524288) 524287)
    (length : (recordField a).size = 3) (bytes : Cells.bytes defaultByte [] a 3 = leBytes 3 v) (small : v ≤ 524287) :
    Rec.clampedInt [] a = v := by
  have clamp : clampInt (-524288) 524287 (v : Int) = v := by
    unfold clampInt
    rw [if_neg (by omega), if_neg (by omega)]
  have stored : leIntBytes 3 (v : Int) = leBytes 3 v := by
    unfold leIntBytes
    refine congrArg (leBytes 3) ?_
    omega
  unfold Rec.clampedInt Rec.clampedBytes
  rw [field, length, bytes]
  unfold Treatment.store
  dsimp only
  rw [leInt_leBytes (by omega), length_leBytes, clamp, stored, leInt_leBytes (by omega)]

theorem nodeU_default {e : Nat} (he : e < 620) : nodeU [] e = (4096 * (e % 31) : Nat) := by
  have field := recordField_node (show e < 4225 by omega) (show 0 < 8 by decide)
  refine clampedInt_default (by rw [nodeOffset]; exact congrArg Field.treat field)
    (by rw [nodeOffset]; exact congrArg Field.size field) (bytes_default fun j hj => ?_) (by omega)
  refine (defaultByte_node he (by omega)).trans ?_
  rw [if_pos hj]

theorem nodeV_default {e : Nat} (he : e < 620) : nodeV [] e = (4096 * (e / 31) : Nat) := by
  have field := recordField_node (show e < 4225 by omega) (show 3 < 8 by decide)
  refine clampedInt_default (by rw [nodeOffset]; exact congrArg Field.treat field)
    (by rw [nodeOffset]; exact congrArg Field.size field) (bytes_default fun j hj => ?_) (by omega)
  rw [nodeOffset, Nat.add_assoc]
  refine (defaultByte_node he (by omega)).trans ?_
  rw [if_neg (by omega), if_pos (by omega), Nat.add_sub_cancel_left]

theorem nodeMasked_default {e : Nat} (he : e < 620) : nodeMasked [] e = false := by
  have byte : Cells.read defaultByte [] (64 + 8 * e + 6) = 0 := by
    refine (defaultByte_node he (by decide)).trans ?_
    rfl
  refine Bool.eq_false_iff.2 fun h => ?_
  obtain h | h := (nodeMasked_iff [] e).1 h
  · omega
  · rw [byte] at h
    cases h

theorem matrixEntry_default {k m : Nat} (hk : k < 3) (hm : m < 3) : matrixEntry [] k m = if k = m then 4096 else 0 := by
  have entries : ∀ k < 3, ∀ m < 3, matrixEntry [] k m = if k = m then 4096 else 0 := by decide
  exact entries k hk m hm

/-! ### The stages on the default record -/

variable {x y : Nat}

theorem corner_default (hx : x < 1920) (hy : y < 1200) : y / 64 * 31 + x / 64 + 31 + 1 < 620 := by omega

theorem defaultSizes : Rec.clampedNat [] 0 = 1920 ∧ Rec.clampedNat [] 2 = 1200 ∧ Rec.clampedNat [] 4 = 1920 ∧
    Rec.clampedNat [] 8 = 6 ∧ Rec.clampedNat [] 9 = 6 ∧ Rec.clampedNat [] 10 = 6 ∧ Rec.clampedNat [] 11 = 6 ∧
    Rec.clampedNat [] 30 = 512 ∧ Rec.clampedNat [] 32 = 512 ∧ Rec.clampedNat [] 34 = 512 ∧ Rec.clampedNat [] 36 = 6 := by
  decide

theorem pixelMasked_default (hx : x < 1920) (hy : y < 1200) : pixelMasked [] x y = false := by
  have corner := corner_default hx hy
  obtain ⟨-, -, width, ex, ey, -⟩ := defaultSizes
  unfold pixelMasked
  simp only [corners, geometryCell, cellOf, pipeGx_eq, width, ex, ey, Nat.reduceSub, Nat.reducePow, Nat.reduceDiv,
    Nat.reduceAdd, Bool.or_eq_false_iff]
  exact ⟨⟨⟨nodeMasked_default (by omega), nodeMasked_default (by omega)⟩, nodeMasked_default (by omega)⟩,
    nodeMasked_default (by omega)⟩

/-- R32 in a cell of the default grid, whose columns lie 64 pixels apart. -/
theorem interpolate_columns (i j k fx fy : Nat) : interpolate ⟨i, j, fx, fy, 64, 64⟩ (4096 * k : Nat) (4096 * (k + 1) : Nat)
    (4096 * k : Nat) (4096 * (k + 1) : Nat) = 64 * ((64 * k + fx : Nat) : Int) := by
  have mean : ((4096 * k : Int) * (64 - fx) + 4096 * (k + 1) * fx) * (64 - fy) +
      (4096 * k * (64 - fx) + 4096 * (k + 1) * fx) * fy = 4096 * (64 * (64 * k + fx)) := by ring
  unfold interpolate
  push_cast
  rw [mean]
  omega

/-- R32 in a cell of the default grid, whose rows lie 64 pixels apart. -/
theorem interpolate_rows (i j k fx fy : Nat) : interpolate ⟨i, j, fx, fy, 64, 64⟩ (4096 * k : Nat) (4096 * k : Nat)
    (4096 * (k + 1) : Nat) (4096 * (k + 1) : Nat) = 64 * ((64 * k + fy : Nat) : Int) := by
  have mean : ((4096 * k : Int) * (64 - fx) + 4096 * k * fx) * (64 - fy) +
      (4096 * (k + 1) * (64 - fx) + 4096 * (k + 1) * fx) * fy = 4096 * (64 * (64 * k + fy)) := by ring
  unfold interpolate
  push_cast
  rw [mean]
  omega

/-- R25: on the default record a pixel's position is its own, in 64ths. -/
theorem pixelUV_default (hx : x < 1920) (hy : y < 1200) : pixelUV [] x y = (64 * (x : Int), 64 * (y : Int)) := by
  have corner := corner_default hx hy
  obtain ⟨-, -, width, ex, ey, -⟩ := defaultSizes
  have eq := pixelUV_eq [] x y
  simp only [width, ex, ey, Nat.reduceSub, Nat.reducePow, Nat.reduceDiv, Nat.reduceAdd, geometryCell] at eq
  rw [eq, nodeU_default (by omega), nodeU_default (by omega), nodeU_default (by omega), nodeU_default (by omega),
    nodeV_default (by omega), nodeV_default (by omega), nodeV_default (by omega), nodeV_default (by omega)]
  have a0 : (y / 64 * 31 + x / 64) % 31 = x / 64 ∧ (y / 64 * 31 + x / 64) / 31 = y / 64 := by omega
  have a1 : (y / 64 * 31 + x / 64 + 1) % 31 = x / 64 + 1 ∧ (y / 64 * 31 + x / 64 + 1) / 31 = y / 64 := by omega
  have a2 : (y / 64 * 31 + x / 64 + 31) % 31 = x / 64 ∧ (y / 64 * 31 + x / 64 + 31) / 31 = y / 64 + 1 := by omega
  have a3 : (y / 64 * 31 + x / 64 + 31 + 1) % 31 = x / 64 + 1 ∧ (y / 64 * 31 + x / 64 + 31 + 1) / 31 = y / 64 + 1 := by omega
  obtain ⟨u0, v0⟩ := a0
  obtain ⟨u1, v1⟩ := a1
  obtain ⟨u2, v2⟩ := a2
  obtain ⟨u3, v3⟩ := a3
  rw [u0, u1, u2, u3, v0, v1, v2, v3]
  have column : 64 * (x / 64) + x % 64 = x := Nat.div_add_mod x 64
  have row : 64 * (y / 64) + y % 64 = y := Nat.div_add_mod y 64
  refine Prod.ext ((interpolate_columns _ _ _ _ _).trans ?_) ((interpolate_rows _ _ _ _ _).trans ?_)
  · exact congrArg (fun n : Nat => 64 * (n : Int)) column
  · exact congrArg (fun n : Nat => 64 * (n : Int)) row

/-- R45 to R47 on the default record: gain 1, no lift. -/
theorem blendValue_default (hx : x < 1920) (hy : y < 1200) : blendValue [] x y 0 = 4096 ∧ blendValue [] x y 2 = 0 := by
  have corner := corner_default hx hy
  obtain ⟨-, -, width, -, -, ex, ey, -⟩ := defaultSizes
  unfold blendValue
  simp only [width, ex, ey, Nat.reduceSub, Nat.reducePow, Nat.reduceDiv, Nat.reduceAdd]
  constructor
  · rw [blendGain_default (by omega), blendGain_default (by omega), blendGain_default (by omega), blendGain_default (by omega)]
    have mean : 4096 * (64 - x % 64) + 4096 * (x % 64) = 262144 := by omega
    rw [mean]
    omega
  · rw [blendLift_default (by omega), blendLift_default (by omega), blendLift_default (by omega), blendLift_default (by omega)]
    omega

/-- R42 to R47 on the default record: a code finishes as itself. -/
theorem finishedCode_default (hx : x < 1920) (hy : y < 1200) {v w z k : Nat} (hv : v ≤ 1023) (hw : w ≤ 1023) (hz : z ≤ 1023)
    (hk : k < 3) : finishedCode [] x y (v, w, z) k = if k = 0 then v else if k = 1 then w else z := by
  obtain ⟨gain, lift⟩ := blendValue_default hx hy
  have own : ∃ t ≤ 1023, (matrixEntry [] k 0 * degamma [] v + matrixEntry [] k 1 * degamma [] w +
      matrixEntry [] k 2 * degamma [] z + 2048) / 4096 = (64 * t : Nat) ∧ t = if k = 0 then v else if k = 1 then w else z := by
    refine ⟨_, ?_, ?_, rfl⟩
    · split
      · exact hv
      · split
        · exact hw
        · exact hz
    · rw [matrixEntry_default hk (by decide), matrixEntry_default hk (by decide), matrixEntry_default hk (by decide),
        degamma_default hv, degamma_default hw, degamma_default hz]
      match k, hk with
      | 0, _ => simp; omega
      | 1, _ => simp; omega
      | 2, _ => simp; omega
  obtain ⟨t, small, sum, value⟩ := own
  rw [← value]
  have light : (max 0 (min 65535 ((64 * t : Nat) : Int))).toNat = 64 * t := by omega
  have faded : (64 * t * 4096 + 2048) / 4096 = 64 * t := by omega
  have lifted : 0 + (64 * t * (65535 - 0) + 32767) / 65535 = 64 * t := by omega
  have entry : 64 * t / 64 = t ∧ 64 * t % 64 = 0 := by omega
  unfold finishedCode
  simp only [sum, light, gain, lift, faded, lifted, entry]
  rw [regammaEntry_default (by omega), regammaEntry_default (by omega)]
  omega

theorem finishPixel_default (hx : x < 1920) (hy : y < 1200) {v w z : Nat} (hv : v ≤ 1023) (hw : w ≤ 1023) (hz : z ≤ 1023) :
    finishPixel [] x y v w z = ⟨v, w, z⟩ := by
  refine (finishPixel_eq [] x y (v, w, z)).trans ?_
  rw [finishedCode_default hx hy hv hw hz (by decide), finishedCode_default hx hy hv hw hz (by decide),
    finishedCode_default hx hy hv hw hz (by decide)]
  rfl

theorem fetchCode_le (mem : Cells) (a component : Nat) : fetchCode mem a component ≤ 1023 := by
  unfold fetchCode
  omega

/-- R36 to R38 at a whole source pixel. -/
theorem sampleSource_whole (hx : x < 1920) (hy : y < 1200) (mem : Cells) (c : Chan) (i : SlotIx) (component : Nat) :
    sampleSource mem c { slot := i, width := 1920, height := 1200 } (64 * (x : Int)) (64 * (y : Int)) component =
      fetchCode mem (pixelAddress c i x y) component := by
  have column : 64 * (x : Int) / 64 = x := by omega
  have row : 64 * (y : Int) / 64 = y := by omega
  have inColumn : clampIndex x 1920 = x := by rw [clampIndex_eq]; omega
  have inRow : clampIndex y 1200 = y := by rw [clampIndex_eq]; omega
  have none (n : Int) : (n - n).toNat = 0 := by omega
  unfold sampleSource filterValue
  simp only [column, row, inColumn, inRow, none]
  omega

/-- Settles O38. -/
theorem defaultRecordReproducesItsSource : Obligations.DefaultRecordReproducesItsSource := by
  intro mem c i src x y hx hy
  obtain ⟨win, hin, -, -, -, -, -, red, green, blue, exponent⟩ := defaultSizes
  have unmasked := pixelMasked_default hx hy
  have position := pixelUV_default hx hy
  have within (f : Option SourceFrame) (w : (sourceSize [] f).1 = 1920) (h : (sourceSize [] f).2 = 1200) :=
    outputPixel_inside mem [] c f x y unmasked ((outside_iff _ _ _ _).2 (by rw [position, w, h]; dsimp only; omega))
  simp only [position] at within
  have finish {v w z : Nat} := finishPixel_default (v := v) (w := w) (z := z) hx hy
  refine ⟨fun mode live => ?_, ?_, ?_, ?_, fun shown h => ?_⟩
  · have shows := within (some { slot := i, width := 1920, height := 1200 }) rfl rfl
    obtain ⟨live', hold, -⟩ := shows
    have values (k : Nat) : sampleOrZero mem c (some { slot := i, width := 1920, height := 1200 }) (64 * (x : Int)) (64 * (y : Int)) k =
        fetchCode mem (pixelAddress c i x y) k := sampleSource_whole hx hy mem c i k
    rw [values, values, values, finish (fetchCode_le _ _ _) (fetchCode_le _ _ _) (fetchCode_le _ _ _)] at live' hold
    rcases live with rfl | rfl
    · exact live'
    · exact hold
  · refine (if_neg (Bool.eq_false_iff.1 unmasked)).trans ?_
    rw [red, green, blue]
    exact finish (by decide) (by decide) (by decide)
  · exact (within none win hin).1.trans (finish (Nat.zero_le _) (Nat.zero_le _) (Nat.zero_le _))
  · exact (within none win hin).2.1.trans (finish (Nat.zero_le _) (Nat.zero_le _) (Nat.zero_le _))
  · have sizes : (sourceSize [] shown).1 = 1920 ∧ (sourceSize [] shown).2 = 1200 := by
      rcases h with rfl | rfl
      · exact ⟨win, hin⟩
      · exact ⟨rfl, rfl⟩
    have column : 64 * (x : Int) / 64 = x := by omega
    have row : 64 * (y : Int) / 64 = y := by omega
    have line : gridValue 6 x y = if x % 64 = 0 ∨ y % 64 = 0 then 1023 else 0 := by
      unfold gridValue
      have (n : Nat) : (n : Int) % ((2 ^ 6 : Nat) : Int) = 0 ↔ n % 64 = 0 := by omega
      simp only [this]
    refine (within shown sizes.1 sizes.2).2.2.trans ?_
    rw [exponent, column, row, line]
    split
    · exact finish (by decide) (by decide) (by decide)
    · exact finish (by decide) (by decide) (by decide)

end Sys2Proof.Machine
end

section
/-! SUPPORT. Commands taken as they arrive on a calm part: the hold and the cancellation of commits (R126 to R128, R140). -/

namespace Sys2Proof.Machine

variable {s u : State} {k : LinkId} {tag code : Byte} {roles : BitVec 3} {ps : List Byte}

/-- A COMMAND that its owner takes at once to `u`, in which nothing waits. -/
theorem command_next (h : s.takes k tag roles ps) (hr : commandRoles code = some roles)
    (taken : takeCommand k tag code ps (s.asked k tag) = u) (rx : ∀ j : LinkId, u.links[j].rx = s.links[j].rx)
    (waiting : u.staging.waiting = []) :
    (.next (s.receiveCommand k tag code ps) : Host.Outcome State Fault Refusal) = .next u.beginSends :=
  congrArg Host.Outcome.next (receiveCommand_taken h hr taken rx (claimants_calm _ _ waiting))

theorem complete_waiting {j : LinkId} {t : Byte} {st : Status} {bytes : List Byte} (h : s.staging.waiting = []) :
    (s.complete j t st bytes).staging.waiting = [] := by
  rw [State.complete_calm _ _ _ _ _ h]
  exact h

/-- A COMMAND taken with a completion of its own after `u`, in which nothing waits and the receive queues stand as they were. -/
theorem command_completed {st : Status} {bytes : List Byte} (h : s.takes k tag roles ps) (hr : commandRoles code = some roles)
    (taken : takeCommand k tag code ps (s.asked k tag) = u.complete k tag st bytes)
    (rx : ∀ j : LinkId, u.links[j].rx = s.links[j].rx) (waiting : u.staging.waiting = []) :
    (.next (s.receiveCommand k tag code ps) : Host.Outcome State Fault Refusal) = .next (u.reply k tag st bytes) :=
  command_next h hr taken (fun j => (u.complete_rx k j tag st bytes).trans (rx j)) (complete_waiting waiting)

theorem asked_waiting (h : s.takes k tag roles ps) : (s.asked k tag).staging.waiting = [] := h.1.1

/-- A COMMAND that its owner answers with a completion and nothing else. -/
theorem command_replied {st : Status} {bytes : List Byte} (h : s.takes k tag roles ps) (hr : commandRoles code = some roles)
    (taken : takeCommand k tag code ps (s.asked k tag) = (s.asked k tag).complete k tag st bytes) :
    (.next (s.receiveCommand k tag code ps) : Host.Outcome State Fault Refusal) =
      .next ((s.asked k tag).reply k tag st bytes) :=
  command_completed h hr taken (s.asked_rx tag) (asked_waiting h)

/-! ### The hold -/

/-- R126, case by case. -/
theorem takeHoldAcquire_eq (s : State) : takeHoldAcquire k tag s =
    if s.staging.hold = some k then s.complete k tag .success []
    else if s.scanner.lock = true then s.complete k tag .locked []
    else if s.staging.hold ≠ none then s.complete k tag .held []
    else if s.staging.state ≠ .openState then s.complete k tag .busy []
    else (({ s with staging := { s.staging with hold := some k } } : State).raise .holdOwner).complete k tag .success [] := by
  unfold takeHoldAcquire State.isOpen
  simp only [Option.isSome_iff_ne_none, Bool.not_eq_true', decide_eq_false_iff_not]
  rfl

/-- Settles O44. -/
theorem holdAcquireIsJudgedInOrder : Obligations.HoldAcquireIsJudgedInOrder := by
  intro s k tag ps takes p
  have taken := takeHoldAcquire_eq (k := k) (tag := tag) p
  have replied {st : Status} (h : takeHoldAcquire k tag p = p.complete k tag st []) :
      exec (.holdAcquire k tag ps) s = .next (p.reply k tag st []) := command_replied takes rfl h
  by_cases holds : s.staging.hold = some k
  · rw [if_pos holds]
    exact replied (taken.trans (if_pos holds))
  rw [if_neg holds]
  replace taken := taken.trans (if_neg holds)
  by_cases locked : s.scanner.lock = true
  · rw [if_pos locked]
    exact replied (taken.trans (if_pos locked))
  rw [if_neg locked]
  replace taken := taken.trans (if_neg locked)
  by_cases held : s.staging.hold ≠ none
  · rw [if_pos held]
    exact replied (taken.trans (if_pos held))
  rw [if_neg held]
  replace taken := taken.trans (if_neg held)
  by_cases busy : s.staging.state ≠ .openState
  · rw [if_pos busy]
    exact replied (taken.trans (if_pos busy))
  rw [if_neg busy]
  replace taken := taken.trans (if_neg busy)
  exact command_completed takes rfl taken (fun j => (State.raise_rx _ j _).trans (s.asked_rx tag j)) takes.1.1

/-- R127, R140: a link's pending commit is cancelled with a completion, and staging is OPEN. -/
theorem cancelCommit_link (waiting : s.staging.waiting = []) {c : PendingCommit} {j : LinkId} {t : Byte}
    (hc : s.staging.commit = some c) (owner : c.owner = .link j t) :
    s.cancelCommit = { s.complete j t .cancelled [] with
      staging := { s.staging with commit := none, state := .openState, owner := none } } := by
  unfold State.cancelCommit
  rw [hc]
  dsimp only
  rw [owner]
  dsimp only
  rw [State.complete_calm _ _ _ _ _ waiting]
  rfl

/-- What a command that cancels and perhaps ends the hold does first: cancel a pending commit. -/
def State.cancelPending (s : State) : State := if s.staging.state = .commitPending then s.cancelCommit else s

theorem takeHoldRelease_holder (h : s.staging.hold = some k) :
    takeHoldRelease k tag s = s.cancelPending.endHold.complete k tag .success [] := if_pos h

theorem takeHoldRelease_other (h : s.staging.hold ≠ some k) : takeHoldRelease k tag s = s.complete k tag .notHolder [] :=
  if_neg h

theorem takeCommitCancel_holder (h : s.staging.hold = some k) :
    takeCommitCancel k tag s = s.cancelPending.complete k tag .success [] := if_pos h

theorem takeCommitCancel_other (h : s.staging.hold ≠ some k) : takeCommitCancel k tag s = s.complete k tag .notHolder [] :=
  if_neg h

theorem takeHoldBreak_held (h : s.staging.hold ≠ none) :
    takeHoldBreak k tag s = s.cancelPending.endHold.complete k tag .success [] :=
  if_pos (Option.isSome_iff_ne_none.2 h)

theorem takeHoldBreak_free (h : s.staging.hold = none) : takeHoldBreak k tag s = s.complete k tag .success [] :=
  if_neg (by rw [h]; decide)

/-- Settles O45, by whether a commit is pending. -/
theorem holdsEndAndCommitsAreCancelled : Obligations.HoldsEndAndCommitsAreCancelled := by
  intro s k tag ps ok calm ask short p ended freed
  obtain ⟨-, pending, -⟩ := ok
  have waiting : p.staging.waiting = [] := calm.1
  have rx : ∀ j : LinkId, p.links[j].rx = s.links[j].rx := s.asked_rx tag
  have none (h : s.staging.state ≠ .commitPending) : p.cancelPending = p := if_neg h
  have cancelled {j : LinkId} {c : PendingCommit} {t : Byte} (hc : s.staging.commit = some c) (owner : c.owner = .link j t) :
      p.cancelPending = freed j t :=
    (if_pos (pending.1 (by rw [hc]; rfl))).trans (cancelCommit_link waiting hc owner)
  have freedRx (j : LinkId) (t : Byte) (i : LinkId) : (freed j t).links[i].rx = s.links[i].rx :=
    (p.complete_rx j i t .cancelled []).trans (rx i)
  have endedRx {v : State} (h : ∀ i : LinkId, v.links[i].rx = s.links[i].rx) (i : LinkId) :
      (ended v).links[i].rx = s.links[i].rx := (State.raise_rx _ i _).trans (h i)
  refine ⟨fun align => ?_, fun show_ => ?_⟩
  · have takes : s.takes k tag roleAlign ps := ⟨calm, ask, short, align⟩
    refine ⟨fun other => ⟨?_, ?_⟩, fun holder idle => ⟨?_, ?_⟩, fun holder c t hc owner => ⟨?_, ?_⟩⟩
    · exact command_replied takes rfl (takeHoldRelease_other (s := p) other)
    · exact command_replied takes rfl (takeCommitCancel_other (s := p) other)
    · refine command_completed takes rfl ((takeHoldRelease_holder (s := p) holder).trans ?_) (endedRx rx) waiting
      rw [none idle]
      rfl
    · refine command_completed takes rfl ((takeCommitCancel_holder (s := p) holder).trans ?_) rx waiting
      rw [none idle]
    · refine command_completed takes rfl ((takeHoldRelease_holder (s := p) holder).trans ?_) (endedRx (freedRx k t)) waiting
      rw [cancelled hc owner]
      rfl
    · refine command_completed takes rfl ((takeCommitCancel_holder (s := p) holder).trans ?_) (freedRx k t) waiting
      rw [cancelled hc owner]
  · have takes : s.takes k tag roleShow ps := ⟨calm, ask, short, show_⟩
    refine ⟨fun free => ?_, fun held idle => ?_, fun j held c t hc owner => ?_⟩
    · exact command_replied takes rfl (takeHoldBreak_free (s := p) free)
    · refine command_completed takes rfl ((takeHoldBreak_held (s := p) held).trans ?_) (endedRx rx) waiting
      rw [none idle]
      rfl
    · have held : p.staging.hold ≠ .none := by change s.staging.hold ≠ .none; rw [held]; exact Option.some_ne_none j
      refine command_completed takes rfl ((takeHoldBreak_held held).trans ?_) (endedRx (freedRx j t)) waiting
      rw [cancelled hc owner]
      rfl

end Sys2Proof.Machine
end

section
/-! SUPPORT. Commands judged by the first case that applies: the show lock (R150, R151), the Preset store (R167, R169, R174,
R180) and COMMIT (R134 to R139). -/

namespace Sys2Proof.Machine

variable {s u v t₁ t₂ v₁ v₂ : State} {k : LinkId} {tag code : Byte} {roles : BitVec 3} {ps : List Byte} {c : Prop}

/-! ### What a command leads to -/

/-- When its owner takes the COMMAND that arrives on `s` to `u`, its row runs to `v`. -/
def Leads (s : State) (k : LinkId) (tag code : Byte) (ps : List Byte) (u v : State) : Prop :=
  takeCommand k tag code ps (s.asked k tag) = u →
    (.next (s.receiveCommand k tag code ps) : Host.Outcome State Fault Refusal) = .next v

/-- A judgement by cases. -/
theorem Leads.ite [Decidable c] (h₁ : c → Leads s k tag code ps t₁ v₁) (h₂ : ¬ c → Leads s k tag code ps t₂ v₂) :
    Leads s k tag code ps (if c then t₁ else t₂) (if c then v₁ else v₂) := by
  by_cases h : c
  · rw [if_pos h, if_pos h]
    exact h₁ h
  · rw [if_neg h, if_neg h]
    exact h₂ h

/-- A judgement by a case that the row words in another way. -/
theorem Leads.ite_of_iff {c' : Prop} [Decidable c] [Decidable c'] (same : c ↔ c') (h₁ : c → Leads s k tag code ps t₁ v₁)
    (h₂ : ¬ c → Leads s k tag code ps t₂ v₂) :
    Leads s k tag code ps (if c then t₁ else t₂) (if c' then v₁ else v₂) := by
  simp only [← same]
  exact .ite h₁ h₂

theorem Leads.completed {st : Status} {bytes : List Byte} (h : s.takes k tag roles ps) (hr : commandRoles code = some roles)
    (rx : ∀ j : LinkId, u.links[j].rx = s.links[j].rx) (waiting : u.staging.waiting = []) :
    Leads s k tag code ps (u.complete k tag st bytes) (u.reply k tag st bytes) :=
  fun taken => command_completed h hr taken rx waiting

theorem Leads.replied {st : Status} {bytes : List Byte} (h : s.takes k tag roles ps) (hr : commandRoles code = some roles) :
    Leads s k tag code ps ((s.asked k tag).complete k tag st bytes) ((s.asked k tag).reply k tag st bytes) :=
  fun taken => command_replied h hr taken

/-- A COMMAND that is kept, and waits for nothing that has come. -/
theorem Leads.kept {m : Msg} (h : s.takes k tag roles ps) (hr : commandRoles code = some roles)
    (rx : ∀ j : LinkId, u.links[j].rx = s.links[j].rx) (none : claimants s (u.keep k m) [] = []) :
    Leads s k tag code ps (u.keep k m) (u.kept k m) := fun taken =>
  congrArg Host.Outcome.next (receiveCommand_taken h hr taken (fun j => (u.keep_rx k j m).trans (rx j)) none)

/-- R125: a request that is kept and waits, when nothing else does. -/
theorem keepWaiting_calm (m : Msg) (h : s.staging.waiting = []) : s.keepWaiting k tag m =
    State.keep k m { s with staging := { s.staging with waiting := [.request k tag] } } := by
  have : (if .request k tag ∈ s.staging.waiting then s.staging
      else { s.staging with waiting := s.staging.waiting ++ [.request k tag] }) =
      { s.staging with waiting := [.request k tag] } := by
    rw [h]
    exact if_neg List.not_mem_nil
  unfold State.keepWaiting State.await State.modStaging
  exact congrArg (fun g => { s.keep k m with staging := g }) this

theorem unwait_calm (w : Claimant) (h : s.staging.waiting = []) : s.unwait w = s := s.unwait_none w (by simp [h])

/-- R130, R135, R169: no hold, another link's hold, or the link's own. -/
theorem judged_hold {α : Type} (hold : Option LinkId) (k : LinkId) (free other own : α) :
    (match hold with
      | none => free
      | some h => if h ≠ k then other else own) =
    if hold = none then free else if hold ≠ some k then other else own := by
  cases hold with
  | none => rfl
  | some j => simp

/-! ### The show lock -/

theorem takeShowLock_eq (s : State) : takeShowLock k tag s =
    if s.scanner.lock = true then s.complete k tag .success []
    else if s.staging.hold ≠ none then s.complete k tag .held []
    else if s.staging.state ≠ .openState then s.complete k tag .busy []
    else State.complete k tag .success [] { s with scanner := { s.scanner with
      lock := true
      watch := Vector.ofFn fun _ : Chan => { state := .referencePending, reference := none, source := none, checks := 0 }
      pass := some { chan := 0, view := s.activeRecord 0 } } } := by
  unfold takeShowLock State.isOpen
  simp only [Option.isSome_iff_ne_none, Bool.not_eq_true', decide_eq_false_iff_not]
  rfl

theorem takeShowUnlock_eq (h : s.staging.waiting = []) : takeShowUnlock k tag s =
    if s.scanner.lock = false then s.complete k tag .success []
    else if s.scanner.repair ≠ none then s.complete k tag .busy []
    else State.complete k tag .success [] { s with scanner := { s.scanner with
      lock := false
      watch := Vector.ofFn fun c : Chan => { s.scanner.watch[c] with state := .idle, reference := none, source := none }
      pass := none
      queue := [] } } := by
  unfold takeShowUnlock
  simp only [Option.isSome_iff_ne_none, Bool.not_eq_true']
  rw [unwait_calm _ (by exact h)]
  rfl

/-- Settles O54. -/
theorem showLockAndUnlock : Obligations.ShowLockAndUnlock := by
  intro s k tag ps takes p
  have replied {code : Byte} {st : Status} {bytes : List Byte} (hr : commandRoles code = some roleShow) :
    Leads s k tag code ps (p.complete k tag st bytes) (p.reply k tag st bytes) := Leads.replied takes hr
  constructor
  · exact Leads.ite (fun _ => replied rfl) (fun _ => .ite (fun _ => replied rfl) fun _ => .ite (fun _ => replied rfl)
      fun _ => .completed takes rfl (s.asked_rx tag) takes.1.1) (takeShowLock_eq p)
  · exact Leads.ite (fun _ => replied rfl) (fun _ => .ite (fun _ => replied rfl)
      fun _ => .completed takes rfl (s.asked_rx tag) takes.1.1) (takeShowUnlock_eq (s := p) takes.1.1)

/-! ### SETUP_STORE -/

theorem takeSetupStore_eq (s : State) : takeSetupStore k tag ps s =
    if 512 < setupShareSum s.preset.setup then s.complete k tag .invalid (leBytes 2 (setupShareSum s.preset.setup))
    else if s.preset.nv ≠ none then s.complete k tag .busy []
    else State.keep k (.command tag 0x0D ps) { s with preset := { s.preset with
      nv := some .setupStore, requester := some { link := k, tag := tag, live := true }
      setupStoring := some (setupRecordBytes s.preset.setup) } } := by
  unfold takeSetupStore State.nvIdle
  simp only [Bool.not_eq_true', decide_eq_false_iff_not]
  rfl

theorem setupShareSum_bytes (m : Cells) :
    setupShareSum m = (setupByte m 0).toNat + (setupByte m 2).toNat + (setupByte m 4).toNat + (setupByte m 6).toNat +
      256 * ((setupByte m 1).toNat + (setupByte m 3).toNat + (setupByte m 5).toNat + (setupByte m 7).toNat) := by
  rw [setupShareSum_eq]
  simp only [setupShare_eq]
  change (setupByte m 0).toNat + 256 * (setupByte m 1).toNat + ((setupByte m 2).toNat + 256 * (setupByte m 3).toNat) +
    ((setupByte m 4).toNat + 256 * (setupByte m 5).toNat) + ((setupByte m 6).toNat + 256 * (setupByte m 7).toNat) = _
  omega

/-! ### PRESET_LOAD -/

theorem takePresetLoad_none (h : slotParam ps = none) : takePresetLoad k tag ps s = s.complete k tag .invalid [] := by
  unfold takePresetLoad
  rw [h]

theorem takePresetLoad_some {sl : SlotId} (h : slotParam ps = some sl) (waiting : s.staging.waiting = []) :
    takePresetLoad k tag ps s =
      if s.scanner.lock = true then s.complete k tag .locked []
      else if s.staging.hold = none then s.complete k tag .notHolder []
      else if s.staging.hold ≠ some k then s.complete k tag .held []
      else if s.slotState sl = .empty then s.complete k tag .slotEmpty []
      else if s.slotState sl = .corrupt then s.complete k tag .presetCorrupt []
      else if s.staging.state ≠ .openState ∨ s.preset.nv ≠ none then
        State.keep k (.command tag 0x0B ps) { s with staging := { s.staging with waiting := [.request k tag] } }
      else State.keep k (.command tag 0x0B ps)
        { s with
          preset := { s.preset with
            nv := some (.load sl (.link k)), requester := some { link := k, tag := tag, live := true }
            progress := some { landing := 0, sound := [] } }
          staging := { s.staging with state := .loading, owner := some (.link k) } } := by
  unfold takePresetLoad
  rw [h, keepWaiting_calm _ waiting, unwait_calm _ waiting]
  dsimp only
  refine ite_congr rfl (fun _ => rfl) fun _ => (judged_hold _ k _ _ _).trans ?_
  refine ite_congr rfl (fun _ => rfl) fun _ => ite_congr rfl (fun _ => rfl) fun _ => ite_congr rfl (fun _ => rfl) fun _ =>
    ite_congr rfl (fun _ => rfl) fun _ => ite_congr ?_ (fun _ => rfl) fun _ => rfl
  simp [State.isOpen, State.nvIdle]

/-- Settles O59. -/
theorem presetLoadIsJudgedInOrder : Obligations.PresetLoadIsJudgedInOrder := by
  intro s k tag ps takes p
  have replied {st : Status} : Leads s k tag 0x0B ps (p.complete k tag st []) (p.reply k tag st []) := Leads.replied takes rfl
  refine ⟨fun none => replied (takePresetLoad_none (s := p) none), fun sl slot => ?_⟩
  exact Leads.ite (fun _ => replied) (fun _ => .ite (fun _ => replied) fun _ => .ite (fun _ => replied)
    fun _ => .ite (fun _ => replied) fun _ => .ite (fun _ => replied) fun _ => .ite
      (fun _ => .kept takes rfl (s.asked_rx tag) (claimants_of_same rfl rfl rfl))
      fun _ => .kept takes rfl (s.asked_rx tag) (claimants_calm _ _ takes.1.1)) (takePresetLoad_some (s := p) slot takes.1.1)

/-! ### PRESET_STORE and PRESET_ERASE -/

/-- The states of R166 and R167 in which an operation of the NV controller for a slot has begun. -/
def State.begun (op : NvOp) (storing : Option Body) (sl : SlotId) (d : SlotDir) (k : LinkId) (tag : Byte) (s : State) : State :=
  { s with
    preset := { s.preset with
      directory := s.preset.directory.set sl d
      nv := some op, requester := some { link := k, tag := tag, live := true }, storing := storing }
    flash := { s.flash with directory := s.flash.directory.set sl d } }

theorem takePresetStore_some {sl : SlotId} (h : slotParam ps = some sl) : takePresetStore k tag ps s =
    if s.slotState sl ≠ .empty then s.complete k tag .slotOccupied []
    else if s.staging.state = .commitPending ∨ s.preset.nv ≠ none then s.complete k tag .busy []
    else State.keep k (.command tag 0x0A ps)
      (s.begun (.store sl) (some s.activeBody) sl { state := .storing, info := none } k tag) := by
  unfold takePresetStore
  rw [h]
  dsimp only
  refine ite_congr rfl (fun _ => rfl) fun _ => ?_
  by_cases pending : s.staging.state = .commitPending
  · rw [if_pos pending, if_pos (.inl pending)]
  · rw [if_neg pending]
    refine ite_congr ?_ (fun _ => rfl) fun _ => rfl
    simp [State.nvIdle, pending]

theorem takePresetErase_some {sl : SlotId} (h : slotParam ps = some sl) : takePresetErase k tag ps s =
    if s.scanner.lock = true then s.complete k tag .locked []
    else if s.slotState sl = .empty then s.complete k tag .success []
    else if s.preset.nv ≠ none then s.complete k tag .busy []
    else State.keep k (.command tag 0x0C ps)
      (s.begun (.erase sl) s.preset.storing sl { state := .erasing, info := none } k tag) := by
  unfold takePresetErase
  rw [h]
  dsimp only
  refine ite_congr rfl (fun _ => rfl) fun _ => ite_congr rfl (fun _ => rfl) fun _ => ite_congr ?_ (fun _ => rfl) fun _ => rfl
  simp [State.nvIdle]

end Sys2Proof.Machine
end

section
/-! SUPPORT. The ends of the operations that no load makes (R168, R174, R180), and the completions of such ends. -/

namespace Sys2Proof.Machine

variable {s u : State} {k : LinkId} {tag code : Byte} {ps : List Byte}

/-! ### Operations that end with a completion -/

/-- R186, R195: what an operation's end leaves when it completes for its requester, if that is live. -/
def State.answered (q : Option Requester) (st : Status) (bytes : List Byte) (s : State) : State :=
  match q with
  | some r => if r.live then s.reply r.link r.tag st bytes else s.beginSends
  | none => s.beginSends

theorem completeFor_beginSends (q : Option Requester) (st : Status) (bytes : List Byte) :
    (s.completeFor q st bytes).beginSends = s.answered q st bytes := by
  unfold State.completeFor State.answered
  cases q with
  | none => rfl
  | some r =>
    dsimp only
    split <;> rfl

theorem completeFor_waiting {q : Option Requester} {st : Status} {bytes : List Byte} (h : s.staging.waiting = []) :
    (s.completeFor q st bytes).staging.waiting = [] := by
  unfold State.completeFor
  split
  · split
    · exact complete_waiting h
    · exact h
  · exact h

theorem completeFor_rx (q : Option Requester) (st : Status) (bytes : List Byte) (j : LinkId) :
    (s.completeFor q st bytes).links[j].rx = s.links[j].rx := by
  unfold State.completeFor
  split
  · split
    · exact s.complete_rx _ j _ _ _
    · rfl
  · rfl

/-- A change after which nothing waits, with the receive queues and the hold as they were, settles at once. -/
theorem settled_still (rx : ∀ j : LinkId, u.links[j].rx = s.links[j].rx) (hold : u.staging.hold = s.staging.hold)
    (waiting : u.staging.waiting = []) : s.settled u = u.beginSends :=
  settled_quiet _ _ (claimants_calm _ _ waiting) (heads_same _ _ rx hold)

theorem completeFor_staging (q : Option Requester) (st : Status) (bytes : List Byte) :
    (s.completeFor q st bytes).staging.hold = s.staging.hold := by
  unfold State.completeFor
  split
  · split <;> rfl
  · rfl

/-- An operation that ends when nothing waits answers its requester, and calls for no more. -/
theorem settled_answered {q : Option Requester} {st : Status} {bytes : List Byte}
    (rx : ∀ j : LinkId, u.links[j].rx = s.links[j].rx) (hold : u.staging.hold = s.staging.hold)
    (waiting : u.staging.waiting = []) : s.settled (u.completeFor q st bytes) = u.answered q st bytes := by
  rw [settled_still (fun j => (completeFor_rx q st bytes j).trans (rx j)) ((completeFor_staging q st bytes).trans hold)
    (completeFor_waiting waiting), completeFor_beginSends]

/-! ### The ends of a store, an erase and a SETUP_STORE -/

/-- R168: the state at the end of a store, before its completion. -/
def State.storedSlot (sl : SlotId) (body : Body) (s : State) : State :=
  State.raise .preset { s with
    preset := { s.preset with
      directory := s.preset.directory.set sl { state := .valid, info := some (body.info s.staging.gen) }
      storing := none, nv := none, requester := none, progress := none }
    flash := { s.flash with
      bodies := s.flash.bodies.set sl body
      directory := s.flash.directory.set sl { state := .valid, info := some (body.info s.staging.gen) } } }

theorem storeEnd_eq {sl : SlotId} {body : Body} (nv : s.preset.nv = some (.store sl)) (storing : s.preset.storing = some body) :
    s.storeEnd = (s.storedSlot sl body).completeFor s.preset.requester .success (word32Bytes s.staging.gen) := by
  unfold State.storeEnd
  rw [nv, storing]
  rfl

/-- R174: the state at the end of an erase, before its completion. -/
def State.erasedSlot (sl : SlotId) (s : State) : State :=
  State.raise .preset { s with
    preset := { s.preset with
      directory := s.preset.directory.set sl { state := .empty, info := none }
      nv := none, requester := none, progress := none }
    flash := { s.flash with directory := s.flash.directory.set sl { state := .empty, info := none } } }

theorem eraseEnd_eq {sl : SlotId} (nv : s.preset.nv = some (.erase sl)) :
    s.eraseEnd = (s.erasedSlot sl).completeFor s.preset.requester .success [] := by
  unfold State.eraseEnd
  rw [nv]
  rfl

/-- R180: the state at the end of a SETUP_STORE, before its completion. -/
def State.storedSetup (bytes : List Byte) (s : State) : State :=
  State.raise .setup { s with
    preset := { s.preset with nv := none, requester := none, progress := none, setupStoring := none }
    flash := { s.flash with setup := Cells.write zeroByte s.flash.setup 0 bytes } }

theorem setupEnd_eq {bytes : List Byte} (nv : s.preset.nv = some .setupStore) (storing : s.preset.setupStoring = some bytes) :
    s.setupEnd = (s.storedSetup bytes).completeFor s.preset.requester .success [] := by
  unfold State.setupEnd
  rw [nv, storing]
  rfl

/-- Settles O57. -/
theorem presetsAreStoredAndErased : Obligations.PresetsAreStoredAndErased := by
  intro s k tag ps calm p put begun told active
  refine ⟨fun takes => ⟨fun none => ?_, fun sl slot => ?_⟩, fun takes => ⟨fun none => ?_, fun sl slot => ?_⟩, ?_, ?_⟩
  · refine Leads.replied takes rfl ?_
    change takePresetStore k tag ps _ = _
    unfold takePresetStore
    rw [none]
  · have replied {st : Status} : Leads s k tag 0x0A ps (p.complete k tag st []) (p.reply k tag st []) := Leads.replied takes rfl
    exact Leads.ite (fun _ => replied) (fun _ => .ite (fun _ => replied)
      fun _ => .kept takes rfl (s.asked_rx tag) (claimants_calm _ _ calm.1)) (takePresetStore_some (s := p) slot)
  · refine Leads.replied takes rfl ?_
    change takePresetErase k tag ps _ = _
    unfold takePresetErase
    rw [none]
  · have replied {st : Status} : Leads s k tag 0x0C ps (p.complete k tag st []) (p.reply k tag st []) := Leads.replied takes rfl
    exact Leads.ite (fun _ => replied) (fun _ => .ite (fun _ => replied) fun _ => .ite (fun _ => replied)
      fun _ => .kept takes rfl (s.asked_rx tag) (claimants_calm _ _ calm.1)) (takePresetErase_some (s := p) slot)
  · intro sl body nv storing info
    have ended : s.settled s.storeEnd = (s.storedSlot sl body).answered s.preset.requester .success (word32Bytes s.staging.gen) := by
      rw [storeEnd_eq nv storing]
      exact settled_answered (fun j => State.raise_rx _ j _) rfl calm.1
    exact congrArg Host.Outcome.next ended
  · intro sl nv
    have ended : s.settled s.eraseEnd = (s.erasedSlot sl).answered s.preset.requester .success [] := by
      rw [eraseEnd_eq nv]
      exact settled_answered (fun j => State.raise_rx _ j _) rfl calm.1
    exact congrArg Host.Outcome.next ended

/-- Settles O58. -/
theorem setupStoreWritesTheStagedCopy : Obligations.SetupStoreWritesTheStagedCopy := by
  intro s k tag ps calm p byte sum fields
  refine ⟨fun takes => ?_, fun bytes nv storing => ?_⟩
  · have total : setupShareSum s.preset.setup = sum := setupShareSum_bytes _
    have replied {st : Status} {bytes : List Byte} : Leads s k tag 0x0D ps (p.complete k tag st bytes) (p.reply k tag st bytes) :=
      Leads.replied takes rfl
    rw [← total]
    exact Leads.ite (fun _ => replied) (fun _ => .ite (fun _ => replied)
      fun _ => .kept takes rfl (s.asked_rx tag) (claimants_calm _ _ calm.1)) (takeSetupStore_eq p)
  · have ended : s.settled s.setupEnd = (s.storedSetup bytes).answered s.preset.requester .success [] := by
      rw [setupEnd_eq nv storing]
      exact settled_answered (fun j => State.raise_rx _ j _) rfl calm.1
    exact congrArg Host.Outcome.next ended

end Sys2Proof.Machine
end

section
/-! SUPPORT. COMMIT by the first case that applies (R134 to R139), and pending modes and limits (R99, R112, R113). -/

namespace Sys2Proof.Machine

variable {s u : State} {k : LinkId} {tag code : Byte} {ps : List Byte}

/-! ### COMMIT -/

theorem chanSetOf_none {b : Byte} (h : b = 0 ∨ 63 < b.toNat) : chanSetOf b = none := if_pos h

theorem chanSetOf_some {b : Byte} (h0 : b ≠ 0) (h : b.toNat < 64) : chanSetOf b = some (b.setWidth 6) :=
  if_neg fun bad => bad.elim h0 fun large => Nat.not_lt.2 large h

theorem commitParams_bad (h : ps.length < 10 ∨ byteAt ps 0 = 0 ∨ 63 < (byteAt ps 0).toNat ∨ 1 < (byteAt ps 1).toNat) :
    commitParams ps = none := by
  unfold commitParams
  by_cases short : ps.length < 10
  · exact if_pos short
  rw [if_neg short]
  by_cases set : byteAt ps 0 = 0 ∨ 63 < (byteAt ps 0).toNat
  · rw [chanSetOf_none set]
  · have kind : 1 < (byteAt ps 1).toNat := by tauto
    split
    · next zero => omega
    · next one => omega
    · rfl

theorem commitParams_good (h : ¬ (ps.length < 10 ∨ byteAt ps 0 = 0 ∨ 63 < (byteAt ps 0).toNat ∨ 1 < (byteAt ps 1).toNat)) :
    commitParams ps = some ((byteAt ps 0).setWidth 6,
      if byteAt ps 1 = 0 then .nextTick else .atFrame (BitVec.ofNat 32 (field ps 2 4)), BitVec.ofNat 32 (field ps 6 4)) := by
  simp only [not_or] at h
  obtain ⟨long, ne, small, kind⟩ := h
  unfold commitParams
  rw [if_neg long, chanSetOf_some ne (by omega)]
  by_cases zero : byteAt ps 1 = 0
  · rw [zero]
    rfl
  · have one : byteAt ps 1 = 1 := by bv_omega
    rw [one]
    rfl

theorem leNat_lt (bs : List Byte) : leNat bs < 256 ^ bs.length := by
  induction bs with
  | nil => decide
  | cons b bs ih =>
    have := b.isLt
    change b.toNat + 256 * leNat bs < 256 ^ (bs.length + 1)
    rw [Nat.pow_succ]
    omega

theorem field_lt (bs : List Byte) (a n : Nat) : field bs a n < 256 ^ n :=
  Nat.lt_of_lt_of_le (leNat_lt _) (Nat.pow_le_pow_right (by decide) (by simp))

/-- R136: the checksum is not the one that the COMMIT expects. -/
theorem mismatch_iff (crc : Word32) (bs : List Byte) (a : Nat) :
    crc ≠ BitVec.ofNat 32 (field bs a 4) ↔ crc.toNat ≠ field bs a 4 := by
  have := field_lt bs a 4
  rw [not_iff_not, ← BitVec.toNat_inj, BitVec.toNat_ofNat, Nat.mod_eq_of_lt (by omega)]

/-- R139: the state in which a link's commit is pending. -/
def State.committed (set : ChanSet) (kind : Activation) (k : LinkId) (tag : Byte) (s : State) : State :=
  { s with staging := { s.staging with
    state := .commitPending
    owner := some (.link k)
    commit := some { owner := .link k tag, set := set, kind := kind } } }

theorem acceptCommit_calm (set : ChanSet) (kind : Activation) (m : Msg) (h : s.staging.waiting = []) :
    s.acceptCommit k tag set kind m = (s.committed set kind k tag).keep k m :=
  congrArg (State.keep k m) (unwait_calm (s := s.committed set kind k tag) _ h)

/-- R137 to R139: what the checks of a COMMIT answer. -/
theorem checkCommit_leads {roles : BitVec 3} (takes : s.takes k tag roles ps) (hr : commandRoles code = some roles)
    (set : ChanSet) (kind : Activation) (m : Msg) :
    Leads s k tag code ps
      (match checkRecords (s.stagingSet set) with
        | some f => (s.asked k tag).complete k tag .validationFailed f.payload
        | none => (s.asked k tag).acceptCommit k tag set kind m)
      (match checkRecords (s.stagingSet set) with
        | some (.grid c) => (s.asked k tag).reply k tag .validationFailed [0, BitVec.ofNat 8 c.val, 0]
        | some (.span c j) => (s.asked k tag).reply k tag .validationFailed [1, BitVec.ofNat 8 c.val, BitVec.ofNat 8 j]
        | none => State.kept k m ((s.asked k tag).committed set kind k tag)) := by
  cases checkRecords (s.stagingSet set) with
  | none =>
    dsimp only
    rw [acceptCommit_calm (s := s.asked k tag) _ _ _ takes.1.1]
    exact .kept takes hr (s.asked_rx tag) (claimants_calm _ _ takes.1.1)
  | some f =>
    cases f with
    | grid c => exact .replied takes hr
    | span c j => exact .replied takes hr

/-- R135 to R139: COMMIT with parameters in order. -/
theorem takeCommit_some {set : ChanSet} {kind : Activation} {expected : Word32} (h : commitParams ps = some (set, kind, expected))
    (waiting : s.staging.waiting = []) : takeCommit k tag ps s =
      if s.staging.hold = none then s.complete k tag .notHolder []
      else if s.staging.hold ≠ some k then s.complete k tag .held []
      else if s.staging.state ≠ .openState then
        State.keep k (.command tag 4 ps) { s with staging := { s.staging with waiting := [.request k tag] } }
      else if s.storeInFlight = true then s.complete k tag .busy []
      else if commitCrc (s.stagingSet set) ≠ expected then
        s.complete k tag .checkMismatch (word32Bytes (commitCrc (s.stagingSet set)))
      else
        match checkRecords (s.stagingSet set) with
        | some f => s.complete k tag .validationFailed f.payload
        | none => s.acceptCommit k tag set kind (.command tag 4 ps) := by
  unfold takeCommit
  rw [h, keepWaiting_calm _ waiting]
  dsimp only
  refine (judged_hold _ k _ _ _).trans ?_
  refine ite_congr rfl (fun _ => rfl) fun _ => ite_congr rfl (fun _ => rfl) fun _ => ite_congr ?_ (fun _ => rfl) fun _ =>
    ite_congr rfl (fun _ => rfl) fun _ => rfl
  simp [State.isOpen]

/-- Settles O50. -/
theorem commitIsJudgedInOrder : Obligations.CommitIsJudgedInOrder := by
  intro s k tag ps takes p bad
  have replied {st : Status} {bytes : List Byte} : Leads s k tag 4 ps (p.complete k tag st bytes) (p.reply k tag st bytes) :=
    Leads.replied takes rfl
  constructor
  · intro h
    refine replied ?_
    change takeCommit k tag ps _ = _
    unfold takeCommit
    rw [commitParams_bad h]
  · intro h set kind records crc
    have mismatch := mismatch_iff crc ps 6
    exact Leads.ite (fun _ => replied) (fun _ => .ite (fun _ => replied) fun _ => .ite
      (fun _ => .kept takes rfl (s.asked_rx tag) (claimants_of_same rfl rfl rfl))
      fun _ => .ite (fun _ => replied) fun _ => .ite_of_iff mismatch (fun _ => replied)
        fun _ => checkCommit_leads takes rfl set kind (.command tag 4 ps))
      (takeCommit_some (s := p) (commitParams_good h) takes.1.1)

/-! ### CHANNEL_MODE -/

theorem withdrawOverlap_free {set : ChanSet} {c : Chan} (h : ∀ r, s.pipes[c].pendingReq = some r → r.set &&& set = 0) :
    s.withdrawOverlap set c = s := by
  unfold State.withdrawOverlap
  cases req : s.pipes[c].pendingReq with
  | none => rfl
  | some r => exact if_pos (h r req)

theorem withdrawOverlap_pending {set : ChanSet} {c : Chan} {r : ModeReq} (h : s.pipes[c].pendingReq = some r)
    (overlaps : r.set &&& set ≠ 0) : s.withdrawOverlap set c = s.withdrawMode r := by
  unfold State.withdrawOverlap
  rw [h]
  exact if_neg overlaps

/-- R113: with no request that overlaps, none is withdrawn. -/
theorem withdraw_none {set : ChanSet} (cs : List Chan)
    (h : ∀ c : Chan, ∀ r, s.pipes[c].pendingReq = some r → r.set &&& set = 0) :
    eachChan (State.withdrawOverlap set) cs s = s := eachChan_id fun c _ => withdrawOverlap_free (h c)

theorem withdrawMode_pipe (r : ModeReq) (c : Chan) : (s.withdrawMode r).pipes[c] =
    if s.pipes[c].pendingReq = some r then { s.pipes[c] with pendingMode := none, pendingReq := none } else s.pipes[c] :=
  Vector.ofFn_chan _ c

/-- R113: one request that overlaps is withdrawn, once. -/
theorem withdraw_one {set : ChanSet} {r : ModeReq} (overlaps : r.set &&& set ≠ 0)
    (only : ∀ c : Chan, ∀ r', s.pipes[c].pendingReq = some r' → r'.set &&& set ≠ 0 → r' = r) {cs : List Chan}
    (pending : ∃ c ∈ cs, s.pipes[c].pendingReq = some r) :
    eachChan (State.withdrawOverlap set) cs s = s.withdrawMode r := by
  induction cs with
  | nil => simp at pending
  | cons c cs ih =>
    rw [eachChan_cons]
    by_cases here : s.pipes[c].pendingReq = some r
    · rw [withdrawOverlap_pending here overlaps]
      refine withdraw_none cs fun d r' still => ?_
      by_contra other
      rw [withdrawMode_pipe] at still
      split at still
      · cases still
      · next kept => exact kept (only d r' still other ▸ still)
    · rw [withdrawOverlap_free fun r' hr' => ?_]
      · obtain ⟨d, mem, hd⟩ := pending
        rcases List.mem_cons.1 mem with rfl | mem
        · exact absurd hd here
        · exact ih ⟨d, mem, hd⟩
      · by_contra other
        exact here (only c r' hr' other ▸ hr')

theorem Vector.ext_fin {α : Type} {n : Nat} {v w : Vector α n} (h : ∀ i : Fin n, v[i] = w[i]) : v = w :=
  Vector.ext fun i hi => h ⟨i, hi⟩

/-- R112: the pending mode and request of one channel. -/
def Pipe.pend (mode : Mode) (req : ModeReq) (p : Pipe) : Pipe := { p with pendingMode := some mode, pendingReq := some req }

/-- R112: every channel of a set takes the pending mode and the request. -/
theorem pend_chans (set : ChanSet) (mode : Mode) (req : ModeReq) (s : State) :
    eachChan (fun c s => s.modPipe c (Pipe.pend mode req)) set.chans s = { s with
      pipes := Vector.ofFn fun c : Chan => if set.getLsbD c.val then s.pipes[c].pend mode req else s.pipes[c] } := by
  have rest : eachChan (fun c s => s.modPipe c (Pipe.pend mode req)) set.chans s =
      { s with pipes := (eachChan (fun c s => s.modPipe c (Pipe.pend mode req)) set.chans s).pipes } :=
    eachChan_keeps (P := fun u => u = { s with pipes := u.pipes })
      (fun c u h => congrArg (fun t : State => { t with pipes := u.pipes.set c (u.pipes[c].pend mode req) }) h) _ rfl
  rw [rest]
  refine congrArg (fun v => { s with pipes := v }) (Vector.ext_fin fun c => ?_)
  have at_ := eachChan_at State.pipes (f := fun c s => s.modPipe c (Pipe.pend mode req)) (fun c s => s.pipes[c].pend mode req)
    (fun c s => State.modPipe_pipes_same s c _) (fun c d s h => State.modPipe_pipes_ne s c d _ h)
    (fun c d s h => congrArg (Pipe.pend mode req) (State.modPipe_pipes_ne s c d _ h)) (.inl set.chans_nodup) s c
  simp only [ChanSet.mem_chans] at at_
  rw [Vector.ofFn_chan]
  exact at_

theorem channelModeParams_bad (h : chanSetOf (byteAt ps 0) = none ∨ modeOfCode (byteAt ps 1) = none ∨ ps.length < 2) :
    channelModeParams ps = none := by
  match ps, h with
  | [], _ => rfl
  | [_], _ => rfl
  | b0 :: b1 :: rest, h =>
    have h : chanSetOf b0 = none ∨ modeOfCode b1 = none := by
      rcases h with h | h | h
      · exact .inl h
      · exact .inr h
      · simp only [List.length_cons] at h; omega
    unfold channelModeParams
    dsimp only
    rcases h with h | h
    · rw [h]
    · rw [h]
      cases chanSetOf b0 <;> rfl

/-- R112: CHANNEL_MODE with parameters in order, when the withdrawals leave `u`. -/
theorem takeChannelMode_some {set : ChanSet} {mode : Mode} (h : channelModeParams ps = some (set, mode))
    (withdrawn : eachChan (State.withdrawOverlap set) (List.finRange 6) s = u) : takeChannelMode k tag ps s =
      State.keep k (.command tag 8 ps) { u with
        pipes := Vector.ofFn fun c : Chan =>
          if set.getLsbD c.val then u.pipes[c].pend mode ⟨k, tag, set⟩ else u.pipes[c] } := by
  have pended := pend_chans set mode ⟨k, tag, set⟩ u
  unfold takeChannelMode
  rw [h]
  dsimp only
  rw [withdrawn]
  exact congrArg (State.keep k (.command tag 8 ps)) pended

/-- R113: the pending requests that overlap a set. -/
theorem takeChannelMode_pipes {set : ChanSet} {mode : Mode} {req : ModeReq} (p : Pipe) (q : Pipe)
    (h : q = if p.pendingReq.any (fun r => decide (r.set &&& set ≠ 0)) then { p with pendingMode := none, pendingReq := none } else p)
    (c : Chan) : (if set.getLsbD c.val then q.pend mode req else q) =
      if set.getLsbD c.val then p.pend mode req
      else if p.pendingReq.any (fun r => decide (r.set &&& set ≠ 0)) then { p with pendingMode := none, pendingReq := none }
      else p := by
  have same : q.pend mode req = p.pend mode req := by
    rw [h]
    split <;> rfl
  rw [same, ← h]

/-! ### BARRIER_LIMIT -/

theorem takeBarrierLimit_some {v : Byte} {rest : List Byte} (h : ps = v :: rest) : takeBarrierLimit k tag ps s =
    let u := match s.barrier.pendingReq with
      | some (j, t) => s.complete j t .superseded []
      | none => s
    State.keep k (.command tag 9 ps) { u with
      barrier := { u.barrier with pendingLimit := some v.toNat, pendingReq := some (k, tag) } } := by
  subst h
  rfl

/-- Settles O42. -/
theorem pendingRequestsReplaceEarlierOnes : Obligations.PendingRequestsReplaceEarlierOnes := by
  intro s k tag ps takes p
  have kept {code : Byte} {u : State} {m : Msg} (hr : commandRoles code = some roleShow)
      (rx : ∀ j : LinkId, u.links[j].rx = s.links[j].rx) (waiting : u.staging.waiting = []) :
      Leads s k tag code ps (u.keep k m) (u.kept k m) := Leads.kept takes hr rx (claimants_calm _ _ waiting)
  have rx : ∀ j : LinkId, p.links[j].rx = s.links[j].rx := s.asked_rx tag
  have waiting : p.staging.waiting = [] := takes.1.1
  refine ⟨fun bad => ?_, ?_, ?_, ?_⟩
  · refine Leads.replied takes rfl ?_
    change takeChannelMode k tag ps _ = _
    unfold takeChannelMode
    rw [channelModeParams_bad bad]
  · intro b0 b1 rest mode hps ne small hmode set overlaps pipes
    have params : channelModeParams ps = some (set, mode) := by
      subst hps
      unfold channelModeParams
      dsimp only
      rw [chanSetOf_some ne small, hmode]
    have pends (c : Chan) (q : Pipe) (hq : q = if s.pipes[c].pendingReq.any (fun r => decide (r.set &&& set ≠ 0)) then
        { s.pipes[c] with pendingMode := none, pendingReq := none } else s.pipes[c]) :
        (if set.getLsbD c.val then q.pend mode ⟨k, tag, set⟩ else q) = pipes[c] := by
      refine (takeChannelMode_pipes s.pipes[c] q hq c).trans ?_
      dsimp only [pipes]
      rw [Vector.ofFn_chan]
      rfl
    constructor
    · intro none
      have free : ∀ c : Chan, ∀ r, p.pipes[c].pendingReq = some r → r.set &&& set = 0 := fun c r h => not_not.1 (none c r h)
      have piped : (Vector.ofFn fun c : Chan => if set.getLsbD c.val then p.pipes[c].pend mode ⟨k, tag, set⟩ else p.pipes[c]) =
          pipes := Vector.ext_fin fun c => (Vector.ofFn_chan _ c).trans (pends c _ (by
        rw [if_neg]
        · rfl
        · cases req : s.pipes[c].pendingReq with
          | none => simp
          | some r => simpa using free c r req))
      have taken := takeChannelMode_some (k := k) (tag := tag) params (withdraw_none (List.finRange 6) free)
      rw [piped] at taken
      exact kept rfl rx waiting taken
    · intro r hr pending only
      have withdrawn := withdraw_one (s := p) hr only (cs := List.finRange 6)
        (pending.imp fun c h => ⟨List.mem_finRange c, h⟩)
      have taken := takeChannelMode_some (k := k) (tag := tag) params withdrawn
      have piped : (Vector.ofFn fun c : Chan => if set.getLsbD c.val then (p.withdrawMode r).pipes[c].pend mode ⟨k, tag, set⟩
          else (p.withdrawMode r).pipes[c]) = pipes := Vector.ext_fin fun c => (Vector.ofFn_chan _ c).trans (pends c _ (by
        rw [withdrawMode_pipe]
        refine ite_congr (propext ?_) (fun _ => rfl) fun _ => rfl
        change s.pipes[c].pendingReq = some r ↔ _
        rw [Option.any_eq_true]
        constructor
        · exact fun h => ⟨r, h, decide_eq_true hr⟩
        · rintro ⟨r', h, h'⟩
          rw [h, only c r' h (of_decide_eq_true h')]))
      rw [piped] at taken
      exact kept rfl (fun j => (p.complete_rx r.link j r.tag .superseded []).trans (rx j)) (complete_waiting (st := .superseded) (bytes := []) waiting) taken
  · rintro rfl
    exact Leads.replied takes rfl rfl
  · intro v rest hps barrier
    have taken := takeBarrierLimit_some (s := p) (k := k) (tag := tag) hps
    constructor
    · intro none
      have absent : p.barrier.pendingReq = .none := none
      rw [absent] at taken
      exact kept rfl rx waiting taken
    · intro j t pending
      have present : p.barrier.pendingReq = some (j, t) := pending
      rw [present] at taken
      exact kept rfl (fun i => (p.complete_rx j i t .superseded []).trans (rx i)) (complete_waiting (st := .superseded) (bytes := []) waiting) taken

end Sys2Proof.Machine
end

section
/-! SUPPORT. Copies of copy-back (R146, R160), the ends of the Scanner's passes (R153 to R157) and the begin of a repair
(R158). -/

namespace Sys2Proof.Machine

variable {s u : State} {c : Chan}

/-! ### Copy-back -/

/-- R146: the last copy of copy-back, of channel `c`, before a repair ends with it. -/
def State.copiedBack (c : Chan) (s : State) : State :=
  { (s.setStagingRecord c (Cells.write defaultByte (s.activeRecord c) 44 [3, 0])).setStagingHeader
      (Cells.write zeroByte s.stagingHeader 0 (Cells.bytes zeroByte s.activeHeader 0 16)) with
    staging := { s.staging with copyList := [], state := .openState, owner := none } }

theorem copiedBack_sameActive (c : Chan) (s : State) : s.SameActive (s.copiedBack c) :=
  (s.setStagingRecord_sameActive c _).trans
    ((State.setStagingHeader_sameActive _ _).trans (State.sameActive_of_eq rfl rfl rfl))

theorem copyEnd_last (h : s.staging.copyList = [c]) : s.copyEnd = (s.copiedBack c).endRepair := by
  unfold State.copyEnd
  rw [h]
  dsimp only
  rw [if_pos rfl]
  have header (b : Bank) : ((s.copyActive c).modStaging fun g => { g with copyList := [] }).header b = s.header b :=
    State.header_setRecord _ _ _ _ _
  unfold State.copyActiveName State.stagingHeader State.activeHeader
  rw [header, header]
  rfl

theorem copyEnd_more {rest : List Chan} (h : s.staging.copyList = c :: rest) (more : rest ≠ []) : s.copyEnd =
    { s.setStagingRecord c (Cells.write defaultByte (s.activeRecord c) 44 [3, 0]) with
      staging := { s.staging with copyList := rest } } := by
  unfold State.copyEnd
  rw [h]
  dsimp only
  rw [if_neg more]
  rfl

theorem endRepair_some {r : Repair} (h : s.scanner.repair = some r) : s.endRepair =
    State.raise .integrity { s with scanner := { s.scanner with
      repair := none
      report := .repaired r.chan
      watch := s.scanner.watch.set r.chan
        { s.scanner.watch[r.chan] with state := .referencePending, reference := none, source := none }
      pass := if s.scanner.lock = true ∧ s.scanner.pass = none then
        some { chan := r.chan, view := s.activeRecord r.chan } else s.scanner.pass } } := by
  unfold State.endRepair
  rw [h]
  dsimp only
  have due : (s.scanner.lock && s.scanner.pass.isNone) = true ↔ s.scanner.lock = true ∧ s.scanner.pass = none := by simp
  by_cases pass : s.scanner.lock = true ∧ s.scanner.pass = none
  · rw [if_pos pass]
    exact if_pos (due.2 pass)
  · rw [if_neg pass]
    exact if_neg (mt due.1 pass)

/-- Settles O53. -/
theorem copyBackEndsChannelByChannel : Obligations.CopyBackEndsChannelByChannel := by
  intro s c rest state list copied name v
  have run : exec .copyBackCopyEnd s = .next (s.settled s.copyEnd) := by
    change Host.Outcome.next (s.settled (if s.staging.state = .copyBack then s.copyEnd else s)) = _
    rw [if_pos state]
  refine ⟨fun more => ?_, fun last waiting none => ?_, fun last waiting r repair => ?_⟩
  · rw [run, copyEnd_more list more]
    exact congrArg _ (settled_quiet _ _ (claimants_of_same rfl rfl rfl) (heads_same _ _ (fun _ => rfl) rfl))
  · subst last
    have ended : (s.copiedBack c).endRepair = s.copiedBack c := by
      unfold State.endRepair
      rw [show (s.copiedBack c).scanner.repair = .none from none]
    rw [run, copyEnd_last list, ended]
    exact congrArg _ (settled_still (fun _ => rfl) rfl waiting)
  · subst last
    have active : (s.copiedBack c).activeRecord r.chan = s.activeRecord r.chan := (copiedBack_sameActive c s).record r.chan
    rw [run, copyEnd_last list, endRepair_some (show (s.copiedBack c).scanner.repair = some r from repair), active]
    exact congrArg _ (settled_still (fun j => State.raise_rx _ j _) rfl waiting)

/-! ### Passes -/

/-- R153: what the end of a pass leaves of the Scanner, when it leaves `w` of channel `c`. -/
def State.passed (s : State) (c : Chan) (w : Watch) (u : State) : State :=
  { u with scanner := { u.scanner with
    watch := s.scanner.watch.set c w
    pass := ([c + 1, c + 2, c + 3, c + 4, c + 5, c].find? fun x : Chan =>
      decide ((s.scanner.watch.set c w)[x].state ≠ .fault)).map fun x => { chan := x, view := s.activeRecord x } } }

theorem nextPass_passed {w : Watch} (hw : u.scanner.watch = s.scanner.watch.set c w)
    (ha : ∀ x, u.activeRecord x = s.activeRecord x) : u.nextPass c = s.passed c w u := by
  rw [State.nextPass_same, State.nextPass_pass, chansAfter_eq]
  unfold State.passed
  rw [← hw]
  simp only [ha]

theorem canRepair_iff : s.canRepair = true ↔
    s.scanner.queue ≠ [] ∧ s.scanner.repair = none ∧ s.staging.state = .openState ∧ s.preset.nv = none := by
  unfold State.canRepair State.isOpen State.nvIdle
  simp [and_assoc]

/-- The end of a pass leaves the Scanner's channel with `w`, and `u` otherwise; nothing comes to be served or judged. -/
theorem passEnd_settled {w : Watch} (ended : s.passEnd = s.passed c w u) (state : u.staging.state = s.staging.state)
    (nv : u.preset.nv = s.preset.nv) (due : s.canRepair = true → (s.passed c w u).canRepair = true)
    (rx : ∀ j : LinkId, u.links[j].rx = s.links[j].rx) (hold : u.staging.hold = s.staging.hold) :
    exec .scanPassEnd s = .next (s.passed c w u).beginSends := by
  change Host.Outcome.next (s.settled s.passEnd) = _
  rw [ended, settled_quiet]
  · unfold claimants State.isOpen State.nvIdle
    rw [show (s.passed c w u).staging = u.staging from rfl, show (s.passed c w u).preset = u.preset from rfl, state, nv]
    by_cases h : s.canRepair = true
    · simp [due h]
    · simp [h]
  · exact heads_same _ _ rx hold

theorem passEnd_pending {p : Pass} (h : s.scanner.pass = some p)
    (state : s.scanner.watch[p.chan].state = .referencePending) :
    s.passEnd = (s.takeReference p.chan p.view).nextPass p.chan := by
  unfold State.passEnd
  rw [h]
  dsimp only
  rw [state]

theorem passEnd_checking {p : Pass} (h : s.scanner.pass = some p) (state : s.scanner.watch[p.chan].state = .checking) :
    s.passEnd = (s.compareReference p.chan p.view).nextPass p.chan := by
  unfold State.passEnd
  rw [h]
  dsimp only
  rw [state]

theorem validSource_some {sl : SlotId} : s.validSource c = some sl ↔
    s.scanner.watch[c].source = some (.slot sl) ∧ s.slotState sl = .valid := by
  unfold State.validSource
  split
  · next x source =>
    rw [source]
    split
    · next valid => simpa using fun e => e ▸ valid
    · next bad => simpa using fun e => e ▸ bad
  · next other => exact ⟨fun h => absurd h (by simp), fun h => absurd h.1 (other sl)⟩

theorem validSource_none : s.validSource c = none ↔
    ∀ sl, s.scanner.watch[c].source = some (.slot sl) → s.slotState sl ≠ .valid := by
  rw [Option.eq_none_iff_forall_ne_some]
  exact forall_congr' fun sl => (not_congr validSource_some).trans not_and

/-- A pass reads the record of every byte. -/
theorem compareReference_eq (view : Cells) : s.compareReference c view =
    if s.scanner.watch[c].reference = some (crc32 (Cells.bytes defaultByte view 0 103498)) then
      s.modWatch c fun w => { w with checks := w.checks + 1 }
    else (s.modWatch c fun w => { w with checks := w.checks + 1 }).findFault c := by
  unfold State.compareReference
  dsimp only
  rw [State.modWatch_watch_get, if_pos rfl]
  rfl

/-- R155: the FAULT that the end of a pass tells. -/
def State.faulted (c : Chan) (s : State) : State :=
  State.raise .integrity { s with scanner := { s.scanner with
    report := .fault c
    watch := s.scanner.watch.set c { s.scanner.watch[c] with state := .fault, checks := s.scanner.watch[c].checks + 1 } } }

theorem findFault_eq : (s.modWatch c fun w => { w with checks := w.checks + 1 }).findFault c =
    match s.validSource c with
    | some _ => (s.faulted c).queueRepair c
    | none => s.faulted c := by
  have twice : ((s.modWatch c fun w => { w with checks := w.checks + 1 }).modWatch c fun w => { w with state := .fault }) =
      s.modWatch c fun w => { w with state := .fault, checks := w.checks + 1 } := by
    unfold State.modWatch
    simp [Vector.set_set]
  have source : (s.faulted c).validSource c = s.validSource c := by
    have kept : (s.faulted c).scanner.watch[c].source = s.scanner.watch[c].source := by
      refine (congrArg Watch.source (Vector.set_fin s.scanner.watch c c _)).trans ?_
      rw [if_pos rfl]
    unfold State.validSource
    rw [kept]
    rfl
  unfold State.findFault
  dsimp only
  rw [twice]
  change (match (s.faulted c).validSource c with
    | some _ => (s.faulted c).queueRepair c
    | none => s.faulted c) = _
  rw [source]

theorem await_eq (w : Claimant) (s : State) : s.await w = { s with staging := { s.staging with
    waiting := if w ∈ s.staging.waiting then s.staging.waiting else s.staging.waiting ++ [w] } } := by
  unfold State.await State.modStaging
  dsimp only
  by_cases h : w ∈ s.staging.waiting
  · rw [if_pos h, if_pos h]
  · rw [if_neg h, if_neg h]

/-- Settles O55. -/
theorem scannerPassesEnd : Obligations.ScannerPassesEnd := by
  intro s p pass c w crc origin source after valid faulty told
  refine ⟨fun pending => ?_, fun checking same => ?_, fun checking other bad => ?_, fun checking other ⟨sl, good⟩ => ?_⟩
  · exact passEnd_settled (u := s) ((passEnd_pending pass pending).trans (nextPass_passed rfl fun _ => rfl)) rfl rfl id
      (fun _ => rfl) rfl
  · refine passEnd_settled (u := s) ((passEnd_checking pass checking).trans ?_) rfl rfl id (fun _ => rfl) rfl
    rw [compareReference_eq, if_pos same]
    exact nextPass_passed rfl fun _ => rfl
  · refine passEnd_settled (u := told) ((passEnd_checking pass checking).trans ?_) rfl rfl id
      (fun j => State.raise_rx _ j _) rfl
    rw [compareReference_eq, if_neg other, findFault_eq, validSource_none.2 fun sl h h' => bad ⟨sl, h, h'⟩]
    exact nextPass_passed rfl fun _ => rfl
  · refine passEnd_settled ((passEnd_checking pass checking).trans ?_) rfl rfl (fun due => ?_)
      (fun j => State.raise_rx _ j _) rfl
    · rw [compareReference_eq, if_neg other, findFault_eq, validSource_some.2 good]
      dsimp only [State.queueRepair]
      rw [await_eq]
      exact nextPass_passed rfl fun _ => rfl
    · obtain ⟨_, repair, state, nv⟩ := canRepair_iff.1 due
      exact canRepair_iff.2 ⟨by simp [State.passed], repair, state, nv⟩

/-! ### Repairs -/

/-- R158: what the failures of the queued channels `failed` leave, but for the queue. -/
def State.repairsFailed (failed : List Chan) (s : State) : State :=
  match failed.getLast? with
  | some c => ({ s with scanner := { s.scanner with report := .repairFailed c } } : State).raise .integrity
  | none => s

theorem raise_raise (e : EventKind) (s : State) : (s.raise e).raise e = s.raise e := by
  have links : (s.raise e).raise e = { s.raise e with links := ((s.raise e).raise e).links } := rfl
  rw [links]
  refine congrArg (fun v => { s with links := v }) (Vector.ext_fin fun k => ?_)
  change ((s.raise e).raise e).links[k] = (s.raise e).links[k]
  rw [State.raise_links_get, State.raise_links_get, Link.raise_raise]

theorem tryRepairs_failed (more : List Chan) :
    ∀ (failed : List Chan) (s : State), (∀ x ∈ failed, s.validSource x = none) → s.scanner.queue = failed ++ more →
      State.tryRepairs (failed ++ more) s = State.tryRepairs more
        { s.repairsFailed failed with scanner := { (s.repairsFailed failed).scanner with queue := more } }
  | [], s, _, queue => by
    rw [show s.repairsFailed [] = s from rfl]
    simp only [List.nil_append] at queue ⊢
    rw [← queue]
  | x :: failed, s, fails, queue => by
    let t : State := (s.modScanner fun n => { n with queue := failed ++ more }).report (.repairFailed x)
    have first : State.tryRepairs (x :: failed ++ more) s = State.tryRepairs (failed ++ more) t := by
      rw [List.cons_append, State.tryRepairs, fails x List.mem_cons_self]
    rw [first, tryRepairs_failed more failed t (fun y hy => fails y (List.mem_cons_of_mem x hy)) rfl]
    refine congrArg (State.tryRepairs more) ?_
    cases failed with
    | nil => rfl
    | cons y failed =>
      unfold State.repairsFailed
      rw [List.getLast?_cons_cons, List.getLast?_eq_some_getLast (List.cons_ne_nil y failed)]
      exact raise_raise .integrity { s with scanner := { s.scanner with
        report := .repairFailed ((y :: failed).getLast (List.cons_ne_nil y failed)), queue := more } }

theorem repairsFailed_staging (failed : List Chan) (s : State) : (s.repairsFailed failed).staging = s.staging := by
  unfold State.repairsFailed
  split <;> rfl

theorem repairsFailed_preset (failed : List Chan) (s : State) : (s.repairsFailed failed).preset = s.preset := by
  unfold State.repairsFailed
  split <;> rfl

theorem repairsFailed_watch (failed : List Chan) (s : State) :
    (s.repairsFailed failed).scanner.watch = s.scanner.watch := by
  unfold State.repairsFailed
  split <;> rfl

theorem repairsFailed_rx (failed : List Chan) (s : State) (j : LinkId) :
    (s.repairsFailed failed).links[j].rx = s.links[j].rx := by
  unfold State.repairsFailed
  split
  · exact State.raise_rx _ j _
  · rfl

theorem beginRepair_able (h : s.canRepair = true) : s.beginRepair =
    if ((s.tryRepairs s.scanner.queue).unwait .repair).scanner.queue = [] then (s.tryRepairs s.scanner.queue).unwait .repair
    else ((s.tryRepairs s.scanner.queue).unwait .repair).await .repair := by
  unfold State.beginRepair
  rw [if_pos h]
  dsimp only
  exact ite_congr (propext List.isEmpty_iff) (fun _ => rfl) fun _ => rfl

/-- R158: the repair of channel `c` from slot `sl` begins, with `rest` behind it in the queue. -/
def State.repairBegun (c : Chan) (sl : SlotId) (rest : List Chan) (u : State) : State :=
  { u with
    scanner := { u.scanner with queue := rest, repair := some { chan := c, slot := sl, phase := .loading } }
    preset := { u.preset with nv := some (.load sl .repair), progress := some { landing := c, sound := [] } }
    staging := { u.staging with
      state := .loading
      owner := some .repair
      waiting := (u.staging.waiting.filter fun w => w ≠ .repair) ++ (if rest = [] then [] else [.repair]) } }

theorem repairBegun_eq {g : Staging} {p : Preset} (c : Chan) (sl : SlotId) (rest : List Chan) (hg : u.staging = g)
    (hp : u.preset = p) : u.repairBegun c sl rest =
    { u with
      scanner := { u.scanner with queue := rest, repair := some { chan := c, slot := sl, phase := .loading } }
      preset := { p with nv := some (.load sl .repair), progress := some { landing := c, sound := [] } }
      staging := { g with
        state := .loading
        owner := some .repair
        waiting := (g.waiting.filter fun w => w ≠ .repair) ++ (if rest = [] then [] else [.repair]) } } := by
  subst hg hp
  rfl

/-- R125: the repair next in the queue waits at the end of the order. -/
theorem startRepair_waits (c : Chan) (sl : SlotId) (rest : List Chan) (u : State) :
    (if rest = [] then ((u.modScanner fun n => { n with queue := rest }).startRepair c sl).unwait .repair
      else (((u.modScanner fun n => { n with queue := rest }).startRepair c sl).unwait .repair).await .repair) =
      u.repairBegun c sl rest := by
  have begun : ((u.modScanner fun n => { n with queue := rest }).startRepair c sl).unwait .repair =
      { u with
        scanner := { u.scanner with queue := rest, repair := some { chan := c, slot := sl, phase := .loading } }
        preset := { u.preset with nv := some (.load sl .repair), progress := some { landing := c, sound := [] } }
        staging := { u.staging with
          state := .loading, owner := some .repair, waiting := u.staging.waiting.filter fun w => w ≠ .repair } } := rfl
  have out : Claimant.repair ∉ u.staging.waiting.filter fun w => w ≠ .repair := by simp
  rw [begun, await_eq]
  unfold State.repairBegun
  by_cases last : rest = []
  · rw [if_pos last, if_pos last, List.append_nil]
  · rw [if_neg last, if_neg last, if_neg out]

theorem beginRepair_begun {failed rest : List Chan} {sl : SlotId} (able : s.canRepair = true)
    (queue : s.scanner.queue = failed ++ c :: rest) (failing : ∀ x ∈ failed, s.validSource x = none)
    (valid : (s.repairsFailed failed).validSource c = some sl) :
    s.beginRepair = (s.repairsFailed failed).repairBegun c sl rest := by
  have tried : s.tryRepairs s.scanner.queue = (((s.repairsFailed failed).modScanner fun n =>
      { n with queue := rest }).startRepair c sl) := by
    rw [queue, tryRepairs_failed _ failed s failing queue, State.tryRepairs]
    split
    · next sl' valid' =>
      obtain rfl : sl = sl' := Option.some.inj (valid.symm.trans valid')
      rfl
    · next invalid => exact absurd (valid.symm.trans invalid) (by simp)
  rw [beginRepair_able able, tried]
  exact startRepair_waits c sl rest (s.repairsFailed failed)

theorem beginRepair_none (able : s.canRepair = true) (failing : ∀ x ∈ s.scanner.queue, s.validSource x = none) :
    s.beginRepair = { s.repairsFailed s.scanner.queue with
      scanner := { (s.repairsFailed s.scanner.queue).scanner with queue := [] }
      staging := { (s.repairsFailed s.scanner.queue).staging with
        waiting := (s.repairsFailed s.scanner.queue).staging.waiting.filter fun w => w ≠ .repair } } := by
  have tried := tryRepairs_failed [] s.scanner.queue s failing (List.append_nil _).symm
  rw [List.append_nil] at tried
  rw [beginRepair_able able, tried]
  exact if_pos rfl

/-- Settles O56. -/
theorem repairsBegin : Obligations.RepairsBegin := by
  intro s able fails told
  have run : exec .repairBegin s = .next (s.settled s.beginRepair) := rfl
  refine ⟨fun unable => ?_, fun failed c rest sl queue able failing source valid => ?_, fun able failing only => ?_⟩
  · have still : s.beginRepair = s := if_neg (mt canRepair_iff.1 unable)
    rw [run, still, settled_quiet _ _ (claimants_refl _ _) (heads_refl _)]
  · have begun := beginRepair_begun (canRepair_iff.2 able) queue (fun x hx => validSource_none.2 (failing x hx))
      (validSource_some.2 ⟨by rw [repairsFailed_watch, source], by rw [State.slotState, repairsFailed_preset]; exact valid⟩)
    have none : claimants s ((s.repairsFailed failed).repairBegun c sl rest) [] = [] := by
      unfold claimants
      rw [show ((s.repairsFailed failed).repairBegun c sl rest).isOpen = false from rfl]
      simp [State.repairBegun]
    have hold : ((s.repairsFailed failed).repairBegun c sl rest).staging.hold = s.staging.hold :=
      (congrArg Staging.hold (repairsFailed_staging failed s) :)
    rw [run, begun, settled_quiet _ _ none (heads_same _ _ (repairsFailed_rx failed s) hold)]
    exact sends_congr (repairBegun_eq c sl rest (repairsFailed_staging failed s) (repairsFailed_preset failed s))
  · have ended := beginRepair_none (canRepair_iff.2 able) fun x hx => validSource_none.2 (failing x hx)
    have empty : (s.staging.waiting.filter fun w => w ≠ .repair) = [] := by simpa using only
    rw [repairsFailed_staging, empty] at ended
    rw [run, ended]
    exact congrArg _ (settled_still (repairsFailed_rx _ s) rfl rfl)

end Sys2Proof.Machine
end

section
/-! SUPPORT. The landing of a record and the end of a restore copy (R141, R159, R160, R170 to R173, R177). -/

namespace Sys2Proof.Machine

variable {s t u : State} {c : Chan} {sl : SlotId} {owner : OpOwner} {g : Progress} {info : SlotInfo} {r r' h : Cells}

/-! ### Writes to the banks -/

theorem setRecord_setRecord (b : Bank) : (s.setRecord b c r).setRecord b c r' = s.setRecord b c r' := by
  unfold State.setRecord State.modBank
  simp

theorem setHeader_setRecord (b b' : Bank) : (s.setHeader b' h).setRecord b c r = (s.setRecord b c r).setHeader b' h := by
  refine congrArg (fun v => ({ s with banks := v } : State)) (Vector.ext_fin fun x => ?_)
  change ((s.setHeader b' h).setRecord b c r).banks[x] = ((s.setRecord b c r).setHeader b' h).banks[x]
  simp only [State.setHeader, State.setRecord, State.modBank_get]
  by_cases hb : x = b
  · subst hb
    by_cases hb' : x = b'
    · subst hb'
      simp
    · simp [hb']
  · by_cases hb' : x = b'
    · subst hb'
      simp [hb]
    · simp [hb, hb']

theorem stagingRecord_setStagingRecord : (s.setStagingRecord c r).stagingRecord c = r :=
  (State.record_setRecord _ _ c c r s).trans (if_pos ⟨rfl, rfl⟩)

theorem setStagingRecord_twice : (s.setStagingRecord c r).setStagingRecord c r' = s.setStagingRecord c r' :=
  setRecord_setRecord _

theorem stagingSet_header (set : ChanSet) : (s.setStagingHeader h).stagingSet set = s.stagingSet set := by
  unfold State.stagingSet
  refine List.map_congr_left fun x _ => ?_
  exact congrArg (Prod.mk x) (State.record_setHeader _ _ x h s)

/-! ### What lands -/

/-- R170: the record of channel `c` as it lands from slot `sl`. -/
def State.landedRecord (s : State) (sl : SlotId) (c : Chan) : Cells :=
  applyWrite landField defaultByte (s.stagingRecord c) 0 (Cells.bytes defaultByte s.flash.bodies[sl].records[c] 0 103498)

/-- R170: the record of channel `c` has landed, and is sound. -/
def State.landedSound (s : State) (sl : SlotId) (c : Chan) : State :=
  s.setStagingRecord c (Cells.write defaultByte (s.landedRecord sl c) 44 [1, BitVec.ofNat 8 sl.val])

/-- R159, R171, R173: the staging set header takes the name that a load brings. -/
def State.loadNamed (s : State) (sl : SlotId) (owner : OpOwner) (v : State) : State :=
  v.setStagingHeader (Cells.write zeroByte s.stagingHeader 0
    (Cells.bytes zeroByte (if owner = .repair then s.activeHeader else s.flash.bodies[sl].header) 0 16))

/-- R170: the state in which the CRC of the record that has landed is compared. -/
def State.landedState (s : State) (sl : SlotId) (owner : OpOwner) (c : Chan) : State :=
  if owner = .repair then s.loadNamed sl owner (s.setStagingRecord c (s.landedRecord sl c))
  else s.setStagingRecord c (s.landedRecord sl c)

theorem landName_landRecord : (s.landRecord c (Rec.bytes s.flash.bodies[sl].records[c])).landName owner =
    s.landedState sl owner c := by
  unfold State.landedState State.landName
  refine ite_congr rfl (fun repair => ?_) fun _ => rfl
  unfold State.copyActiveName State.loadNamed
  rw [if_pos repair]
  have header (b : Bank) : (s.landRecord c (Rec.bytes s.flash.bodies[sl].records[c])).header b = s.header b :=
    State.header_setRecord _ _ _ _ _
  unfold State.stagingHeader State.activeHeader
  rw [header, header]
  rfl

theorem recordLanded_eq (nv : s.preset.nv = some (.load sl owner)) (progress : s.preset.progress = some g)
    (held : s.preset.directory[sl].info = some info) : s.recordLanded =
    if crc32 (Cells.bytes defaultByte s.flash.bodies[sl].records[g.landing] 0 103498) = info.crcs[g.landing] then
      (s.landedState sl owner g.landing).recordSound sl owner g
    else (s.landedState sl owner g.landing).recordBad sl g.landing := by
  unfold State.recordLanded
  rw [nv, progress]
  dsimp only
  rw [landName_landRecord]
  refine ite_congr (propext ?_) (fun _ => rfl) fun _ => rfl
  unfold State.slotCrc
  rw [held]
  exact (Option.some_inj).trans eq_comm

theorem recordSound_repair : (s.landedState sl .repair g.landing).recordSound sl .repair g =
    (s.loadNamed sl .repair (s.landedSound sl g.landing)).commitRepair g.landing := by
  have landed : (s.landedState sl .repair g.landing).stagingRecord g.landing = s.landedRecord sl g.landing :=
    (State.record_setHeader _ _ _ _ _).trans stagingRecord_setStagingRecord
  unfold State.recordSound
  dsimp only
  rw [if_pos rfl, landed]
  refine congrArg (State.commitRepair g.landing) ?_
  refine (setHeader_setRecord _ _).trans (congrArg (State.setHeader _ _) ?_)
  exact setRecord_setRecord _

theorem recordSound_load (load : owner ≠ .repair) : (s.landedState sl owner g.landing).recordSound sl owner g =
    if g.landing = 5 then (s.landedSound sl g.landing).endLoad sl owner
    else (s.landedSound sl g.landing).modPreset
      fun q => { q with progress := some { landing := g.landing + 1, sound := g.sound ++ [g.landing] } } := by
  have landed : s.landedState sl owner g.landing = s.setStagingRecord g.landing (s.landedRecord sl g.landing) := if_neg load
  unfold State.recordSound
  dsimp only
  rw [if_neg load, landed, stagingRecord_setStagingRecord, setStagingRecord_twice]
  rfl

theorem takeBodyName_eq (load : owner ≠ .repair) :
    (s.landedSound sl c).takeBodyName sl = s.loadNamed sl owner (s.landedSound sl c) := by
  unfold State.takeBodyName State.loadNamed
  rw [if_neg load]
  have header : (s.landedSound sl c).stagingHeader = s.stagingHeader := State.header_setRecord _ _ _ _ _
  rw [header]
  rfl

theorem heads_kept_or_empty (rx : ∀ j : LinkId, t.links[j].rx = s.links[j].rx ∨ t.links[j].rx = [])
    (hold : t.staging.hold = s.staging.hold) : heads s t = [] := by
  unfold heads holdEnded
  refine List.filter_eq_nil_iff.2 fun k _ => ?_
  rw [hold]
  obtain same | empty := rx k
  · rw [same]
    cases s.links[k].rx <;> by_cases hk : s.staging.hold = some k <;> simp [hk]
  · rw [empty]
    simp

theorem Link.tryUp_rx (l : Link) : l.tryUp.rx = l.rx ∨ l.tryUp.rx = [] := by
  unfold Link.tryUp
  split
  · exact .inr rfl
  · exact .inl rfl

/-- A change after which nothing waits, with links come UP, settles at once. -/
theorem settled_up (links : ∀ j : LinkId, u.links[j] = s.links[j].tryUp) (hold : u.staging.hold = s.staging.hold)
    (waiting : u.staging.waiting = []) : s.settled u = u.beginSends :=
  settled_quiet _ _ (claimants_calm _ _ waiting)
    (heads_kept_or_empty (fun j => by rw [links j]; exact Link.tryUp_rx _) hold)

/-- R141: the part's own commit of `set` is pending after a sound load, whose operation has ended. -/
def State.loadCommitted (set : ChanSet) (u : State) : State :=
  { u with
    preset := { u.preset with nv := none, requester := none, progress := none }
    staging := { u.staging with
      state := .commitPending, commit := some { owner := .part, set := set, kind := .nextTick } } }

/-- R141: a sound load has ended, with no commit of its own. -/
def State.loadOpened (u : State) : State :=
  { u with
    preset := { u.preset with nv := none, requester := none, progress := none }
    staging := { u.staging with state := .openState, owner := none } }

theorem commitStartUp_good (check : checkRecords (u.stagingSet 63) = none) :
    u.commitStartUp = (u.loadCommitted 63).settleBoot .loaded := by
  unfold State.commitStartUp
  rw [check]
  rfl

theorem commitStartUp_bad {f : CheckFail} (check : checkRecords (u.stagingSet 63) = some f) :
    u.commitStartUp = u.loadOpened.settleBoot .rejected := by
  unfold State.commitStartUp
  rw [check]
  rfl

theorem stagingSet_one : u.stagingSet (1 <<< c.val) = [(c, u.stagingRecord c)] := by
  unfold State.stagingSet
  rw [show ChanSet.chans (1 <<< c.val) = [c] from (by decide : ∀ c : Chan, ChanSet.chans (1 <<< c.val) = [c]) c]
  rfl

theorem commitRepair_good (check : checkRecords [(c, u.stagingRecord c)] = none) :
    u.commitRepair c = (u.loadCommitted (1 <<< c.val)).modScanner
      fun n => { n with repair := n.repair.map fun r => { r with phase := .commitPending } } := by
  unfold State.commitRepair
  dsimp only
  rw [stagingSet_one, check]
  rfl

theorem commitRepair_bad {f : CheckFail} (check : checkRecords [(c, u.stagingRecord c)] = some f) :
    u.commitRepair c = u.loadOpened.failRepair c := by
  unfold State.commitRepair
  dsimp only
  rw [stagingSet_one, check]
  rfl

theorem landedState_preset : (s.landedState sl owner c).preset = s.preset := by
  unfold State.landedState
  split <;> rfl

theorem landedState_flash : (s.landedState sl owner c).flash = s.flash := by
  unfold State.landedState
  split <;> rfl

theorem landedState_staging : (s.landedState sl owner c).staging = s.staging := by
  unfold State.landedState
  split <;> rfl

theorem landedState_links : (s.landedState sl owner c).links = s.links := by
  unfold State.landedState
  split <;> rfl

theorem recordBad_eq (preset : u.preset = s.preset) (flash : u.flash = s.flash) (staging : u.staging = s.staging)
    (held : s.preset.directory[sl].info = some info) : u.recordBad sl c = State.raise .preset
      { u with
        preset := { s.preset with
          nv := none, requester := none, progress := none
          directory := s.preset.directory.set sl { state := .corrupt, info := some info } }
        flash := { s.flash with directory := s.flash.directory.set sl { state := .corrupt, info := some info } }
        staging := { s.staging with restore := some { chan := c, requester := s.preset.requester } } } := by
  have dir : ({ u.preset.directory[sl] with state := .corrupt } : SlotDir) = { state := .corrupt, info := some info } := by
    rw [preset, ← held]
  unfold State.recordBad
  rw [← preset, ← flash, ← staging]
  dsimp only
  rw [← dir]
  rfl

theorem changeLoadedBody_some (nv : s.preset.nv = some (.load sl owner)) (changed : List Host.Cell) :
    s.changeLoadedBody changed =
      { s with flash := { s.flash with bodies := s.flash.bodies.set sl (s.flash.bodies[sl].change changed) } } := by
  unfold State.changeLoadedBody
  rw [nv]
  rfl

theorem recordLanded_run (nv : s.preset.nv = some (.load sl owner)) :
    exec (.presetRecordLanded []) s = .next (s.settled s.recordLanded) := by
  have same : s.changeLoadedBody [] = s := by
    rw [changeLoadedBody_some nv]
    have : s.flash.bodies.set sl (s.flash.bodies[sl].change []) = s.flash.bodies := Vector.set_getElem_self _
    rw [this]
  change Host.Outcome.next (s.settled (s.changeLoadedBody []).recordLanded) = _
  rw [same]

/-- Settles O60. -/
theorem recordsLandAndRestoreCopiesEnd : Obligations.RecordsLandAndRestoreCopiesEnd := by
  constructor
  · intro s sl owner g info waiting nv progress held c bytes landed record u named idle pending
    have run := recordLanded_run nv
    have landing := recordLanded_eq nv progress held
    refine ⟨fun sound => ?_, fun bad => ?_, fun changed inside => ?_⟩
    · rw [if_pos sound] at landing
      refine ⟨fun load more => ?_, fun k load last => ?_, fun load last => ?_, fun load => ?_⟩
      · rw [run, landing, recordSound_load load, if_neg more]
        exact congrArg _ (settled_still (fun _ => rfl) rfl waiting)
      · subst load
        rw [run, landing, recordSound_load (by simp), if_pos last]
        unfold State.endLoad
        dsimp only
        rw [takeBodyName_eq (owner := .link k) (by simp)]
        exact congrArg _ (settled_answered (fun _ => rfl) rfl waiting)
      · subst load
        have ended : s.recordLanded = (s.loadNamed sl .startUp (s.landedSound sl g.landing)).commitStartUp := by
          rw [landing, recordSound_load (by simp), if_pos last, ← takeBodyName_eq (by simp)]
          rfl
        have set : (s.loadNamed sl .startUp (s.landedSound sl g.landing)).stagingSet 63 = u.stagingSet 63 := stagingSet_header 63
        rw [run, ended]
        cases check : checkRecords (u.stagingSet 63) with
        | none =>
          rw [commitStartUp_good (by rw [set, check])]
          exact congrArg _ (settled_up (fun j => settleBoot_link _ j) rfl waiting)
        | some f =>
          rw [commitStartUp_bad (by rw [set, check])]
          exact congrArg _ (settled_up (fun j => settleBoot_link _ j) rfl waiting)
      · subst load
        have ended : s.recordLanded = (s.loadNamed sl .repair (s.landedSound sl g.landing)).commitRepair c :=
          landing.trans recordSound_repair
        have one : (s.loadNamed sl .repair (s.landedSound sl g.landing)).stagingRecord c = record :=
          (State.record_setHeader _ _ _ _ _).trans stagingRecord_setStagingRecord
        rw [run, ended]
        cases check : checkRecords [(c, record)] with
        | none =>
          rw [commitRepair_good (by rw [one, check])]
          exact congrArg _ (settled_still (fun _ => rfl) rfl waiting)
        | some f =>
          rw [commitRepair_bad (by rw [one, check])]
          exact congrArg _ (settled_still (fun j => State.raise_rx _ j _) rfl waiting)
    · rw [run, landing, if_neg bad, recordBad_eq landedState_preset landedState_flash landedState_staging held]
      refine congrArg _ (settled_still (fun j => ?_) rfl waiting)
      exact (State.raise_rx _ j _).trans (by rw [landedState_links])
    · have running : ({ s with flash := { s.flash with bodies := s.flash.bodies.set sl (s.flash.bodies[sl].change changed) } } :
          State).preset.nv = some (.load sl owner) := nv
      change (if cellsInside changed Config.bodySize then
        Host.Outcome.next (s.settled (s.changeLoadedBody changed).recordLanded) else .fault Fault.noSuchByte) = _
      rw [if_pos inside, changeLoadedBody_some nv, recordLanded_run running]
      rfl
  · intro s r restore waiting v
    have run : exec .restoreCopyEnd s = .next (s.settled s.restoreEnd) := rfl
    unfold State.restoreEnd at run
    rw [restore] at run
    dsimp only at run
    refine ⟨fun k owner => ?_, fun owner => ?_, fun owner => ?_⟩
    · rw [run, owner]
      exact congrArg _ (settled_answered (fun _ => rfl) rfl waiting)
    · rw [run, owner]
      exact congrArg _ (settled_up (fun j => settleBoot_link _ j) rfl waiting)
    · rw [run, owner]
      exact congrArg _ (settled_still (fun j => State.raise_rx _ j _) rfl waiting)

end Sys2Proof.Machine
end

section
/-! SUPPORT. What an applied WRITE stores (R21, R22): the fields it touches, composed and treated whole, and nothing
else. -/

namespace Sys2Proof.Machine

/-! ### Layouts -/

/-- The fields of a layout lie side by side in the first `size` bytes. -/
structure IsLayout (layout : Nat → Field) (size : Nat) : Prop where
  inside : ∀ a < size,
    (layout a).start ≤ a ∧ a < (layout a).start + (layout a).size ∧ (layout a).start + (layout a).size ≤ size
  same : ∀ a < size, ∀ j < (layout a).size, layout ((layout a).start + j) = layout a

theorem setHeaderField_layout : IsLayout setHeaderField 32 := ⟨by decide, by decide⟩

theorem setupField_layout : IsLayout setupField 32 := ⟨by decide, by decide⟩

/-- The byte `rel` of a block at `base` lies in a field of the block, all of whose bytes the block gives that field. -/
def InBlock (block : Nat → Field) (base size rel : Nat) : Prop :=
  ∃ lo n t, block rel = ⟨base + lo, n, t⟩ ∧ lo ≤ rel ∧ rel < lo + n ∧ lo + n ≤ size ∧ ∀ j < n, block (lo + j) = block rel

theorem geometryField_inBlock {rel : Nat} (base : Nat) (h : rel < 8) : InBlock (geometryField base) base 8 rel := by
  have u {r : Nat} (h : r < 3) : geometryField base r = ⟨base, 3, .signed (-524288) 524287⟩ := if_pos h
  have v {r : Nat} (h : 3 ≤ r) (h' : r < 6) : geometryField base r = ⟨base + 3, 3, .signed (-524288) 524287⟩ :=
    (if_neg (by omega)).trans (if_pos h')
  obtain low | high | rfl | rfl : rel < 3 ∨ (3 ≤ rel ∧ rel < 6) ∨ rel = 6 ∨ rel = 7 := by omega
  · exact ⟨0, 3, _, u low, by omega, by omega, by omega, fun j hj => by rw [u low, u (by omega)]⟩
  · exact ⟨3, 3, _, v high.1 high.2, by omega, by omega, by omega,
      fun j hj => by rw [v high.1 high.2, v (by omega) (by omega)]⟩
  · exact ⟨6, 1, _, rfl, by omega, by omega, by omega, fun j hj => by rw [Nat.lt_one_iff.1 hj]⟩
  · exact ⟨7, 1, _, rfl, by omega, by omega, by omega, fun j hj => by rw [Nat.lt_one_iff.1 hj]⟩

theorem blendField_inBlock {rel : Nat} (base : Nat) (h : rel < 4) : InBlock (blendField base) base 4 rel := by
  have gain {r : Nat} (h : r < 2) : blendField base r = ⟨base, 2, .unsigned 0 4096⟩ := if_pos h
  have lift {r : Nat} (h : 2 ≤ r) : blendField base r = ⟨base + 2, 2, .unsigned 0 4095⟩ := if_neg (by omega)
  obtain low | high : rel < 2 ∨ 2 ≤ rel := by omega
  · exact ⟨0, 2, _, gain low, by omega, by omega, by omega, fun j hj => by rw [gain low, gain (by omega)]⟩
  · exact ⟨2, 2, _, lift high, by omega, by omega, by omega, fun j hj => by rw [lift high, lift (by omega)]⟩

theorem entry_inBlock {rel : Nat} (base : Nat) (t : Treatment) (h : rel < 2) :
    InBlock (fun _ => ⟨base, 2, t⟩) base 2 rel :=
  ⟨0, 2, t, rfl, by omega, by omega, by omega, fun _ _ => rfl⟩

theorem recordField_plain {a : Nat} (h : 99400 ≤ a) (h' : a < 101448) :
    recordField a = ⟨99400 + 2 * ((a - 99400) / 2), 2, .plain⟩ := by
  unfold recordField
  rw [if_neg (by omega), if_neg (by omega), if_neg (by omega), if_pos h']

theorem recordField_header {a : Nat} (h : a < 64) : recordField a = headerField a := if_pos h

/-- R8: every byte of a record behind its header lies in a block of the layout: a node, or an entry of a table. -/
theorem recordField_block {a : Nat} (h : 64 ≤ a) (h' : a < 103498) : ∃ block base size rel, a = base + rel ∧ rel < size ∧
    base + size ≤ 103498 ∧ InBlock block base size rel ∧ ∀ r < size, recordField (base + r) = block r := by
  obtain geometry | blend | linear | regamma :
      a < 33864 ∨ (33864 ≤ a ∧ a < 99400) ∨ (99400 ≤ a ∧ a < 101448) ∨ 101448 ≤ a := by omega
  · exact ⟨_, 64 + 8 * ((a - 64) / 8), 8, (a - 64) % 8, by omega, by omega, by omega,
      geometryField_inBlock _ (by omega), fun r hr => recordField_node (by omega) hr⟩
  · exact ⟨_, 33864 + 4 * ((a - 33864) / 4), 4, (a - 33864) % 4, by omega, by omega, by omega,
      blendField_inBlock _ (by omega), fun r hr => recordField_blend (by omega) hr⟩
  · refine ⟨_, 99400 + 2 * ((a - 99400) / 2), 2, (a - 99400) % 2, by omega, by omega, by omega,
      entry_inBlock _ .plain (by omega), fun r hr => ?_⟩
    rw [recordField_plain (by omega) (by omega)]
    exact congrArg (fun b => (⟨b, 2, .plain⟩ : Field)) (by omega)
  · refine ⟨_, 101448 + 2 * ((a - 101448) / 2), 2, (a - 101448) % 2, by omega, by omega, by omega,
      entry_inBlock _ (.unsigned 0 1023) (by omega), fun r hr => ?_⟩
    rw [recordField_regamma (by omega)]
    exact congrArg (fun b => (⟨b, 2, .unsigned 0 1023⟩ : Field)) (by omega)

theorem recordField_layout : IsLayout recordField 103498 := by
  have header : ∀ a < 64, ((headerField a).start ≤ a ∧ a < (headerField a).start + (headerField a).size ∧
      (headerField a).start + (headerField a).size ≤ 64) ∧
      ∀ j < (headerField a).size, headerField ((headerField a).start + j) = headerField a := by decide
  refine ⟨fun a ha => ?_, fun a ha j hj => ?_⟩
  · by_cases low : a < 64
    · obtain ⟨⟨first, last, most⟩, _⟩ := header a low
      rw [recordField_header low]
      exact ⟨first, last, by omega⟩
    · obtain ⟨block, base, size, rel, rfl, hrel, fit, ⟨lo, n, t, field, hlo, hn, most, _⟩, is⟩ :=
        recordField_block (by omega) ha
      rw [is rel hrel, field]
      dsimp only
      omega
  · by_cases low : a < 64
    · obtain ⟨⟨_, _, most⟩, same⟩ := header a low
      rw [recordField_header low] at hj ⊢
      rw [recordField_header (by omega)]
      exact same j hj
    · obtain ⟨block, base, size, rel, rfl, hrel, fit, ⟨lo, n, t, field, hlo, hn, most, same⟩, is⟩ :=
        recordField_block (by omega) ha
      rw [is rel hrel, field] at hj ⊢
      dsimp only at hj ⊢
      rw [Nat.add_assoc, is _ (by omega), same j hj, field]

/-! ### What a write stores -/

section

variable {layout : Nat → Field} {size : Nat} {d : Nat → Byte} {m : Cells} {offset : Nat} {payload : List Byte}

theorem IsLayout.field_eq (L : IsLayout layout size) {a b : Nat} (ha : a < size) (first : (layout a).start ≤ b)
    (last : b < (layout a).start + (layout a).size) : layout b = layout a := by
  have same := L.same a ha (b - (layout a).start) (by omega)
  rwa [Nat.add_sub_cancel' first] at same

/-- R21: the bytes from the first field touched to the last are those of the fields that the write touches. -/
theorem IsLayout.span_iff (L : IsLayout layout size) (ne : payload ≠ []) (fit : offset + payload.length ≤ size) {a : Nat}
    (ha : a < size) :
    ((layout offset).start ≤ a ∧ a < (layout (offset + payload.length - 1)).start + (layout (offset + payload.length - 1)).size) ↔
      (layout a).start < offset + payload.length ∧ offset < (layout a).start + (layout a).size := by
  have written := List.length_pos_of_ne_nil ne
  obtain ⟨first₁, last₁, _⟩ := L.inside offset (by omega)
  obtain ⟨first₂, last₂, _⟩ := L.inside (offset + payload.length - 1) (by omega)
  obtain ⟨first, last, _⟩ := L.inside a ha
  constructor
  · rintro ⟨low, high⟩
    constructor
    · by_cases behind : a < offset + payload.length
      · omega
      · rw [L.field_eq (a := offset + payload.length - 1) (b := a) (by omega) (by omega) high]
        omega
    · by_cases before : offset ≤ a
      · omega
      · rw [L.field_eq (a := offset) (b := a) (by omega) low (by omega)]
        omega
  · rintro ⟨low, high⟩
    constructor
    · by_cases before : offset ≤ a
      · omega
      · rw [← L.field_eq ha (b := offset) (by omega) high] at first
        exact first
    · by_cases behind : a < offset + payload.length
      · omega
      · rw [← L.field_eq ha (b := offset + payload.length - 1) (by omega) (by omega)] at last
        exact last

/-- R21: the byte at `a` after a write. -/
theorem read_applyWrite (L : IsLayout layout size) (fit : offset + payload.length ≤ size) {a : Nat} (ha : a < size) :
    Cells.read d (applyWrite layout d m offset payload) a =
      if payload ≠ [] ∧ (layout a).start < offset + payload.length ∧ offset < (layout a).start + (layout a).size then
        storedByte layout d m offset payload a
      else Cells.read d m a := by
  by_cases ne : payload = []
  · rw [if_neg fun h => h.1 ne]
    exact congrArg (Cells.read d · a) (if_pos ne)
  · have span := L.span_iff ne fit ha
    unfold applyWrite
    rw [if_neg ne]
    dsimp only
    by_cases touched : (layout a).start < offset + payload.length ∧ offset < (layout a).start + (layout a).size
    · obtain ⟨low, high⟩ := span.2 touched
      rw [if_pos ⟨ne, touched⟩]
      have stored := Cells.read_write_in d m (layout offset).start ((List.range ((layout (offset + payload.length - 1)).start +
        (layout (offset + payload.length - 1)).size - (layout offset).start)).map fun i =>
          storedByte layout d m offset payload ((layout offset).start + i)) (a - (layout offset).start)
        (by rw [List.length_map, List.length_range]; omega)
      rw [Nat.add_sub_cancel' low, List.getElem_map, List.getElem_range, Nat.add_sub_cancel' low] at stored
      exact stored
    · rw [if_neg fun h => touched h.2]
      refine Cells.read_write_out d m _ _ a ?_
      rw [List.length_map, List.length_range]
      have out := mt span.1 touched
      omega

/-- R21: a write keeps what lies behind its structure. -/
theorem read_applyWrite_out (L : IsLayout layout size) (fit : offset + payload.length ≤ size) {a : Nat} (ha : size ≤ a) :
    Cells.read d (applyWrite layout d m offset payload) a = Cells.read d m a := by
  unfold applyWrite
  by_cases ne : payload = []
  · rw [if_pos ne]
  · have written := List.length_pos_of_ne_nil ne
    obtain ⟨first₁, last₁, _⟩ := L.inside offset (by omega)
    obtain ⟨_, _, most⟩ := L.inside (offset + payload.length - 1) (by omega)
    rw [if_neg ne]
    refine Cells.read_write_out d m _ _ a ?_
    rw [List.length_map, List.length_range]
    omega

/-- R21: the `n` bytes from `start` on composed of the payload and the stored bytes. -/
def composedBytes (d : Nat → Byte) (m : Cells) (offset : Nat) (payload : List Byte) (start n : Nat) : List Byte :=
  (List.range n).map fun j => composedByte d m offset payload (start + j)

@[simp] theorem length_composedBytes (start n : Nat) : (composedBytes d m offset payload start n).length = n := by
  simp [composedBytes]

theorem length_store (t : Treatment) (bs : List Byte) : (t.store bs).length = bs.length := by
  cases t <;> simp [Treatment.store, leIntBytes]

theorem storedByte_fixed {a : Nat} (h : (layout a).treat = .fixed) :
    storedByte layout d m offset payload a = Cells.read d m a := by
  unfold storedByte
  dsimp only
  rw [h]

theorem storedByte_treated {a : Nat} (h : (layout a).treat ≠ .fixed) (first : (layout a).start ≤ a)
    (last : a < (layout a).start + (layout a).size) : storedByte layout d m offset payload a =
    (((layout a).treat.store (composedBytes d m offset payload (layout a).start (layout a).size))[a - (layout a).start]?).getD
      0 := by
  have bound : a - (layout a).start <
      ((layout a).treat.store (composedBytes d m offset payload (layout a).start (layout a).size)).length := by
    rw [length_store, length_composedBytes]
    omega
  unfold storedByte
  dsimp only
  split
  · next fixed => exact absurd fixed h
  · rw [List.getElem?_eq_getElem bound]
    refine Eq.trans (congrArg (Option.getD · _) (List.getElem?_eq_getElem bound)) ?_
    rfl

/-- R21: a field that a write touches is stored whole. -/
theorem bytes_applyWrite (L : IsLayout layout size) (fit : offset + payload.length ≤ size) {start n : Nat} {t : Treatment}
    (field : layout start = ⟨start, n, t⟩) (written : t ≠ .fixed) (ne : payload ≠ [])
    (hs : start < size) (low : start < offset + payload.length) (high : offset < start + n) :
    Cells.bytes d (applyWrite layout d m offset payload) start n = t.store (composedBytes d m offset payload start n) := by
  have fits := (L.inside start hs).2.2
  rw [field] at fits
  dsimp only at fits
  refine List.ext_getElem (by simp [Cells.bytes, length_store]) fun j hj hj' => ?_
  have hn : j < n := by simpa [Cells.bytes] using hj
  have same : layout (start + j) = ⟨start, n, t⟩ := by
    rw [← field]
    exact L.field_eq hs (by rw [field]; dsimp only; omega) (by rw [field]; dsimp only; omega)
  have read := read_applyWrite (d := d) (m := m) L fit (a := start + j) (by omega)
  rw [same] at read
  rw [if_pos ⟨ne, low, high⟩, storedByte_treated (by rw [same]; exact written) (by rw [same]; dsimp only; omega)
    (by rw [same]; dsimp only; omega), same] at read
  dsimp only at read
  rw [Nat.add_sub_cancel_left, List.getElem?_eq_getElem hj', Option.getD_some] at read
  simpa [Cells.bytes] using read

end

/-! ### What a treatment stores (R22) -/

theorem leNat_store_unsigned {lo hi : Nat} {bs : List Byte} (h : lo ≤ hi) (fit : hi < 256 ^ bs.length) :
    leNat ((Treatment.unsigned lo hi).store bs) = clampNat lo hi (leNat bs) := by
  have clamped := clampNat_mem (v := leNat bs) h
  exact (leNat_leBytes _ _).trans (Nat.mod_eq_of_lt (by omega))

theorem leInt_leIntBytes {n : Nat} {v : Int} (low : -(256 ^ n : Nat) ≤ 2 * v) (high : 2 * v < (256 ^ n : Nat)) :
    leInt (leIntBytes n v) = v := by
  have pos : 0 < 256 ^ n := Nat.pow_pos (by decide)
  have cast : (256 : Int) ^ n = (256 ^ n : Nat) := by push_cast; rfl
  unfold leInt leIntBytes
  rw [leNat_leBytes, length_leBytes, cast]
  generalize 256 ^ n = k at *
  by_cases neg : v < 0
  · have wrapped : v % k = v + k := by
      rw [← Int.add_emod_right]
      exact Int.emod_eq_of_lt (by omega) (by omega)
    rw [wrapped, Nat.mod_eq_of_lt (by omega), if_neg (by omega)]
    omega
  · rw [Int.emod_eq_of_lt (by omega) (by omega), Nat.mod_eq_of_lt (by omega), if_pos (by omega)]
    omega

theorem leInt_store_signed {lo hi : Int} {bs : List Byte} (h : lo ≤ hi) (low : -(256 ^ bs.length : Nat) ≤ 2 * lo)
    (high : 2 * hi < (256 ^ bs.length : Nat)) : leInt ((Treatment.signed lo hi).store bs) = clampInt lo hi (leInt bs) := by
  have clamped := clampInt_eq h (leInt bs)
  exact leInt_leIntBytes (by omega) (by omega)

end Sys2Proof.Machine
end

section
/-! SUPPORT. WRITEs applied to the staging records and the staging set header (R14, R15, R21, R22, R24, R132). -/

namespace Sys2Proof.Machine

variable {s : State} {c : Chan} {offset : Nat} {payload : List Byte} {start n : Nat} {t : Treatment}

/-! ### The set header -/

theorem storedByte_plain {layout : Nat → Field} {d : Nat → Byte} {m : Cells} {a : Nat} (field : layout a = ⟨a, 1, .plain⟩) :
    storedByte layout d m offset payload a = composedByte d m offset payload a := by
  rw [storedByte_treated (by rw [field]; simp) (by rw [field]) (by rw [field]; exact Nat.lt_succ_self a), field]
  dsimp only
  rw [Nat.sub_self]
  rfl

theorem composedByte_written {d : Nat → Byte} {m : Cells} {a : Nat} (low : offset ≤ a) (high : a < offset + payload.length) :
    composedByte d m offset payload a = (payload[a - offset]?).getD 0 := by
  have inside : a - offset < payload.length := by omega
  unfold composedByte
  rw [if_pos low, List.getElem?_eq_getElem inside, Option.getD_some, Option.getD_some]

theorem setStagingHeader_self : s.setStagingHeader s.stagingHeader = s := by
  unfold State.setStagingHeader State.setHeader State.modBank State.stagingHeader State.header
  have : s.banks.set (otherBank s.staging.setSel) s.banks[otherBank s.staging.setSel] = s.banks := Vector.set_getElem_self _
  exact congrArg (fun v => ({ s with banks := v } : State)) this

theorem stagingHeader_setStagingHeader (h : Cells) : (s.setStagingHeader h).stagingHeader = h :=
  (State.header_setHeader _ _ h s).trans (if_pos rfl)

/-- R24: the bytes of the set name are stored as written. -/
theorem read_writeHeader (fit : offset + payload.length ≤ 32) {a : Nat} (ha : a < 32) :
    Cells.read zeroByte (s.writeHeader offset payload).stagingHeader a =
      if a < 16 ∧ offset ≤ a ∧ a < offset + payload.length then (payload[a - offset]?).getD 0
      else Cells.read zeroByte s.stagingHeader a := by
  unfold State.writeHeader
  rw [stagingHeader_setStagingHeader, read_applyWrite setHeaderField_layout fit ha]
  by_cases name : a < 16
  · have field : setHeaderField a = ⟨a, 1, .plain⟩ := if_pos name
    rw [field]
    dsimp only
    by_cases written : offset ≤ a ∧ a < offset + payload.length
    · have ne : payload ≠ [] := List.ne_nil_of_length_pos (by omega)
      rw [if_pos ⟨ne, by omega, by omega⟩, if_pos ⟨name, written⟩, storedByte_plain field,
        composedByte_written written.1 written.2]
    · rw [if_neg (by omega), if_neg (by omega)]
  · have fixed : (setHeaderField a).treat = .fixed := by
      unfold setHeaderField
      rw [if_neg name]
      split <;> rfl
    rw [storedByte_fixed fixed, ite_self, if_neg fun h => name h.1]

/-! ### A record -/

theorem writeRecord_nil : s.writeRecord c offset [] = s := if_pos rfl

theorem writeRecord_written (ne : payload ≠ []) : s.writeRecord c offset payload = s.setStagingRecord c
    (Cells.write defaultByte (applyWrite recordField defaultByte (s.stagingRecord c) offset payload) 44 [2, 0]) := if_neg ne

theorem stagingRecord_writeRecord (ne : payload ≠ []) : (s.writeRecord c offset payload).stagingRecord c =
    Cells.write defaultByte (applyWrite recordField defaultByte (s.stagingRecord c) offset payload) 44 [2, 0] := by
  rw [writeRecord_written ne, stagingRecord_setStagingRecord]

theorem read_origin (r : Cells) (kind slot : Byte) (a : Nat) : Cells.read defaultByte (Cells.write defaultByte r 44 [kind, slot]) a =
    if a = 44 then kind else if a = 45 then slot else Cells.read defaultByte r a := by
  by_cases first : a = 44
  · rw [if_pos first, first]
    exact Cells.read_write_in defaultByte r 44 [kind, slot] 0 (by simp)
  · by_cases second : a = 45
    · rw [if_neg first, if_pos second, second]
      exact Cells.read_write_in defaultByte r 44 [kind, slot] 1 (by simp)
    · rw [if_neg first, if_neg second]
      refine Cells.read_write_out defaultByte r 44 [kind, slot] a ?_
      simp only [List.length_cons, List.length_nil]
      omega

/-- R14, R21: the byte at `a` of a staging record after a WRITE of some bytes. -/
theorem read_writeRecord (ne : payload ≠ []) (fit : offset + payload.length ≤ 103498) {a : Nat} (ha : a < 103498) :
    Cells.read defaultByte ((s.writeRecord c offset payload).stagingRecord c) a =
      if a = 44 then 2 else if a = 45 then 0
      else if (recordField a).treat ≠ .fixed ∧ (recordField a).start < offset + payload.length ∧
          offset < (recordField a).start + (recordField a).size then
        (((recordField a).treat.store (composedBytes defaultByte (s.stagingRecord c) offset payload (recordField a).start
          (recordField a).size))[a - (recordField a).start]?).getD 0
      else Cells.read defaultByte (s.stagingRecord c) a := by
  rw [stagingRecord_writeRecord ne, read_origin, read_applyWrite recordField_layout fit ha]
  refine ite_congr rfl (fun _ => rfl) fun _ => ite_congr rfl (fun _ => rfl) fun _ => ?_
  by_cases touched : (recordField a).start < offset + payload.length ∧ offset < (recordField a).start + (recordField a).size
  · rw [if_pos ⟨ne, touched⟩]
    by_cases fixed : (recordField a).treat = .fixed
    · rw [if_neg fun h => h.1 fixed, storedByte_fixed fixed]
    · obtain ⟨first, last, _⟩ := recordField_layout.inside a ha
      rw [if_pos ⟨fixed, touched⟩, storedByte_treated fixed first last]
  · rw [if_neg fun h => touched h.2, if_neg fun h => touched h.2]

/-- R21: what a WRITE stores in a field of a record that it touches. -/
theorem bytes_writeRecord (fit : offset + payload.length ≤ 103498) (field : recordField start = ⟨start, n, t⟩)
    (written : t ≠ .fixed) (hs : start < 103498) (origin : start + n ≤ 44 ∨ 46 ≤ start)
    (touched : payload ≠ [] ∧ start < offset + payload.length ∧ offset < start + n) :
    Cells.bytes defaultByte ((s.writeRecord c offset payload).stagingRecord c) start n =
      t.store (composedBytes defaultByte (s.stagingRecord c) offset payload start n) := by
  obtain ⟨ne, low, high⟩ := touched
  rw [← bytes_applyWrite recordField_layout fit field written ne hs low high, stagingRecord_writeRecord ne]
  refine List.map_congr_left fun j hj => ?_
  have hj := List.mem_range.1 hj
  rw [read_origin, if_neg (by omega), if_neg (by omega)]

/-- R15, R21: read-only and ignored bytes are kept. -/
theorem bytes_writeRecord_fixed (fit : offset + payload.length ≤ 103498)
    (fixed : ∀ j < n, (recordField (start + j)).treat = .fixed) (hs : start + n ≤ 103498) (origin : start + n ≤ 44 ∨ 46 ≤ start) :
    Cells.bytes defaultByte ((s.writeRecord c offset payload).stagingRecord c) start n =
      Cells.bytes defaultByte (s.stagingRecord c) start n := by
  by_cases ne : payload = []
  · rw [ne, writeRecord_nil]
  · refine List.map_congr_left fun j hj => ?_
    have hj := List.mem_range.1 hj
    rw [read_writeRecord ne fit (by omega), if_neg (by omega), if_neg (by omega), if_neg fun h => h.1 (fixed j hj)]

theorem unsigned_writeRecord {lo hi : Nat} (fit : offset + payload.length ≤ 103498)
    (field : recordField start = ⟨start, n, .unsigned lo hi⟩) (range : lo ≤ hi) (small : hi < 256 ^ n) (hs : start < 103498)
    (origin : start + n ≤ 44 ∨ 46 ≤ start) (touched : payload ≠ [] ∧ start < offset + payload.length ∧ offset < start + n) :
    leNat (Cells.bytes defaultByte ((s.writeRecord c offset payload).stagingRecord c) start n) =
      clampNat lo hi (leNat (composedBytes defaultByte (s.stagingRecord c) offset payload start n)) := by
  rw [bytes_writeRecord fit field (by simp) hs origin touched]
  exact leNat_store_unsigned range (by rwa [length_composedBytes])

theorem signed_writeRecord {lo hi : Int} (fit : offset + payload.length ≤ 103498)
    (field : recordField start = ⟨start, n, .signed lo hi⟩) (range : lo ≤ hi) (low : -(256 ^ n : Nat) ≤ 2 * lo)
    (high : 2 * hi < (256 ^ n : Nat)) (hs : start < 103498)
    (origin : start + n ≤ 44 ∨ 46 ≤ start) (touched : payload ≠ [] ∧ start < offset + payload.length ∧ offset < start + n) :
    leInt (Cells.bytes defaultByte ((s.writeRecord c offset payload).stagingRecord c) start n) =
      clampInt lo hi (leInt (composedBytes defaultByte (s.stagingRecord c) offset payload start n)) := by
  rw [bytes_writeRecord fit field (by simp) hs origin touched]
  exact leInt_store_signed range (by rwa [length_composedBytes]) (by rwa [length_composedBytes])

theorem writeRecord_same : s.writeRecord c offset payload = { s with banks := (s.writeRecord c offset payload).banks } := by
  unfold State.writeRecord
  split <;> rfl

theorem writeRecord_stagingHeader : (s.writeRecord c offset payload).stagingHeader = s.stagingHeader := by
  unfold State.writeRecord
  split
  · rfl
  · exact State.header_setRecord _ _ _ _ _

theorem writeRecord_stagingRecord {x : Chan} (h : x ≠ c) :
    (s.writeRecord c offset payload).stagingRecord x = s.stagingRecord x := by
  unfold State.writeRecord
  split
  · rfl
  · exact (State.record_setRecord _ _ _ _ _ _).trans (if_neg fun e => h e.2)

theorem writeRecord_sameActive : s.SameActive (s.writeRecord c offset payload) := by
  unfold State.writeRecord
  split
  · exact State.sameActive_of_eq rfl rfl rfl
  · exact State.setStagingRecord_sameActive _ _ _

/-! ### R8's tables, by field -/

theorem recordField_matrix : ∀ i < 9, recordField (12 + 2 * i) = ⟨12 + 2 * i, 2, .signed (-8192) 8191⟩ := by decide

theorem recordField_u {i : Nat} (hi : i < 4225) : recordField (64 + 8 * i) = ⟨64 + 8 * i, 3, .signed (-524288) 524287⟩ :=
  recordField_node (rel := 0) hi (by decide)

theorem recordField_v {i : Nat} (hi : i < 4225) : recordField (67 + 8 * i) = ⟨67 + 8 * i, 3, .signed (-524288) 524287⟩ := by
  rw [show 67 + 8 * i = 64 + 8 * i + 3 by omega]
  exact recordField_node hi (by decide)

theorem recordField_mask {i : Nat} (hi : i < 4225) : recordField (70 + 8 * i) = ⟨70 + 8 * i, 1, .mask 1⟩ := by
  rw [show 70 + 8 * i = 64 + 8 * i + 6 by omega]
  exact recordField_node hi (by decide)

theorem recordField_ignored {i : Nat} (hi : i < 4225) : recordField (71 + 8 * i) = ⟨71 + 8 * i, 1, .fixed⟩ := by
  rw [show 71 + 8 * i = 64 + 8 * i + 7 by omega]
  exact recordField_node hi (by decide)

theorem recordField_gain {i : Nat} (hi : i < 16384) : recordField (33864 + 4 * i) = ⟨33864 + 4 * i, 2, .unsigned 0 4096⟩ :=
  recordField_blend (rel := 0) hi (by decide)

theorem recordField_lift {i : Nat} (hi : i < 16384) : recordField (33866 + 4 * i) = ⟨33866 + 4 * i, 2, .unsigned 0 4095⟩ := by
  rw [show 33866 + 4 * i = 33864 + 4 * i + 2 by omega]
  exact recordField_blend hi (by decide)

theorem recordField_linear {i : Nat} (hi : i < 1024) : recordField (99400 + 2 * i) = ⟨99400 + 2 * i, 2, .plain⟩ := by
  rw [recordField_plain (by omega) (by omega)]
  exact congrArg (fun b => (⟨b, 2, .plain⟩ : Field)) (by omega)

theorem recordField_entry (i : Nat) : recordField (101448 + 2 * i) = ⟨101448 + 2 * i, 2, .unsigned 0 1023⟩ := by
  rw [recordField_regamma (by omega)]
  exact congrArg (fun b => (⟨b, 2, .unsigned 0 1023⟩ : Field)) (by omega)

/-- Settles O47. -/
theorem writtenFieldsAreComposedAndClamped : Obligations.WrittenFieldsAreComposedAndClamped := by
  constructor
  · intro s offset payload fit t
    refine ⟨fun empty => ?_, fun a ha => read_writeHeader fit ha, ?_, fun b c => State.record_setHeader _ _ _ _ _, rfl⟩
    · have : t = s.writeHeader offset payload := rfl
      rw [this, empty]
      exact setStagingHeader_self
    · exact (State.setStagingHeader_sameActive _ s).header
  · intro s c offset payload a fit t r f composed
    have active : s.SameActive t := writeRecord_sameActive
    refine ⟨fun empty => ?_, fun ne ha => read_writeRecord ne fit ha, ?_, active.record c, active.header,
      writeRecord_stagingHeader, fun x hx => ⟨?_, active.record x⟩, writeRecord_same⟩
    · subst empty
      exact writeRecord_nil
    · intro stored touched unsigned signed
      refine ⟨⟨?_, ?_, ?_, ?_⟩, ⟨?_, ?_, ?_, ?_⟩, fun i hi => ?_, ⟨?_, ?_, ?_, ?_⟩, fun i hi => ⟨?_, ?_, ?_, ?_⟩,
        fun i hi => ⟨?_, ?_⟩, fun i hi => ?_, fun i hi => ?_, ?_, ?_⟩
      iterate 8 exact unsigned_writeRecord fit rfl (by decide) (by decide) (by decide) (by decide)
      · exact signed_writeRecord fit (recordField_matrix i hi) (by decide) (by decide) (by decide) (by omega) (by omega)
      iterate 4 exact unsigned_writeRecord fit rfl (by decide) (by decide) (by decide) (by decide)
      · exact signed_writeRecord fit (recordField_u hi) (by decide) (by decide) (by decide) (by omega) (by omega)
      · exact signed_writeRecord fit (recordField_v hi) (by decide) (by decide) (by decide) (by omega) (by omega)
      · exact bytes_writeRecord fit (recordField_mask hi) (by simp) (by omega) (by omega)
      · refine bytes_writeRecord_fixed fit (fun j hj => ?_) (by omega) (by omega)
        rw [Nat.lt_one_iff.1 hj]
        exact congrArg Field.treat (recordField_ignored hi)
      · exact unsigned_writeRecord fit (recordField_gain hi) (by decide) (by decide) (by omega) (by omega)
      · exact unsigned_writeRecord fit (recordField_lift hi) (by decide) (by decide) (by omega) (by omega)
      · exact bytes_writeRecord fit (recordField_linear hi) (by simp) (by omega) (by omega)
      · exact unsigned_writeRecord fit (recordField_entry i) (by decide) (by decide) (by omega) (by omega)
      · exact bytes_writeRecord_fixed fit (by decide) (by decide) (by decide)
      · exact bytes_writeRecord_fixed fit (by decide) (by decide) (by decide)
    · exact writeRecord_stagingRecord hx

end Sys2Proof.Machine
end

section
/-! SUPPORT. WRITEs judged by the first case that applies (R130 to R132, R179, R190, R193, R201), and what SETUP stores
(R178). -/

namespace Sys2Proof.Machine

variable {s t u : State} {k : LinkId} {region channel : Byte} {offset : Word32} {payload : List Byte} {m : Msg}
  {v₁ v₂ : WriteVerdict} {t₁ t₂ : State} {c : Prop}

/-! ### A WRITE at the head of an empty queue -/

/-- When the WRITE that arrives alone on `s` is judged `v`, its arrival leads to `t`. -/
def Writes (s : State) (k : LinkId) (region channel : Byte) (offset : Word32) (payload : List Byte) (v : WriteVerdict)
    (t : State) : Prop :=
  judgeWrite k region channel offset payload (s.modLink k (Link.holdPosted (.write region channel offset payload))) = v →
    s.receive k (.msg (.write region channel offset payload)) = t

theorem Writes.ite [Decidable c] (h₁ : c → Writes s k region channel offset payload v₁ t₁)
    (h₂ : ¬ c → Writes s k region channel offset payload v₂ t₂) :
    Writes s k region channel offset payload (if c then v₁ else v₂) (if c then t₁ else t₂) := by
  by_cases h : c
  · rw [if_pos h, if_pos h]
    exact h₁ h
  · rw [if_neg h, if_neg h]
    exact h₂ h

theorem held_rx (calm : s.calm) : (s.modLink k (Link.holdPosted m)).links[k].rx = [m] := by
  rw [State.modLink_links_same, holdPosted_rx, calm.2 k]
  rfl

theorem receive_judged (calm : s.calm) (post : s.canPost k (.write region channel offset payload))
    (judged : takeWrite k (.write region channel offset payload)
      (judgeWrite k region channel offset payload (s.modLink k (Link.holdPosted (.write region channel offset payload))))
      (s.modLink k (Link.holdPosted (.write region channel offset payload))) = u)
    (none : claimants s u [] = []) (still : heads (s.modLink k (Link.holdPosted (.write region channel offset payload))) u = []) :
    s.receive k (.msg (.write region channel offset payload)) = u.beginSends := by
  refine receive_posted_calm s u k _ rfl calm post ?_ none still
  unfold State.judgeHead
  rw [held_rx calm]
  exact judged

/-- R191, R193: the message at the head leaves at once. -/
theorem leaveHead_held (waiting : s.staging.waiting = []) (rx : s.links[k].rx = []) :
    (s.modLink k (Link.holdPosted m)).leaveHead k m = s.returned k m := by
  unfold State.leaveHead State.returned
  rw [State.unwait_none _ _ (by simp [waiting]), State.modLink_modLink]
  exact State.modLink_congr (Link.hold_leave _ m rx)

theorem returned_rx (calm : ∀ j : LinkId, s.links[j].rx = []) (j : LinkId) : (s.returned k m).links[j].rx = [] := by
  unfold State.returned
  rw [State.modLink_links_get]
  split
  · next h => rw [Link.returnCredit_rx]; exact calm k
  · exact calm j

theorem Writes.refused {st : Status} (calm : s.calm) (post : s.canPost k (.write region channel offset payload)) :
    Writes s k region channel offset payload (.refused st)
      (s.refused k (.write region channel offset payload) st).beginSends := by
  intro judged
  have left : takeWrite k (.write region channel offset payload) (.refused st)
      (s.modLink k (Link.holdPosted (.write region channel offset payload))) =
        s.refused k (.write region channel offset payload) st := by
    unfold takeWrite State.refusePosted State.refused
    dsimp only
    rw [leaveHead_held calm.1 (calm.2 k)]
  refine receive_judged calm post (judged ▸ left) (claimants_calm _ _ calm.1) (heads_empty _ _ fun j => ?_)
  unfold State.refused
  rw [State.raiseOn_rx, State.modLink_links_get]
  split
  · next h => exact returned_rx calm.2 k
  · exact returned_rx calm.2 j

theorem Writes.applied (calm : s.calm) (post : s.canPost k (.write region channel offset payload))
    (links : t.links = s.links) (waiting : t.staging.waiting = []) :
    Writes s k region channel offset payload
      (.applied (t.modLink k (Link.holdPosted (.write region channel offset payload))))
      (t.returned k (.write region channel offset payload)).beginSends := by
  intro judged
  have rx (j : LinkId) : t.links[j].rx = [] := by
    rw [links]
    exact calm.2 j
  refine receive_judged calm post (judged ▸ leaveHead_held waiting (rx k)) (claimants_calm _ _ waiting)
    (heads_empty _ _ fun j => returned_rx rx j)

theorem Writes.stalled (calm : s.calm) (post : s.canPost k (.write region channel offset payload)) :
    Writes s k region channel offset payload .stalled (State.beginSends
      { s.modLink k (fun l => { l with
          rx := [.write region channel offset payload]
          unitsHeld := l.unitsHeld + (Msg.write region channel offset payload).cost }) with
        staging := { s.staging with waiting := [.write k] } }) := by
  intro judged
  have waits : takeWrite k (.write region channel offset payload) .stalled
      (s.modLink k (Link.holdPosted (.write region channel offset payload))) =
      { s.modLink k (fun l => { l with
          rx := [.write region channel offset payload]
          unitsHeld := l.unitsHeld + (Msg.write region channel offset payload).cost }) with
        staging := { s.staging with waiting := [.write k] } } := by
    have held : Link.holdPosted (.write region channel offset payload) s.links[k] = { s.links[k] with
        rx := [.write region channel offset payload]
        unitsHeld := s.links[k].unitsHeld + (Msg.write region channel offset payload).cost } := by
      unfold Link.holdPosted
      rw [calm.2 k]
      rfl
    have first : (if Claimant.write k ∈ s.staging.waiting then s.staging.waiting else s.staging.waiting ++ [.write k]) =
        [.write k] := by
      rw [calm.1]
      exact if_neg List.not_mem_nil
    refine (await_eq _ _).trans ?_
    have joined : s.modLink k (Link.holdPosted (.write region channel offset payload)) = s.modLink k fun l => { l with
        rx := [.write region channel offset payload]
        unitsHeld := l.unitsHeld + (Msg.write region channel offset payload).cost } := State.modLink_congr held
    rw [joined]
    exact congrArg (fun w => ({ s.modLink k (fun l => { l with
      rx := [.write region channel offset payload]
      unitsHeld := l.unitsHeld + (Msg.write region channel offset payload).cost }) with
        staging := { s.staging with waiting := w } } : State)) first
  have same (j : LinkId) : (s.modLink k (fun l => { l with
      rx := [.write region channel offset payload]
      unitsHeld := l.unitsHeld + (Msg.write region channel offset payload).cost })).links[j].rx =
      (s.modLink k (Link.holdPosted (.write region channel offset payload))).links[j].rx := by
    rw [State.modLink_links_get, State.modLink_links_get]
    split
    · rw [holdPosted_rx, calm.2 k]
      rfl
    · rfl
  exact receive_judged calm post (judged ▸ waits) (claimants_of_same rfl rfl rfl) (heads_same _ _ same rfl)

/-! ### Staging -/

theorem hasRole_iff (roles permitted : BitVec 3) : (!hasRole roles permitted) = true ↔ roles &&& permitted = 0 := by
  simp [hasRole]

theorem writeInside_iff (o n size : Nat) : (!writeInside o n size) = true ↔ ¬ (o < size ∧ o + n ≤ size) := by
  simp [writeInside, -not_and, not_and_or]

/-- R130, R132: a WRITE to staging, by the first case that applies. -/
theorem judgeWrite_target (target : CalTarget) (u : State) :
    judgeWrite k (targetRegion target) (targetChannel target) offset payload u =
      if u.links[k].roles &&& roleAlign = 0 then .refused .denied
      else if ¬ (offset.toNat < target.size ∧ offset.toNat + payload.length ≤ target.size) then .refused .invalid
      else if u.scanner.lock = true then .refused .locked
      else if u.staging.hold = none then .refused .notHolder
      else if u.staging.hold ≠ some k then .refused .held
      else if u.staging.state = .openState then .applied (u.writeTarget offset.toNat payload target)
      else .stalled := by
  have named : ∃ r : Region, regionOf (targetRegion target) (targetChannel target) = some r ∧ r.writeRole = some roleAlign ∧
      r.length = target.size ∧ judgeOwner k r offset.toNat payload u =
        judgeStagingWrite k (State.writeTarget offset.toNat payload target) u := by
    cases target with
    | record c => exact ⟨.stagingRecord c, (by decide : ∀ c : Chan, regionOf 0 (BitVec.ofNat 8 c.val) = some (.stagingRecord c)) c,
        rfl, rfl, rfl⟩
    | header => exact ⟨.stagingHeader, rfl, rfl, rfl, rfl⟩
  obtain ⟨r, hr, role, length, owner⟩ := named
  unfold judgeWrite
  rw [hr]
  dsimp only
  rw [role, length, owner]
  dsimp only
  refine ite_congr (propext (hasRole_iff _ _)) (fun _ => rfl) fun _ => ?_
  refine ite_congr (propext (writeInside_iff _ _ _)) (fun _ => rfl) fun _ => ?_
  unfold judgeStagingWrite State.isOpen
  refine ite_congr rfl (fun _ => rfl) fun _ => (judged_hold _ k _ _ _).trans ?_
  refine ite_congr rfl (fun _ => rfl) fun _ => ite_congr rfl (fun _ => rfl) fun _ => ?_
  exact ite_congr (propext decide_eq_true_iff) (fun _ => rfl) fun _ => rfl

theorem writeTarget_same (o : Nat) (target : CalTarget) (s : State) :
    s.writeTarget o payload target = { s with banks := (s.writeTarget o payload target).banks } := by
  cases target with
  | record c => exact writeRecord_same
  | header => rfl

theorem writeTarget_modLink (o : Nat) (target : CalTarget) (f : Link → Link) (s : State) :
    (s.modLink k f).writeTarget o payload target = (s.writeTarget o payload target).modLink k f := by
  cases target with
  | record c =>
    unfold State.writeTarget State.writeRecord
    dsimp only
    split <;> rfl
  | header => rfl

/-- Settles O46. -/
theorem stagingWritesAreJudgedInOrder : Obligations.StagingWritesAreJudgedInOrder := by
  intro s k offset payload target m calm post short
  have run : exec (writeCommand k offset payload target) s = .next (s.receive k (.msg m)) := by
    have form : formOf m = .msg m := if_pos short
    rw [← form]
    cases target <;> rfl
  have roles : (s.modLink k (Link.holdPosted m)).links[k].roles = s.links[k].roles := by
    rw [State.modLink_links_same]
    rfl
  have judged := judgeWrite_target (k := k) (offset := offset) (payload := payload) target (s.modLink k (Link.holdPosted m))
  rw [roles, writeTarget_modLink] at judged
  have same := writeTarget_same (payload := payload) offset.toNat target s
  have links : (s.writeTarget offset.toNat payload target).links = s.links := (congrArg State.links same :)
  rw [run]
  refine congrArg Host.Outcome.next (Writes.ite (fun _ => .refused calm post) (fun _ => ?_) judged)
  refine .ite (fun _ => .refused calm post) fun _ => .ite (fun _ => .refused calm post) fun _ => ?_
  refine .ite (fun _ => .refused calm post) fun _ => .ite (fun _ => .refused calm post) fun _ => ?_
  refine .ite (fun _ => .applied calm post links ?_) fun _ => .stalled calm post
  rw [same]
  exact calm.1

/-! ### SETUP and the other regions -/

theorem judgeWrite_setup (u : State) : judgeWrite k 4 0 offset payload u =
    if u.links[k].roles &&& roleShow = 0 then .refused .denied
    else if ¬ (offset.toNat < 32 ∧ offset.toNat + payload.length ≤ 32) then .refused .invalid
    else .applied (u.writeSetup offset.toNat payload) := by
  change (if (!hasRole u.links[k].roles roleShow) = true then WriteVerdict.refused .denied
    else if (!writeInside offset.toNat payload.length 32) = true then .refused .invalid
    else .applied (u.writeSetup offset.toNat payload)) = _
  exact ite_congr (propext (hasRole_iff _ _)) (fun _ => rfl) fun _ =>
    ite_congr (propext (writeInside_iff _ _ _)) (fun _ => rfl) fun _ => rfl

/-- R190: a region that no WRITE may write. -/
theorem judgeWrite_unwritable (h : 4 < region.toNat ∨ region = 1 ∨ region = 3 ∨ region = 0 ∧ 5 < channel.toNat) (u : State) :
    judgeWrite k region channel offset payload u = .refused .invalid := by
  have readOnly : ∀ r ∈ regionOf region channel, r.writeRole = none := by
    intro r hr
    unfold regionOf chanOf at hr
    obtain high | rfl | rfl | ⟨rfl, none⟩ := h
    · have big : region.toNat = 5 ∨ region.toNat = 6 ∨ 6 < region.toNat := by omega
      obtain five | six | more := big
      · rw [five] at hr
        obtain rfl := Option.some.inj hr
        rfl
      · rw [six] at hr
        obtain rfl := Option.some.inj hr
        rfl
      · obtain ⟨n, hn⟩ := Nat.exists_eq_add_of_le' (show 7 ≤ region.toNat from more)
        rw [hn] at hr
        exact nomatch hr
    · obtain ⟨c, _, rfl⟩ := Option.map_eq_some_iff.1 hr
      rfl
    · obtain rfl := Option.some.inj hr
      rfl
    · obtain ⟨c, hc, _⟩ := Option.map_eq_some_iff.1 hr
      rw [dif_neg (by omega)] at hc
      exact absurd hc (by simp)
  unfold judgeWrite
  cases hr : regionOf region channel with
  | none => rfl
  | some r =>
    dsimp only
    rw [readOnly r hr]

/-! ### What SETUP stores (R178) -/

/-- The staged copy after an applied WRITE. -/
def setupAfter (old : Cells) (o : Nat) (payload : List Byte) : Cells := applyWrite setupField zeroByte old o payload

section

variable {old : Cells} {o : Nat}

/-- A field of one byte that a write touches. -/
theorem read_setup_one {a : Nat} {t : Treatment} (fit : o + payload.length ≤ 32) (field : setupField a = ⟨a, 1, t⟩)
    (written : t ≠ .fixed) (ha : a < 32) (touched : payload ≠ [] ∧ a < o + payload.length ∧ o < a + 1) :
    [Cells.read zeroByte (setupAfter old o payload) a] = t.store [composedByte zeroByte old o payload a] :=
  bytes_applyWrite setupField_layout fit field written touched.1 ha touched.2.1 touched.2.2

/-- A byte that a write does not touch, or that it has no effect on, is kept. -/
theorem read_setup_kept {a : Nat} (fit : o + payload.length ≤ 32)
    (kept : a < 32 → (setupField a).treat = .fixed ∨
      ¬ (payload ≠ [] ∧ (setupField a).start < o + payload.length ∧ o < (setupField a).start + (setupField a).size)) :
    Cells.read zeroByte (setupAfter old o payload) a = Cells.read zeroByte old a := by
  by_cases ha : a < 32
  · refine (read_applyWrite setupField_layout fit ha).trans ?_
    obtain fixed | untouched := kept ha
    · rw [storedByte_fixed fixed, ite_self]
    · rw [if_neg untouched]
  · exact read_applyWrite_out setupField_layout fit (by omega)

theorem read_setup_share {i : Nat} (fit : o + payload.length ≤ 32) (hi : i < 4)
    (touched : payload ≠ [] ∧ 2 * i < o + payload.length ∧ o < 2 * i + 2) :
    (Cells.read zeroByte (setupAfter old o payload) (2 * i)).toNat +
        256 * (Cells.read zeroByte (setupAfter old o payload) (2 * i + 1)).toNat =
      clampShare ((composedByte zeroByte old o payload (2 * i)).toNat +
        256 * (composedByte zeroByte old o payload (2 * i + 1)).toNat) := by
  have field : setupField (2 * i) = ⟨2 * i, 2, .share⟩ :=
    (by decide : ∀ i < 4, setupField (2 * i) = ⟨2 * i, 2, .share⟩) i hi
  have stored := bytes_applyWrite (d := zeroByte) (m := old) setupField_layout fit field (by simp) touched.1 (by omega)
    touched.2.1 touched.2.2
  have value := congrArg leNat stored
  have small : clampShare (leNat (composedBytes zeroByte old o payload (2 * i) 2)) < 256 ^ 2 := by
    unfold clampShare
    split
    · decide
    · exact Nat.lt_of_le_of_lt (clampNat_mem (by decide)).2 (by decide)
  rw [show (Treatment.share.store (composedBytes zeroByte old o payload (2 * i) 2)) = leBytes 2 (clampShare
      (leNat (composedBytes zeroByte old o payload (2 * i) 2))) from rfl, leNat_leBytes, Nat.mod_eq_of_lt small] at value
  exact value

theorem read_setup_unsigned {a hi : Nat} (fit : o + payload.length ≤ 32) (field : setupField a = ⟨a, 1, .unsigned 0 hi⟩)
    (ha : a < 32) (small : hi < 256) (touched : payload ≠ [] ∧ a < o + payload.length ∧ o < a + 1) :
    (Cells.read zeroByte (setupAfter old o payload) a).toNat = min hi (composedByte zeroByte old o payload a).toNat := by
  have stored := congrArg leNat (read_setup_one (old := old) fit field (by simp) ha touched)
  rw [leNat_store_unsigned (Nat.zero_le hi) (by simpa using small)] at stored
  unfold leNat leNat clampNat at stored
  rw [if_neg (Nat.not_lt_zero _)] at stored
  split at stored <;> omega

theorem read_setup_boot (fit : o + payload.length ≤ 32) (touched : payload ≠ [] ∧ 15 < o + payload.length ∧ o < 15 + 1) :
    Cells.read zeroByte (setupAfter old o payload) 15 =
      if (composedByte zeroByte old o payload 15).toNat ≤ 7 then composedByte zeroByte old o payload 15 else 0xFF := by
  have stored : Cells.read zeroByte (setupAfter old o payload) 15 =
      BitVec.ofNat 8 (clampBoot ((composedByte zeroByte old o payload 15).toNat + 256 * 0)) :=
    List.head_eq_of_cons_eq (read_setup_one (old := old) fit (t := .bootSlot) rfl (by simp) (by decide) touched)
  rw [stored]
  unfold clampBoot
  by_cases named : (composedByte zeroByte old o payload 15).toNat ≤ 7
  · rw [if_pos (by omega), if_pos named, Nat.mul_zero, Nat.add_zero, BitVec.ofNat_toNat, BitVec.setWidth_eq]
  · rw [if_neg (by omega), if_neg named]
    rfl

end

/-- Settles O48. -/
theorem otherWritesAreJudged : Obligations.OtherWritesAreJudged := by
  intro s k region channel offset payload calm short m4 m
  have form (region channel : Byte) : formOf (.write region channel offset payload) = .msg (.write region channel offset payload) :=
    if_pos short
  refine ⟨fun post => ?_, fun fit => ?_, fun post unwritable => ?_⟩
  · have roles : (s.modLink k (Link.holdPosted m4)).links[k].roles = s.links[k].roles := by
      rw [State.modLink_links_same]
      rfl
    have judged := judgeWrite_setup (k := k) (offset := offset) (payload := payload) (s.modLink k (Link.holdPosted m4))
    rw [roles] at judged
    refine congrArg Host.Outcome.next ((congrArg (State.receive k · s) (form 4 0)).trans ?_)
    refine Writes.ite (fun _ => .refused calm post) (fun _ => ?_) judged
    exact .ite (fun _ => .refused calm post) fun _ => .applied
      (t := { s with preset := { s.preset with setup := setupAfter s.preset.setup offset.toNat payload } }) calm post rfl calm.1
  · intro old new byte touched composed
    refine ⟨fun i hi touch => read_setup_share fit hi touch, fun i hi touch => ?_, fun touch => ?_, fun touch => ?_,
      fun touch => ?_, fun touch => ?_, fun i hi untouched => ?_, fun a ha => ?_⟩
    · have field : setupField (8 + i) = ⟨8 + i, 1, .mask 7⟩ :=
        (by decide : ∀ i < 4, setupField (8 + i) = ⟨8 + i, 1, .mask 7⟩) i hi
      exact List.head_eq_of_cons_eq (read_setup_one fit field (by simp) (by omega) touch)
    · exact read_setup_unsigned fit rfl (by decide) (by decide) touch
    · exact read_setup_unsigned fit rfl (by decide) (by decide) touch
    · exact List.head_eq_of_cons_eq (read_setup_one fit (t := .plain) rfl (by simp) (by decide) touch)
    · exact read_setup_boot fit touch
    · have field : setupField (2 * i) = ⟨2 * i, 2, .share⟩ ∧ setupField (2 * i + 1) = ⟨2 * i, 2, .share⟩ :=
        (by decide : ∀ i < 4, setupField (2 * i) = ⟨2 * i, 2, .share⟩ ∧ setupField (2 * i + 1) = ⟨2 * i, 2, .share⟩) i hi
      exact ⟨read_setup_kept fit fun _ => .inr (by rw [field.1]; exact untouched),
        read_setup_kept fit fun _ => .inr (by rw [field.2]; exact untouched)⟩
    · refine read_setup_kept fit fun inside => ?_
      by_cases fields : a < 16
      · obtain ⟨low, _, untouched⟩ := ha.resolve_right (by omega)
        have field : (setupField a).start = a ∧ (setupField a).size = 1 :=
          (by decide : ∀ a < 16, 8 ≤ a → (setupField a).start = a ∧ (setupField a).size = 1) a fields low
        exact .inr (by rw [field.1, field.2]; exact untouched)
      · exact .inl ((by decide : ∀ a < 32, 16 ≤ a → (setupField a).treat = .fixed) a inside (by omega))
  · refine congrArg Host.Outcome.next ((congrArg (State.receive k · s) (form region channel)).trans ?_)
    exact Writes.refused calm post (judgeWrite_unwritable unwritable _)

end Sys2Proof.Machine
end

section
/-! SUPPORT. The grid and span checks of a commit (R137, R138). -/

namespace Sys2Proof.Machine

variable {r : Cells} {rs : List (Chan × Cells)} {c : Chan} {j : Nat}

/-! ### The span of a band -/

theorem maxInt_mem : ∀ (m : Int) (xs : List Int), maxInt m xs ∈ m :: xs ∧ ∀ x ∈ m :: xs, x ≤ maxInt m xs
  | m, [] => by simp [maxInt]
  | m, x :: xs => by
    obtain ⟨next, hnext, is, bounds⟩ : ∃ next, (if m < x then x else m) = next ∧ (next = m ∨ next = x) ∧ m ≤ next ∧ x ≤ next :=
      ⟨_, rfl, by split <;> simp, by split <;> omega⟩
    obtain ⟨mem, least⟩ := maxInt_mem next xs
    have bound := least next List.mem_cons_self
    rw [maxInt, hnext]
    constructor
    · obtain first | rest := List.mem_cons.1 mem
      · rw [first]
        obtain rfl | rfl := is <;> simp
      · exact List.mem_cons_of_mem _ (List.mem_cons_of_mem _ rest)
    · intro y hy
      obtain rfl | rfl | rest : y = m ∨ y = x ∨ y ∈ xs := by simpa using hy
      · omega
      · omega
      · exact least y (List.mem_cons_of_mem _ rest)

theorem minInt_mem : ∀ (m : Int) (xs : List Int), minInt m xs ∈ m :: xs ∧ ∀ x ∈ m :: xs, minInt m xs ≤ x
  | m, [] => by simp [minInt]
  | m, x :: xs => by
    obtain ⟨next, hnext, is, bounds⟩ : ∃ next, (if x < m then x else m) = next ∧ (next = m ∨ next = x) ∧ next ≤ m ∧ next ≤ x :=
      ⟨_, rfl, by split <;> simp, by split <;> omega⟩
    obtain ⟨mem, most⟩ := minInt_mem next xs
    have bound := most next List.mem_cons_self
    rw [minInt, hnext]
    constructor
    · obtain first | rest := List.mem_cons.1 mem
      · rw [first]
        obtain rfl | rfl := is <;> simp
      · exact List.mem_cons_of_mem _ (List.mem_cons_of_mem _ rest)
    · intro y hy
      obtain rfl | rfl | rest : y = m ∨ y = x ∨ y ∈ xs := by simpa using hy
      · omega
      · omega
      · exact most y (List.mem_cons_of_mem _ rest)

/-- R138: no two values lie further apart than the span limit. -/
theorem spanOk_iff : ∀ vs : List Int, spanOk vs = true ↔ ∀ x ∈ vs, ∀ y ∈ vs, x / 64 - y / 64 + 2 ≤ 256
  | [] => by simp [spanOk]
  | v :: vs => by
    obtain ⟨maxMem, greatest⟩ := maxInt_mem v vs
    obtain ⟨minMem, smallest⟩ := minInt_mem v vs
    rw [spanOk, decide_eq_true_iff]
    refine ⟨fun limit x hx y hy => ?_, fun all => all _ maxMem _ minMem⟩
    have high := Int.ediv_le_ediv (by decide : (0 : Int) < 64) (greatest x hx)
    have low := Int.ediv_le_ediv (by decide : (0 : Int) < 64) (smallest y hy)
    omega

/-- R138: the v value of node `i` of node row `k`. -/
def bandV (r : Cells) (k i : Nat) : Int := Rec.int r (64 + 8 * (k * Rec.gx r + i) + 3) 3

/-- R138: node `i` of node row `k` is masked. -/
def bandMasked (r : Cells) (k i : Nat) : Bool := (Cells.read defaultByte r (64 + 8 * (k * Rec.gx r + i) + 6)).getLsbD 0

theorem mem_rowV {k : Nat} {v : Int} : v ∈ Rec.rowV r k ↔ ∃ i < Rec.gx r, bandMasked r k i = false ∧ bandV r k i = v := by
  unfold Rec.rowV
  rw [List.mem_filterMap]
  refine exists_congr fun i => and_congr List.mem_range ?_
  change (if bandMasked r k i = true then none else some (bandV r k i)) = some v ↔ _
  cases bandMasked r k i <;> simp

/-- R138: any two unmasked nodes of band `j` lie within the span limit. -/
def BandPasses (r : Cells) (j : Nat) : Prop :=
  ∀ i i' k k' : Nat, i < Rec.gx r → i' < Rec.gx r → (k = j ∨ k = j + 1) → (k' = j ∨ k' = j + 1) →
    bandMasked r k i = false → bandMasked r k' i' = false → bandV r k i / 64 - bandV r k' i' / 64 + 2 ≤ 256

theorem mem_band {v : Int} : v ∈ Rec.rowV r j ++ Rec.rowV r (j + 1) ↔
    ∃ k i, (k = j ∨ k = j + 1) ∧ i < Rec.gx r ∧ bandMasked r k i = false ∧ bandV r k i = v := by
  rw [List.mem_append, mem_rowV, mem_rowV]
  constructor
  · rintro (⟨i, h⟩ | ⟨i, h⟩)
    · exact ⟨j, i, .inl rfl, h⟩
    · exact ⟨j + 1, i, .inr rfl, h⟩
  · rintro ⟨k, i, rfl | rfl, h⟩
    · exact .inl ⟨i, h⟩
    · exact .inr ⟨i, h⟩

theorem bandOk_iff : Rec.bandOk r j = true ↔ BandPasses r j := by
  unfold Rec.bandOk
  rw [spanOk_iff]
  constructor
  · intro all i i' k k' hi hi' hk hk' clear clear'
    exact all _ (mem_band.2 ⟨k, i, hk, hi, clear, rfl⟩) _ (mem_band.2 ⟨k', i', hk', hi', clear', rfl⟩)
  · intro all x hx y hy
    obtain ⟨k, i, hk, hi, clear, rfl⟩ := mem_band.1 hx
    obtain ⟨k', i', hk', hi', clear', rfl⟩ := mem_band.1 hy
    exact all i i' k k' hi hi' hk hk' clear clear'

/-! ### The first failures -/

theorem badBand_some : Rec.badBand r = some j ↔
    j < Rec.gy r - 1 ∧ ¬ BandPasses r j ∧ ∀ j' < j, BandPasses r j' := by
  unfold Rec.badBand
  rw [List.find?_range_eq_some]
  simp only [← bandOk_iff]
  simp [and_left_comm]

theorem badBand_none : Rec.badBand r = none ↔ ∀ j < Rec.gy r - 1, BandPasses r j := by
  unfold Rec.badBand
  rw [List.find?_range_eq_none]
  simp [← bandOk_iff]

/-- R137: a record's grid is in bounds. -/
def GridPasses (q : Chan × Cells) : Prop := Rec.gx q.2 ≤ 65 ∧ Rec.gy q.2 ≤ 65

/-- R138: every band of a record is within the span limit. -/
def SpanPasses (q : Chan × Cells) : Prop := ∀ j < Rec.gy q.2 - 1, BandPasses q.2 j

theorem gridOk_iff (c : Chan) : Rec.gridOk r = true ↔ GridPasses (c, r) := by
  simp [Rec.gridOk, GridPasses]

theorem firstBadGrid_none : firstBadGrid rs = none ↔ ∀ q ∈ rs, GridPasses q := by
  induction rs with
  | nil => simp [firstBadGrid]
  | cons q rs ih =>
    obtain ⟨c, r⟩ := q
    rw [firstBadGrid, List.forall_mem_cons, ← gridOk_iff c, ← ih]
    cases Rec.gridOk r <;> simp

theorem firstBadSpan_none : firstBadSpan rs = none ↔ ∀ q ∈ rs, SpanPasses q := by
  induction rs with
  | nil => simp [firstBadSpan]
  | cons q rs ih =>
    obtain ⟨c, r⟩ := q
    rw [firstBadSpan, List.forall_mem_cons, ← ih]
    have passes : SpanPasses (c, r) ↔ Rec.badBand r = none := badBand_none.symm
    rw [passes]
    cases Rec.badBand r <;> simp

/-- `x` is the first of a list: `F` holds of it, and `P` of those before it. -/
def FirstOf {α : Type} (P F : α → Prop) (xs : List α) (x : α) : Prop :=
  ∃ before after, xs = before ++ x :: after ∧ (∀ y ∈ before, P y) ∧ F x

theorem firstOf_nil {α : Type} (P F : α → Prop) (x : α) : ¬ FirstOf P F [] x := by
  rintro ⟨before, after, split, _⟩
  simp at split

theorem firstOf_cons {α : Type} {P F : α → Prop} {q x : α} {xs : List α} :
    FirstOf P F (q :: xs) x ↔ (x = q ∧ F q) ∨ (P q ∧ FirstOf P F xs x) := by
  constructor
  · rintro ⟨before, after, split, all, is⟩
    cases before with
    | nil =>
      obtain ⟨rfl, rfl⟩ := List.cons.inj split
      exact .inl ⟨rfl, is⟩
    | cons y before =>
      obtain ⟨rfl, rfl⟩ := List.cons.inj split
      exact .inr ⟨all _ List.mem_cons_self, before, after, rfl, fun y hy => all y (List.mem_cons_of_mem _ hy), is⟩
  · rintro (⟨rfl, is⟩ | ⟨passes, before, after, rfl, all, is⟩)
    · exact ⟨[], xs, rfl, by simp, is⟩
    · exact ⟨q :: before, after, rfl, List.forall_mem_cons.2 ⟨passes, all⟩, is⟩

theorem firstBadGrid_grid : firstBadGrid rs = some (.grid c) ↔
    ∃ r, FirstOf GridPasses (fun q => ¬ GridPasses q) rs (c, r) := by
  induction rs with
  | nil => simp [firstBadGrid, firstOf_nil]
  | cons q rs ih =>
    obtain ⟨c', r'⟩ := q
    simp only [firstOf_cons]
    rw [firstBadGrid]
    by_cases passes : GridPasses (c', r')
    · rw [if_pos ((gridOk_iff c').2 passes), ih]
      simp [passes]
    · rw [if_neg (mt (gridOk_iff c').1 passes)]
      simp [passes, eq_comm]

theorem firstBadSpan_span : firstBadSpan rs = some (.span c j) ↔ ∃ r, FirstOf SpanPasses
    (fun q => j < Rec.gy q.2 - 1 ∧ ¬ BandPasses q.2 j ∧ ∀ j' < j, BandPasses q.2 j') rs (c, r) := by
  induction rs with
  | nil => simp [firstBadSpan, firstOf_nil]
  | cons q rs ih =>
    obtain ⟨c', r'⟩ := q
    have passes : SpanPasses (c', r') ↔ Rec.badBand r' = none := badBand_none.symm
    simp only [firstOf_cons, ← badBand_some, passes]
    rw [firstBadSpan]
    cases Rec.badBand r' with
    | none => simpa [← badBand_some] using ih
    | some j' => simp [eq_comm]

theorem firstBadGrid_not_span : firstBadGrid rs ≠ some (.span c j) := by
  induction rs with
  | nil => simp [firstBadGrid]
  | cons q rs ih =>
    rw [firstBadGrid]
    split
    · exact ih
    · simp

theorem firstBadSpan_not_grid : firstBadSpan rs ≠ some (.grid c) := by
  induction rs with
  | nil => simp [firstBadSpan]
  | cons q rs ih =>
    rw [firstBadSpan]
    split
    · simp
    · exact ih

/-- R137, R138: the grid check comes first. -/
theorem checkRecords_cases : (∃ c, firstBadGrid rs = some (.grid c) ∧ checkRecords rs = some (.grid c)) ∨
    (firstBadGrid rs = none ∧ checkRecords rs = firstBadSpan rs) := by
  unfold checkRecords
  cases bad : firstBadGrid rs with
  | none => exact .inr ⟨rfl, rfl⟩
  | some f =>
    cases f with
    | grid c => exact .inl ⟨c, rfl, rfl⟩
    | span c j => exact absurd bad firstBadGrid_not_span

/-- Settles O51. -/
theorem commitChecksPassExactlyWhen : Obligations.CommitChecksPassExactlyWhen := by
  unfold Obligations.CommitChecksPassExactlyWhen
  intro gridPasses bandPasses spanPasses
  refine ⟨fun rs => ?_, fun rs c => ?_, fun rs c j => ?_, fun s set => ⟨fun q => ?_, ?_⟩⟩
  · have all : (∀ q ∈ rs, gridPasses q ∧ spanPasses q) ↔ firstBadGrid rs = none ∧ firstBadSpan rs = none := by
      rw [firstBadGrid_none, firstBadSpan_none, ← forall₂_and]
      rfl
    rw [all]
    obtain ⟨c, bad, check⟩ | ⟨good, check⟩ := checkRecords_cases (rs := rs) <;> simp [*]
  · refine Iff.trans ?_ (firstBadGrid_grid.trans ⟨fun ⟨r, b, a, h⟩ => ⟨b, r, a, h⟩, fun ⟨b, r, a, h⟩ => ⟨r, b, a, h⟩⟩)
    obtain ⟨c', bad, check⟩ | ⟨good, check⟩ := checkRecords_cases (rs := rs)
    · rw [check, bad]
    · rw [check, good]
      simp [firstBadSpan_not_grid]
  · refine Iff.trans ?_ (and_congr firstBadGrid_none (firstBadSpan_span.trans
      ⟨fun ⟨r, b, a, h⟩ => ⟨b, r, a, h⟩, fun ⟨b, r, a, h⟩ => ⟨r, b, a, h⟩⟩))
    obtain ⟨c', bad, check⟩ | ⟨good, check⟩ := checkRecords_cases (rs := rs)
    · rw [check, bad]
      simp
    · rw [check, good]
      simp
  · obtain ⟨c, r⟩ := q
    unfold State.stagingSet
    rw [List.mem_map]
    constructor
    · rintro ⟨x, hx, same⟩
      obtain ⟨rfl, rfl⟩ := Prod.mk.inj same
      exact ⟨ChanSet.mem_chans.1 hx, rfl⟩
    · rintro ⟨hc, hr⟩
      exact ⟨c, ChanSet.mem_chans.2 hc, congrArg (Prod.mk c) hr.symm⟩
  · refine List.Pairwise.map _ (fun _ _ h => h) ?_
    exact (List.pairwise_lt_finRange 6).filter _

end Sys2Proof.Machine
end

section
/-! SUPPORT. READs of staging, and how the waiting requests are served (R125, R133, R166). -/

namespace Sys2Proof.Machine

variable {s t u : State} {k : LinkId} {tag : Byte} {m : Msg} {w : Claimant} {ws : List Claimant} {target : CalTarget}
  {offset : Word32} {length : BitVec 16} {content : List Byte}

/-! ### A request that is judged at once -/

/-- R194: a request at the head of its queue alone leaves it and is judged. -/
theorem judgeHead_request (calm : s.calm) (hm : m.tag? = some tag) :
    (s.modLink k (Link.holdRequest tag m)).judgeHead k = judgeRequest k m (s.asked k tag) := by
  have head : (s.modLink k (Link.holdRequest tag m)).links[k].rx = [m] := by
    rw [State.modLink_links_same, Link.holdRequest, calm.2 k]
    rfl
  have popped : (s.modLink k (Link.holdRequest tag m)).modLink k Link.popHead = s.asked k tag := by
    rw [State.modLink_modLink]
    exact State.modLink_congr (Link.hold_pop _ _ _ (calm.2 k))
  unfold State.judgeHead
  rw [head]
  cases m with
  | write => cases hm
  | clear => cases hm
  | read => exact congrArg (judgeRequest k _) popped
  | command => exact congrArg (judgeRequest k _) popped

/-- R190, R194: a request that arrives on a calm part is judged at once. -/
theorem receive_request (calm : s.calm) (ask : s.canAsk k tag) (hm : m.tag? = some tag)
    (judged : judgeRequest k m (s.asked k tag) = u) (rx : ∀ j : LinkId, u.links[j].rx = s.links[j].rx)
    (none : claimants s u [] = []) : s.receive k (.msg m) = u.beginSends := by
  have judged := (judgeHead_request calm hm).trans judged
  unfold State.receive
  rw [s.arrive_request k m tag hm ask, settled_one _ _ k, judged]
  · exact claimants_of_same rfl rfl rfl
  · refine heads_single _ _ k (calm.2 k) ?_ fun j hj => ?_
    · rw [State.modLink_links_same]
      simp [Link.holdRequest]
    · rw [State.modLink_links_ne _ _ _ _ hj]
      exact calm.2 j
  · rw [judged]
    exact none
  · rw [judged]
    exact heads_empty _ _ fun j => (rx j).trans (calm.2 j)

/-! ### READs -/

/-- R199: what a READ that is answered leaves of its link. -/
def Link.answeredRead (tag : Byte) (offset : Word32) (content : List Byte) (l : Link) : Link :=
  { l with
    wait := l.wait.filter fun x => x.tag? ≠ some tag
    sendQ := l.sendQ ++ [.completion tag .success offset (content.take 256) (content.drop 256)] }

theorem completeRead_up (up : s.links[k].up = true) : s.completeRead k tag offset content =
    State.modLink k (Link.answeredRead tag offset content) { s with
      staging := { s.staging with waiting := s.staging.waiting.filter fun x => x ≠ .request k tag } } :=
  State.modLink_congr (s := s.unwait (.request k tag)) (Link.complete_when_up _ tag .success offset content up)

/-- R133, R190: a READ of staging that a role permits, inside its region. -/
theorem judgeRead_target (role : hasRole s.links[k].roles roleView = true) (nonzero : length.toNat ≠ 0)
    (most : length.toNat ≤ 4096) (inside : offset.toNat + length.toNat ≤ target.size) :
    judgeRead k tag (targetRegion target) (targetChannel target) offset length s =
      if s.staging.state = .openState ∨ s.staging.state = .commitPending then
        s.completeRead k tag offset (((s.targetBytes target).drop offset.toNat).take length.toNat)
      else s.keepWaiting k tag (.read tag (targetRegion target) (targetChannel target) offset length) := by
  have named : ∃ r : Region, regionOf (targetRegion target) (targetChannel target) = some r ∧ r.length = target.size ∧
      ∀ m, takeRead k tag m r offset length.toNat s = takeStagingRead k tag m r offset length.toNat s ∧
        regionBytes s r = s.targetBytes target := by
    cases target with
    | record c => exact ⟨.stagingRecord c, (by decide : ∀ c : Chan, regionOf 0 (BitVec.ofNat 8 c.val) = some (.stagingRecord c)) c,
        rfl, fun _ => ⟨rfl, rfl⟩⟩
    | header => exact ⟨.stagingHeader, rfl, rfl, fun _ => ⟨rfl, rfl⟩⟩
  obtain ⟨r, hr, size, taken⟩ := named
  have fits : readInside offset.toNat length.toNat r.length = true := by
    rw [size]
    simp only [readInside, Bool.and_eq_true, decide_eq_true_iff]
    omega
  unfold judgeRead
  rw [hr]
  dsimp only
  rw [if_neg (by rw [role]; simp), if_neg (by rw [fits]; simp), (taken _).1]
  unfold takeStagingRead readContent
  rw [(taken (.read tag 0 0 0 0)).2]

/-! ### Serving -/

/-- R125: the first claimant is served. -/
theorem serveWaiting_cons (n : Nat) (served : s.serve w = t) (still : heads s t = []) :
    settle (n + 1) (w :: ws) [] s = settle n (claimants s t (s.servedAfter w ws)) [] t := by
  rw [settle, served, still]
  rfl

theorem exec_serve_eq (s : State) : ∃ n, exec .serveWaitingRequests s =
    .next (settle (n + 1 + 1) s.staging.waiting [] s).beginSends := by
  obtain ⟨n, hn⟩ := Nat.exists_eq_add_of_le' (Nat.le_trans (by decide : 2 ≤ 18) s.fuel_ge)
  refine ⟨n, ?_⟩
  rw [← hn]
  rfl

/-- R125: the one claimant that waits is served, and nothing waits then. -/
theorem exec_serve_one (waiting : s.staging.waiting = [w]) (served : s.serve w = t) (still : heads s t = [])
    (none : claimants s t [] = []) : exec .serveWaitingRequests s = .next t.beginSends := by
  obtain ⟨n, run⟩ := exec_serve_eq s
  have after : s.servedAfter w [] = [] := ite_self _
  rw [run, waiting, serveWaiting_cons _ served still, after, none, settle_nil]

theorem serve_request (waits : s.waitingMsg k tag = some m) (may : s.mayServe m = true) :
    s.serve (.request k tag) = judgeRequest k m s := by
  unfold State.serve
  dsimp only
  rw [waits]
  exact if_pos may

/-- R133: a waiting READ may be served in OPEN and COMMIT_PENDING. -/
theorem mayServe_read {region channel : Byte} (able : s.staging.state = .openState ∨ s.staging.state = .commitPending) :
    s.mayServe (.read tag region channel offset length) = true := by
  unfold State.mayServe State.isOpen Msg.isRead
  simpa using able

theorem filter_request (k : LinkId) (tag : Byte) : [Claimant.request k tag].filter (fun x => x ≠ .request k tag) = [] := by
  simp

/-- R133: a READ of staging that waits alone is answered when it is served. -/
theorem exec_serve_read (waiting : s.staging.waiting = [.request k tag])
    (waits : s.waitingMsg k tag = some (.read tag (targetRegion target) (targetChannel target) offset length))
    (able : s.staging.state = .openState ∨ s.staging.state = .commitPending)
    (role : hasRole s.links[k].roles roleView = true) (nonzero : length.toNat ≠ 0) (most : length.toNat ≤ 4096)
    (inside : offset.toNat + length.toNat ≤ target.size) (up : s.links[k].up = true) :
    exec .serveWaitingRequests s = .next (State.modLink k (Link.answeredRead tag offset
      (((s.targetBytes target).drop offset.toNat).take length.toNat)) { s with
        staging := { s.staging with waiting := [] } }).beginSends := by
  have served := (serve_request waits (mayServe_read able)).trans (judgeRead_target role nonzero most inside)
  rw [if_pos able, completeRead_up up, waiting, filter_request] at served
  refine exec_serve_one waiting served (heads_same _ _ (fun j => ?_) rfl) (claimants_calm _ _ rfl)
  rw [State.modLink_links_get]
  split
  · next h => subst h; rfl
  · rfl

theorem exec_serve_write {o : Word32} {payload : List Byte} (role : hasRole s.links[k].roles roleAlign = true)
    (lock : s.scanner.lock = false) (first : o.toNat < target.size) (last : o.toNat + payload.length ≤ target.size)
    (hold : s.staging.hold = some k) (opened : s.staging.state = .openState)
    (head : s.links[k].rx = [writeMsg o payload target]) (waiting : s.staging.waiting = [.write k]) :
    exec .serveWaitingRequests s = .next (State.modLink k (Link.leavePosted (writeMsg o payload target))
      { s.writeTarget o.toNat payload target with staging := { s.staging with waiting := [] } }).beginSends := by
  have permits : ¬ s.links[k].roles &&& roleAlign = 0 := by simpa [hasRole] using role
  have judged := judgeWrite_target (k := k) (offset := o) (payload := payload) target s
  rw [if_neg permits, if_neg (not_not.2 ⟨first, last⟩), if_neg (by simp [lock]), if_neg (by simp [hold]),
    if_neg (by simp [hold]), if_pos opened] at judged
  have same := writeTarget_same (payload := payload) o.toNat target s
  have staging : (s.writeTarget o.toNat payload target).staging = s.staging := (congrArg State.staging same :)
  have left : s.serve (.write k) = State.modLink k (Link.leavePosted (writeMsg o payload target))
      { s.writeTarget o.toNat payload target with staging := { s.staging with waiting := [] } } := by
    have heads : s.judgeHead k = takeWrite k (writeMsg o payload target)
        (judgeWrite k (targetRegion target) (targetChannel target) o payload s) s := by
      unfold State.judgeHead
      rw [head]
      rfl
    have opens : s.serve (.write k) = s.judgeHead k := if_pos (decide_eq_true opened)
    rw [opens, heads, judged]
    unfold takeWrite State.leaveHead State.unwait State.modStaging
    dsimp only
    rw [staging, waiting]
    simp
  have links : (s.writeTarget o.toNat payload target).links = s.links := (congrArg State.links same :)
  refine exec_serve_one waiting left (heads_kept_or_empty (fun j => ?_) rfl) (claimants_calm _ _ rfl)
  rw [State.modLink_links_get]
  split
  · next h =>
    refine .inr ((Link.returnCredit_rx _).trans ?_)
    change (s.writeTarget o.toNat payload target).links[k].rx.tail = []
    rw [links, head]
    rfl
  · exact .inl (by rw [links])

theorem completeRead_answered (up : s.links[k].up = true) (waiting : s.staging.waiting = []) :
    s.completeRead k tag offset content = s.modLink k (Link.answeredRead tag offset content) :=
  (s.completeRead_calm k tag offset content waiting).trans
    (State.modLink_congr (Link.complete_when_up _ tag .success offset content up))

theorem keep_fresh (fresh : m ∉ s.links[k].wait) : s.keep k m = s.modLink k fun l => { l with wait := l.wait ++ [m] } :=
  State.modLink_congr (if_neg fresh)

theorem keepWaiting_asked (waiting : s.staging.waiting = []) (fresh : m ∉ s.links[k].wait) :
    (s.asked k tag).keepWaiting k tag m =
      { s.modLink k (fun l => { l with outstanding := l.outstanding ++ [tag], wait := l.wait ++ [m] }) with
        staging := { s.staging with waiting := [.request k tag] } } := by
  have fresh' : m ∉ (s.asked k tag).links[k].wait := by
    rw [State.asked_link]
    exact fresh
  refine (keepWaiting_calm (s := s.asked k tag) m waiting).trans ((keep_fresh (s := { s.asked k tag with
    staging := { s.staging with waiting := [.request k tag] } }) fresh').trans ?_)
  exact congrArg (fun u => ({ u with staging := { s.staging with waiting := [.request k tag] } } : State))
    (s.modLink_modLink k (fun l => { l with outstanding := l.outstanding ++ [tag] }) fun l => { l with wait := l.wait ++ [m] })

/-- R195: an answer leaves the other requests waiting. -/
theorem waitingMsg_answered {j : LinkId} {tag' : Byte} (other : ¬ (k = j ∧ tag = tag')) :
    (s.modLink k (Link.answeredRead tag offset content)).waitingMsg j tag' = s.waitingMsg j tag' := by
  unfold State.waitingMsg
  rw [State.modLink_links_get]
  split
  · next same =>
    subst same
    unfold Link.answeredRead
    rw [List.find?_filter]
    refine congrFun (congrArg List.find? (funext fun x => ?_)) _
    by_cases named : x.tag? = some tag'
    · have : tag' ≠ tag := fun e => other ⟨rfl, e.symm⟩
      simp [named, this]
    · simp [named]
  · rfl

/-- R133, R199: the READs of two links or tags that wait are answered, the older first. -/
theorem exec_serve_reads {j : LinkId} {tag' : Byte} {target' : CalTarget} {offset' : Word32} {length' : BitVec 16}
    (waiting : s.staging.waiting = [.request k tag, .request j tag']) (other : ¬ (k = j ∧ tag = tag'))
    (able : s.staging.state = .openState ∨ s.staging.state = .commitPending)
    (waits : s.waitingMsg k tag = some (.read tag (targetRegion target) (targetChannel target) offset length))
    (role : hasRole s.links[k].roles roleView = true) (nonzero : length.toNat ≠ 0) (most : length.toNat ≤ 4096)
    (inside : offset.toNat + length.toNat ≤ target.size) (up : s.links[k].up = true)
    (waits' : s.waitingMsg j tag' = some (.read tag' (targetRegion target') (targetChannel target') offset' length'))
    (role' : hasRole s.links[j].roles roleView = true) (nonzero' : length'.toNat ≠ 0) (most' : length'.toNat ≤ 4096)
    (inside' : offset'.toNat + length'.toNat ≤ target'.size) (up' : s.links[j].up = true) :
    exec .serveWaitingRequests s = .next (State.modLink j (Link.answeredRead tag' offset'
      (((s.targetBytes target').drop offset'.toNat).take length'.toNat)) (State.modLink k (Link.answeredRead tag offset
        (((s.targetBytes target).drop offset.toNat).take length.toNat)) { s with
          staging := { s.staging with waiting := [] } })).beginSends := by
  have served := (serve_request waits (mayServe_read able)).trans (judgeRead_target role nonzero most inside)
  have behind : [Claimant.request k tag, .request j tag'].filter (fun x => x ≠ .request k tag) = [.request j tag'] := by
    have : ¬ (j = k ∧ tag' = tag) := fun e => other ⟨e.1.symm, e.2.symm⟩
    simp [this]
  rw [if_pos able, completeRead_up up, waiting, behind] at served
  obtain ⟨t, ht⟩ : ∃ t, State.modLink k (Link.answeredRead tag offset
      (((s.targetBytes target).drop offset.toNat).take length.toNat)) { s with
        staging := { s.staging with waiting := [.request j tag'] } } = t := ⟨_, rfl⟩
  rw [ht] at served
  have link {α : Type} (f : Link → α) (same : ∀ l : Link, f (l.answeredRead tag offset
      (((s.targetBytes target).drop offset.toNat).take length.toNat)) = f l) (i : LinkId) : f t.links[i] = f s.links[i] := by
    rw [← ht, State.modLink_links_get]
    split
    · next h => subst h; exact same _
    · rfl
  have waits₂ : t.waitingMsg j tag' = some (.read tag' (targetRegion target') (targetChannel target') offset' length') := by
    rw [← ht]
    exact (waitingMsg_answered other).trans waits'
  have able₂ : t.staging.state = .openState ∨ t.staging.state = .commitPending := by
    rw [← ht]
    exact able
  have role₂ : hasRole t.links[j].roles roleView = true := by rwa [link Link.roles (fun _ => rfl)]
  have up₂ : t.links[j].up = true := by rwa [link Link.up (fun _ => rfl)]
  have served₂ := (serve_request waits₂ (mayServe_read able₂)).trans (judgeRead_target role₂ nonzero' most' inside')
  rw [if_pos able₂, completeRead_up up₂] at served₂
  have rest : t.staging.waiting.filter (fun x => x ≠ .request j tag') = [] := by
    rw [← ht]
    exact filter_request j tag'
  rw [rest] at served₂
  obtain ⟨n, run⟩ := exec_serve_eq s
  have still : heads s t = [] := heads_same s t (link Link.rx fun _ => rfl) (by rw [← ht]; rfl)
  have next : claimants s t (s.servedAfter (.request k tag) [.request j tag']) = [.request j tag'] := by
    rw [← ht]
    exact (claimants_same _ _ rfl rfl rfl _).trans (if_neg (by simp))
  rw [run, waiting, serveWaiting_cons _ served still, next, serveWaiting_cons _ served₂ (heads_same _ _ (fun i => ?_) rfl),
    State.servedAfter, ite_self, claimants_calm _ _ rfl, settle_nil, ← ht]
  · rfl
  · rw [State.modLink_links_get]
    split
    · next h => subst h; rfl
    · rfl

/-! ### A load that takes staging -/

/-- R125: in LOADING nobody is served. -/
theorem settle_loading (state : s.staging.state = .loading) : ∀ (n : Nat) (ws : List Claimant), settle n ws [] s = s
  | 0, _ => rfl
  | _ + 1, [] => rfl
  | n + 1, w :: ws => by
    have shut : s.isOpen = false := by
      unfold State.isOpen
      rw [state]
      rfl
    have unserved : s.serve w = s := by
      cases w with
      | write k => exact if_neg (by rw [shut]; simp)
      | repair => rfl
      | request k tag =>
        have may (m : Msg) : s.mayServe m = false := by
          unfold State.mayServe
          rw [shut, state]
          simp
        unfold State.serve
        dsimp only
        split
        · rw [may]
          rfl
        · rfl
    rw [serveWaiting_cons n unserved (heads_refl s), claimants_refl]
    exact settle_loading state n _

/-- R125, R170: a PRESET_LOAD that waits first and takes staging; those behind it go on waiting. -/
theorem exec_serve_load {ps : List Byte} {sl : SlotId} {behind : List Claimant}
    (waiting : s.staging.waiting = .request k tag :: behind) (once : .request k tag ∉ behind)
    (waits : s.waitingMsg k tag = some (.command tag 0x0B ps)) (role : hasRole s.links[k].roles roleAlign = true)
    (lock : s.scanner.lock = false) (hold : s.staging.hold = some k) (slot : slotParam ps = some sl)
    (full : s.slotState sl ≠ .empty) (sound : s.slotState sl ≠ .corrupt) (opened : s.staging.state = .openState)
    (idle : s.preset.nv = none) : exec .serveWaitingRequests s = .next (State.beginSends
      { s with
        preset := { s.preset with
          nv := some (.load sl (.link k)), requester := some { link := k, tag := tag, live := true }
          progress := some { landing := 0, sound := [] } }
        staging := { s.staging with state := .loading, owner := some (.link k), waiting := behind } }) := by
  have left : (s.staging.waiting.filter fun x => x ≠ .request k tag) = behind := by
    rw [waiting, List.filter_cons_of_neg (by simp)]
    exact List.filter_eq_self.2 fun x hx => by simpa using fun e : x = .request k tag => once (e ▸ hx)
  have taken : takePresetLoad k tag ps s =
      { s with
        preset := { s.preset with
          nv := some (.load sl (.link k)), requester := some { link := k, tag := tag, live := true }
          progress := some { landing := 0, sound := [] } }
        staging := { s.staging with state := .loading, owner := some (.link k), waiting := behind } } := by
    have ready : (!s.isOpen || !s.nvIdle) = false := by simp [State.isOpen, State.nvIdle, opened, idle]
    have stays : ((s.unwait (.request k tag)).beginNv (.load sl (.link k)) k tag (.command tag 0x0B ps)) =
        (s.unwait (.request k tag)).modPreset fun p =>
          { p with nv := some (.load sl (.link k)), requester := some { link := k, tag := tag, live := true } } :=
      State.keep_waiting (s := (s.unwait (.request k tag)).modPreset fun p =>
        { p with nv := some (.load sl (.link k)), requester := some { link := k, tag := tag, live := true } })
        (State.waitingMsg_mem waits)
    have unwaited : s.unwait (.request k tag) = { s with staging := { s.staging with waiting := behind } } :=
      congrArg (fun ws => ({ s with staging := { s.staging with waiting := ws } } : State)) left
    unfold takePresetLoad
    rw [slot]
    dsimp only
    refine (if_neg (by simp [lock])).trans ((judged_hold _ k _ _ _).trans ?_)
    rw [if_neg (by simp [hold]), if_neg (by simp [hold]), if_neg full, if_neg sound, if_neg (by simp [ready]), stays, unwaited]
    rfl
  have served : s.serve (.request k tag) = takePresetLoad k tag ps s := by
    have may : s.mayServe (.command tag 0x0B ps) = true := by
      unfold State.mayServe State.isOpen
      simp [opened]
    rw [serve_request waits may]
    change (if !hasRole s.links[k].roles roleAlign then _ else takePresetLoad k tag ps s) = _
    rw [role]
    rfl
  rw [taken] at served
  obtain ⟨n, run⟩ := exec_serve_eq s
  rw [run, waiting, serveWaiting_cons _ served (heads_same _ _ (fun _ => rfl) rfl), settle_loading rfl]

/-! ### A request judged afresh -/

section

variable {ps : List Byte} {code : Byte}

/-- The state in which a COMMAND of link `k` waits, and nothing else does. -/
def State.waits (k : LinkId) (tag : Byte) (m : Msg) (u : State) : State :=
  { u.modLink k (fun l => { l with outstanding := l.outstanding ++ [tag], wait := l.wait ++ [m] }) with
    staging := { u.staging with waiting := [.request k tag] } }

theorem waits_link : (u.waits k tag m).links[k] =
    { u.links[k] with outstanding := u.links[k].outstanding ++ [tag], wait := u.links[k].wait ++ [m] } :=
  u.modLink_links_same k fun l => { l with outstanding := l.outstanding ++ [tag], wait := l.wait ++ [m] }

theorem waitingMsg_waits (hm : m.tag? = some tag) (fresh : ∀ x ∈ u.links[k].wait, x.tag? ≠ some tag) :
    (u.waits k tag m).waitingMsg k tag = some m := by
  have none : u.links[k].wait.find? (fun x => decide (x.tag? = some tag)) = none :=
    List.find?_eq_none.2 fun x hx => by simpa using fresh x hx
  unfold State.waitingMsg
  rw [waits_link]
  dsimp only
  rw [List.find?_append, none]
  simp [hm]

theorem unwait_waits (waiting : u.staging.waiting = []) : (u.waits k tag m).unwait (.request k tag) =
    u.modLink k fun l => { l with outstanding := l.outstanding ++ [tag], wait := l.wait ++ [m] } := by
  have none : [Claimant.request k tag].filter (fun x => x ≠ .request k tag) = u.staging.waiting := by
    rw [filter_request, waiting]
  exact congrArg (fun ws => ({ u.modLink k (fun l => { l with outstanding := l.outstanding ++ [tag], wait := l.wait ++ [m] })
    with staging := { u.staging with waiting := ws } } : State)) none

/-- The completion of a request that waits alone is that of one that has just arrived. -/
theorem complete_waits {st : Status} {bytes : List Byte} (up : u.links[k].up = true) (waiting : u.staging.waiting = [])
    (hm : m.tag? = some tag) : (u.waits k tag m).complete k tag st bytes = (u.asked k tag).complete k tag st bytes := by
  rw [State.complete_calm (s := u.asked k tag) _ _ _ _ waiting]
  unfold State.complete State.asked
  rw [unwait_waits waiting, State.modLink_modLink, State.modLink_modLink]
  refine State.modLink_congr ((Link.complete_when_up { u.links[k] with
      outstanding := u.links[k].outstanding ++ [tag], wait := u.links[k].wait ++ [m] } tag st 0 bytes up).trans
    (Eq.trans ?_ (Link.complete_when_up { u.links[k] with outstanding := u.links[k].outstanding ++ [tag] } tag st 0 bytes
      up).symm))
  have gone : (u.links[k].wait ++ [m]).filter (fun x => x.tag? ≠ some tag) =
      u.links[k].wait.filter fun x => x.tag? ≠ some tag := by
    rw [List.filter_append]
    simp [hm]
  dsimp only
  rw [gone]

/-- A request that waits alone is kept as one that has just arrived. -/
theorem keep_waits (hm : m.tag? = some tag) (fresh : ∀ x ∈ u.links[k].wait, x.tag? ≠ some tag) (p : Preset) (g : Staging) :
    State.keep k m { u.waits k tag m with preset := p, staging := g } =
      State.keep k m { u.asked k tag with preset := p, staging := g } := by
  have new : m ∉ ({ u.asked k tag with preset := p, staging := g } : State).links[k].wait := by
    change m ∉ (u.asked k tag).links[k].wait
    rw [State.asked_link]
    exact fun h => fresh m h hm
  have old : m ∈ ({ u.waits k tag m with preset := p, staging := g } : State).links[k].wait := by
    change m ∈ (u.waits k tag m).links[k].wait
    rw [waits_link]
    exact List.mem_append_right _ List.mem_cons_self
  rw [State.keep_waiting old, keep_fresh new]
  exact congrArg (fun t => ({ t with preset := p, staging := g } : State)) (u.modLink_modLink k
    (fun l => { l with outstanding := l.outstanding ++ [tag] }) fun l => { l with wait := l.wait ++ [m] }).symm

/-- What a request that waits alone leads to, `x`, is what it leads to when it has just arrived, `y`: nothing waits then, or
the request goes on waiting. -/
def Afresh (u : State) (k : LinkId) (tag : Byte) (m : Msg) (x y : State) : Prop :=
  x = y ∧ (y.staging.waiting = [] ∨ y = u.waits k tag m) ∧ ∀ j : LinkId, y.links[j].rx = u.links[j].rx

section

variable {x₁ x₂ y₁ y₂ : State} {p : Prop}

theorem Afresh.ite [Decidable p] (h₁ : p → Afresh u k tag m x₁ y₁) (h₂ : ¬ p → Afresh u k tag m x₂ y₂) :
    Afresh u k tag m (if p then x₁ else x₂) (if p then y₁ else y₂) := by
  by_cases h : p
  · rw [if_pos h, if_pos h]
    exact h₁ h
  · rw [if_neg h, if_neg h]
    exact h₂ h

/-- R130, R135, R169: a judgement by the hold. -/
theorem Afresh.held {hold : Option LinkId} (free : Afresh u k tag m x₁ y₁) (other : Afresh u k tag m x₂ y₂)
    {x₃ y₃ : State} (own : Afresh u k tag m x₃ y₃) : Afresh u k tag m
      (match hold with
        | none => x₁
        | some h => if h ≠ k then x₂ else x₃)
      (match hold with
        | none => y₁
        | some h => if h ≠ k then y₂ else y₃) := by
  cases hold with
  | none => exact free
  | some h => exact .ite (fun _ => other) fun _ => own

theorem Afresh.complete {st : Status} {bytes : List Byte} (up : u.links[k].up = true) (waiting : u.staging.waiting = [])
    (hm : m.tag? = some tag) :
    Afresh u k tag m ((u.waits k tag m).complete k tag st bytes) ((u.asked k tag).complete k tag st bytes) :=
  ⟨complete_waits up waiting hm, .inl (complete_waiting (s := u.asked k tag) waiting),
    fun j => (State.complete_rx _ k j tag st bytes).trans (State.asked_rx tag j)⟩

theorem Afresh.keep (hm : m.tag? = some tag) (fresh : ∀ x ∈ u.links[k].wait, x.tag? ≠ some tag) {p : Preset} {g : Staging}
    (waiting : g.waiting = []) : Afresh u k tag m (State.keep k m { u.waits k tag m with preset := p, staging := g })
      (State.keep k m { u.asked k tag with preset := p, staging := g }) :=
  ⟨keep_waits hm fresh p g, .inl waiting, fun j => (State.keep_rx _ k j m).trans (State.asked_rx tag j)⟩

end

theorem takeCommit_afresh (up : u.links[k].up = true) (waiting : u.staging.waiting = []) (opened : u.staging.state = .openState)
    (fresh : ∀ x ∈ u.links[k].wait, x.tag? ≠ some tag) : Afresh u k tag (.command tag 0x04 ps)
      (takeCommit k tag ps (u.waits k tag (.command tag 0x04 ps))) (takeCommit k tag ps (u.asked k tag)) := by
  have completed {st : Status} {bytes : List Byte} : Afresh u k tag (.command tag 0x04 ps)
      ((u.waits k tag (.command tag 0x04 ps)).complete k tag st bytes) ((u.asked k tag).complete k tag st bytes) :=
    .complete up waiting rfl
  cases params : commitParams ps with
  | none =>
    unfold takeCommit
    rw [params]
    exact completed
  | some p =>
    obtain ⟨set, kind, expected⟩ := p
    have shut : ¬ (!u.isOpen) = true := by simp [State.isOpen, opened]
    unfold takeCommit
    rw [params]
    dsimp only
    refine .held (hold := u.staging.hold) completed completed (.ite (fun h => absurd h shut) fun _ => .ite (fun _ => completed) fun _ => ?_)
    unfold State.checkCommit
    dsimp only
    refine .ite (fun _ => completed) fun _ => ?_
    have records (x : State) (same : x.stagingSet set = u.stagingSet set) :
        checkRecords (x.stagingSet set) = checkRecords (u.stagingSet set) := congrArg checkRecords same
    rw [records (u.waits k tag _) rfl, records (u.asked k tag) rfl]
    cases checkRecords (u.stagingSet set) with
    | some f => exact completed
    | none =>
      let g := fun ws => { u.staging with
        state := .commitPending, owner := some (.link k), waiting := ws
        commit := some { owner := .link k tag, set := set, kind := kind } }
      have begun : Afresh u k tag (.command tag 0x04 ps)
          (State.keep k (.command tag 0x04 ps) { u.waits k tag (.command tag 0x04 ps) with preset := u.preset, staging := g [] })
          (State.keep k (.command tag 0x04 ps) { u.asked k tag with preset := u.preset, staging := g [] }) :=
        .keep rfl fresh rfl
      have left : (u.waits k tag (.command tag 0x04 ps)).acceptCommit k tag set kind (.command tag 0x04 ps) =
          State.keep k (.command tag 0x04 ps) { u.waits k tag (.command tag 0x04 ps) with preset := u.preset, staging := g [] } :=
        congrArg (fun ws => State.keep k (.command tag 0x04 ps) { u.waits k tag (.command tag 0x04 ps) with
          preset := u.preset, staging := g ws }) (filter_request k tag)
      have right : (u.asked k tag).acceptCommit k tag set kind (.command tag 0x04 ps) =
          State.keep k (.command tag 0x04 ps) { u.asked k tag with preset := u.preset, staging := g [] } :=
        congrArg (fun ws => State.keep k (.command tag 0x04 ps) { u.asked k tag with
          preset := u.preset, staging := g ws }) (show u.staging.waiting.filter _ = [] by rw [waiting]; rfl)
      dsimp only
      rw [left, right]
      exact begun

/-- A PRESET_LOAD that waits alone, and whose slot or controller is not ready, goes on waiting. -/
theorem keepWaiting_waits (waiting : u.staging.waiting = []) (hm : m.tag? = some tag)
    (fresh : ∀ x ∈ u.links[k].wait, x.tag? ≠ some tag) :
    Afresh u k tag m ((u.waits k tag m).keepWaiting k tag m) ((u.asked k tag).keepWaiting k tag m) := by
  have here : m ∈ (u.waits k tag m).links[k].wait := by
    rw [waits_link]
    exact List.mem_append_right _ List.mem_cons_self
  have stays : (u.waits k tag m).keepWaiting k tag m = u.waits k tag m := by
    unfold State.keepWaiting
    rw [State.keep_waiting here, await_eq]
    exact congrArg (fun ws => ({ u.waits k tag m with staging := { u.staging with waiting := ws } } : State))
      (if_pos List.mem_cons_self)
  have joins : (u.asked k tag).keepWaiting k tag m = u.waits k tag m :=
    keepWaiting_asked waiting fun h => fresh m h hm
  refine ⟨stays.trans joins.symm, .inr joins, fun j => ?_⟩
  rw [joins]
  change ((u.modLink k fun l => { l with outstanding := l.outstanding ++ [tag], wait := l.wait ++ [m] }).links[j]).rx = _
  rw [State.modLink_links_get]
  split
  · next h => subst h; rfl
  · rfl

theorem takePresetLoad_afresh (up : u.links[k].up = true) (waiting : u.staging.waiting = [])
    (fresh : ∀ x ∈ u.links[k].wait, x.tag? ≠ some tag) : Afresh u k tag (.command tag 0x0B ps)
      (takePresetLoad k tag ps (u.waits k tag (.command tag 0x0B ps))) (takePresetLoad k tag ps (u.asked k tag)) := by
  have completed {st : Status} {bytes : List Byte} : Afresh u k tag (.command tag 0x0B ps)
      ((u.waits k tag (.command tag 0x0B ps)).complete k tag st bytes) ((u.asked k tag).complete k tag st bytes) :=
    .complete up waiting rfl
  cases slot : slotParam ps with
  | none =>
    unfold takePresetLoad
    rw [slot]
    exact completed
  | some sl =>
    unfold takePresetLoad
    rw [slot]
    dsimp only
    refine .ite (fun _ => completed) fun _ => .held (hold := u.staging.hold) completed completed ?_
    refine .ite (fun _ => completed) fun _ => .ite (fun _ => completed) fun _ => .ite (fun _ => ?_) fun _ => ?_
    · exact keepWaiting_waits waiting rfl fresh
    · let p : Preset := { u.preset with
        nv := some (.load sl (.link k)), requester := some { link := k, tag := tag, live := true } }
      have left : ((u.waits k tag (.command tag 0x0B ps)).unwait (.request k tag)).beginNv (.load sl (.link k)) k tag
          (.command tag 0x0B ps) = State.keep k (.command tag 0x0B ps)
            { u.waits k tag (.command tag 0x0B ps) with preset := p, staging := { u.staging with waiting := [] } } :=
        congrArg (fun ws => State.keep k (.command tag 0x0B ps) { u.waits k tag (.command tag 0x0B ps) with
          preset := p, staging := { u.staging with waiting := ws } }) (filter_request k tag)
      have right : ((u.asked k tag).unwait (.request k tag)).beginNv (.load sl (.link k)) k tag
          (.command tag 0x0B ps) = State.keep k (.command tag 0x0B ps)
            { u.asked k tag with preset := p, staging := { u.staging with waiting := [] } } :=
        congrArg (fun ws => State.keep k (.command tag 0x0B ps) { u.asked k tag with
          preset := p, staging := { u.staging with waiting := ws } }) (show u.staging.waiting.filter _ = [] by rw [waiting]; rfl)
      rw [left, right, keep_waits rfl fresh]
      exact ⟨rfl, .inl rfl, fun j => (State.keep_rx _ k j _).trans (State.asked_rx tag j)⟩

/-- R125: a COMMAND that waits alone is judged as though it had just arrived. -/
theorem exec_serve_afresh (calm : u.calm) (ask : u.canAsk k tag) (short : ps.length ≤ 16)
    (opened : u.staging.state = .openState) (fresh : ∀ x ∈ u.links[k].wait, x.tag? ≠ some tag)
    (taken : Afresh u k tag (.command tag code ps) (takeCommand k tag code ps (u.waits k tag (.command tag code ps)))
      (takeCommand k tag code ps (u.asked k tag))) :
    exec .serveWaitingRequests (u.waits k tag (.command tag code ps)) = .next (u.receiveCommand k tag code ps) := by
  have form : formOf (.command tag code ps) = .msg (.command tag code ps) := if_pos short
  have judged : Afresh u k tag (.command tag code ps)
      (judgeCommand k tag code ps (u.waits k tag (.command tag code ps))) (judgeCommand k tag code ps (u.asked k tag)) := by
    unfold judgeCommand
    cases commandRoles code with
    | none => exact .complete ask.1 calm.1 rfl
    | some roles =>
      dsimp only
      rw [waits_link, State.asked_roles]
      exact .ite (fun _ => .complete ask.1 calm.1 rfl) fun _ => taken
  obtain ⟨same, none, rx⟩ := judged
  have may : (u.waits k tag (.command tag code ps)).mayServe (.command tag code ps) = true := by
    unfold State.mayServe
    exact Bool.or_eq_true_iff.2 (.inl (decide_eq_true opened))
  have served := (serve_request (waitingMsg_waits rfl fresh) may).trans same
  refine (exec_serve_one rfl served (heads_empty _ _ fun j => (rx j).trans (calm.2 j)) ?_).trans ?_
  · obtain empty | stays := none
    · exact claimants_calm _ _ empty
    · rw [stays, claimants_refl]
  · unfold State.receiveCommand
    rw [form]
    refine congrArg Host.Outcome.next (receive_request (m := .command tag code ps) calm ask rfl rfl rx ?_).symm
    obtain empty | stays := none
    · exact claimants_calm _ _ empty
    · exact (congrArg (claimants u · []) stays).trans (claimants_of_same rfl rfl rfl)

end

/-- Settles O49. -/
theorem stagingReadsWaitAndAreServed : Obligations.StagingReadsWaitAndAreServed := by
  refine ⟨fun s k tag target offset length role nonzero most inside up => ?_, ?_, ?_, ?_, ?_⟩
  · intro m content able answered
    refine ⟨fun calm ask => ?_, fun waiting waits can => ?_,
      fun o payload align lock first last hold opened head waiting => ?_⟩
    · have judged := judgeRead_target (s := s.asked k tag) (k := k) (tag := tag) (by rw [State.asked_roles]; exact role)
        nonzero most inside
      have up' : (s.asked k tag).links[k].up = true := by
        rw [State.asked_link]
        exact up
      refine ⟨fun can => ?_, fun cannot fresh => ?_⟩
      · rw [if_pos (by exact can), completeRead_answered up' calm.1] at judged
        refine congrArg Host.Outcome.next (receive_request calm ask rfl judged (fun j => ?_) (claimants_calm _ _ calm.1))
        rw [State.modLink_links_get]
        split
        · next h => subst h; exact State.asked_rx tag _
        · exact State.asked_rx tag _
      · rw [if_neg (by exact cannot), keepWaiting_asked calm.1 fresh] at judged
        refine congrArg Host.Outcome.next (receive_request calm ask rfl judged (fun j => ?_) (claimants_of_same rfl rfl rfl))
        rw [State.modLink_links_get]
        split
        · next h => subst h; rfl
        · rfl
    · exact exec_serve_read waiting waits can role nonzero most inside up
    · exact exec_serve_write align lock first last hold opened head waiting
  · intro s k j tag tag' target target' offset offset' length length' reads answer waiting other able
    rintro ⟨waits, role, nonzero, most, inside, up⟩ ⟨waits', role', nonzero', most', inside', up'⟩
    exact exec_serve_reads waiting other able waits role nonzero most inside up waits' role' nonzero' most' inside' up'
  · intro s k tag ps sl behind waiting once waits role lock hold slot full sound opened idle
    exact exec_serve_load waiting once waits role lock hold slot full sound opened idle
  · intro s behind waiting queue repair opened idle
    obtain ⟨n, run⟩ := exec_serve_eq s
    rw [run, waiting, settle_repair_due _ _ _ (canRepair_iff.2 ⟨queue, repair, opened, idle⟩)]
  · intro u k tag ps calm ask short opened fresh waits
    exact ⟨exec_serve_afresh calm ask short opened fresh (takeCommit_afresh ask.1 calm.1 opened fresh),
      exec_serve_afresh calm ask short opened fresh (takePresetLoad_afresh ask.1 calm.1 fresh)⟩

end Sys2Proof.Machine
end

section
/-! A frame tick (R55): what the application of the modes, the barrier decision, the test of the pending commit, the
adoptions and the start of the output frames each do to the pipelines, the slots and the send queues. -/

namespace Sys2Proof.Machine

variable {s t : State}

/-! ### What every barrier decision keeps -/

/-- A property that each change a barrier decision consists of keeps. -/
structure DecisionKeeps (P : State → Prop) : Prop where
  barrier (b : Barrier) (s : State) : P s → P { s with barrier := b }
  shows (c : Chan) (drop : Word32 → Bool) (n : Word32) (s : State) : P s → P (s.modSlots c (Slots.show drop n))
  raise (s : State) : P s → P (s.raise .membership)
  complete (k : LinkId) (tag : Byte) (s : State) : P s → P (s.complete k tag .success [])

section
variable {P : State → Prop} (keeps : DecisionKeeps P)
include keeps

theorem DecisionKeeps.member (c : Chan) (f : Member → Member) (s : State) (h : P s) : P (s.modMember c f) :=
  keeps.barrier _ s h

theorem DecisionKeeps.setMembership (c : Chan) (m : Member) (s : State) (h : P s) : P (s.setMembership c m) :=
  keeps.raise _ (keeps.member c _ s h)

theorem DecisionKeeps.enterExit (old : Vector Mode 6) (c : Chan) (s : State) (h : P s) : P (s.enterExit old c) := by
  unfold State.enterExit
  split
  · split
    · exact h
    · exact keeps.setMembership c _ s h
  · split
    · exact keeps.setMembership c _ s h
    · exact h

theorem DecisionKeeps.applyLimit (s : State) (h : P s) : P s.applyLimit := by
  cases limit : s.barrier.pendingLimit with
  | none => rw [State.applyLimit_of_none limit]; exact h
  | some v =>
    cases req : s.barrier.pendingReq with
    | none => rw [State.applyLimit_no_request limit req]; exact keeps.barrier _ s h
    | some q => rw [State.applyLimit_request limit req]; exact keeps.complete _ _ _ (keeps.barrier _ s h)

theorem DecisionKeeps.openingTest (c : Chan) (s : State) (h : P s) : P (s.openingTest c) := by
  unfold State.openingTest
  split
  · exact keeps.setMembership c _ s h
  · exact h

theorem DecisionKeeps.swapSet (n : Word32) (cs : List Chan) (s : State) (h : P s) : P (s.swapSet n cs) :=
  keeps.barrier _ (eachChan _ cs s) (eachChan_keeps (fun c u hu => keeps.member c _ _ (keeps.shows c _ n u hu)) cs h)

theorem DecisionKeeps.countLateness {out : Chan → State → State} (hout : ∀ c u, P u → P (out c u)) (cs : List Chan)
    (s : State) (h : P s) : P (s.countLateness out cs) := by
  unfold State.countLateness
  split
  · refine eachChan_keeps (fun c u hu => ?_) cs h
    unfold State.countLate
    split
    · exact hu
    · dsimp only
      split
      · exact hout c _ (keeps.member c _ u hu)
      · exact keeps.member c _ u hu
  · exact h

theorem DecisionKeeps.swapStage (s : State) (h : P s) : P s.swapStage.1 := by
  rw [State.swapStage_eq]
  split
  · unfold State.joinedStage
    split
    · exact keeps.swapSet _ _ s h
    · exact keeps.countLateness (fun c u hu => keeps.setMembership c _ u hu) _ s h
  · split
    · unfold State.readmissionRound
      split
      · exact eachChan_keeps (fun c u hu => keeps.setMembership c _ u hu) _ (keeps.swapSet _ _ s h)
      · exact keeps.countLateness (out := State.loseCandidacy) (fun c u hu => keeps.member c _ u hu) _ s h
    · exact h

theorem DecisionKeeps.runFree (c : Chan) (s : State) (h : P s) : P (s.runFree c) := by
  unfold State.runFree
  split
  · exact h
  · split
    · split
      · exact keeps.shows c _ _ s h
      · exact h
    · exact keeps.shows c _ _ s h

theorem DecisionKeeps.excludedStage (anyJoined : Bool) (swapped : Option Word32) (skip : List Chan) (c : Chan) (s : State)
    (h : P s) : P (s.excludedStage anyJoined swapped skip c) := by
  obtain e | ⟨-, b, -, ⟨-, e⟩ | ⟨-, e⟩⟩ | ⟨-, e⟩ := s.excludedStage_cases anyJoined swapped skip c
  · rw [e]; exact h
  · rw [e]; exact keeps.setMembership c _ _ (keeps.shows c _ b s h)
  · rw [e]; exact keeps.setMembership c _ s h
  · rw [e]; exact keeps.runFree c s h

theorem DecisionKeeps.emptySet (s : State) (h : P s) : P s.emptySet := by
  unfold State.emptySet
  split
  · exact h
  · exact eachChan_keeps (fun c u hu => keeps.member c _ u hu) _ h

theorem DecisionKeeps.decideLive (s : State) (h : P s) : P s.decideLive.1 := by
  rw [State.decideLive_eq]
  have opened := eachChan_keeps keeps.openingTest (chansWhere s.isJoined) (keeps.applyLimit s h)
  generalize eachChan State.openingTest (chansWhere s.isJoined) s.applyLimit = o at opened
  have swapped := keeps.swapStage o opened
  generalize o.swapStage = d at swapped
  dsimp only
  exact keeps.emptySet _ (eachChan_keeps (keeps.excludedStage _ _ _) _ swapped)

/-- R89 to R96: what each change keeps, the decision keeps. -/
theorem DecisionKeeps.barrierDecision (old : Vector Mode 6) (s : State) (h : P s) : P (s.barrierDecision old).1 := by
  have entered := eachChan_keeps (keeps.enterExit old) (List.finRange 6) h
  unfold State.barrierDecision
  generalize eachChan (State.enterExit old) (List.finRange 6) s = v at entered
  simp only
  split
  · exact keeps.decideLive v entered
  · exact keeps.barrier _ v.applyLimit (keeps.applyLimit v entered)

end

/-! ### The three properties of a tick -/

theorem decisionKeeps_pipes (v : Vector Pipe 6) : DecisionKeeps fun s => s.pipes = v :=
  ⟨fun _ _ h => h, fun _ _ _ _ h => h, fun _ h => h, fun _ _ _ h => h⟩

/-- R82: Capture has stopped on channel `c`. -/
def State.stopped (c : Chan) (s : State) : Prop := s.slots c = Slots.allFree ∧ s.capture[c].stale = 0

theorem Slots.readyIx_allFree (n : Word32) : Slots.allFree.readyIx n = none := by
  cases h : Slots.allFree.readyIx n with
  | none => rfl
  | some i =>
    obtain ⟨w, ht, hi⟩ := Slots.readyIx_some h
    rw [Slots.allFree_get] at hi
    cases hi

theorem Slots.show_allFree (drop : Word32 → Bool) (n : Word32) : Slots.show drop n Slots.allFree = Slots.allFree :=
  Slots.show_of_none (Slots.readyIx_allFree n)

theorem State.modSlots_stale (c d : Chan) (f : Slots → Slots) (s : State) :
    (s.modSlots c f).capture[d].stale = s.capture[d].stale := by
  rw [State.modSlots_capture]
  split
  · next e => subst e; rfl
  · rfl

theorem State.stopped.of_capture {c : Chan} (h : s.stopped c) (same : t.capture = s.capture) : t.stopped c := by
  unfold State.stopped State.slots at h ⊢
  rw [same]
  exact h

/-- A change of slots that keeps FREE slots leaves a stopped Capture so. -/
theorem State.modSlots_stopped {c : Chan} (d : Chan) {f : Slots → Slots} (hf : f Slots.allFree = Slots.allFree)
    (h : s.stopped c) : (s.modSlots d f).stopped c := by
  obtain ⟨free, stale⟩ := h
  refine ⟨?_, (State.modSlots_stale d c f s).trans stale⟩
  rw [State.modSlots_slots]
  split
  · next e => rw [← e, free, hf]
  · exact free

theorem decisionKeeps_stopped (c : Chan) : DecisionKeeps (State.stopped c) :=
  ⟨fun _ _ h => h, fun d drop n _ h => State.modSlots_stopped d (Slots.show_allFree drop n) h, fun _ h => h,
    fun _ _ _ h => h⟩

theorem Link.mem_sendQ_complete {m : OutMsg} {l : Link} (tag : Byte) (st : Status) (o : Word32) (content : List Byte)
    (h : m ∈ l.sendQ) : m ∈ (l.complete tag st o content).sendQ := by
  unfold Link.complete
  split
  · exact List.mem_append_left _ h
  · exact h

theorem Link.mem_sendQ_raise {m : OutMsg} {l : Link} (e : EventKind) (h : m ∈ l.sendQ) : m ∈ (l.raise e).sendQ := by
  unfold Link.raise
  split
  · exact h
  · obtain ⟨-, noticed⟩ | ⟨-, still⟩ := Link.testNotice_spec (l := { l with pending := l.pending ||| e.bit })
    · rw [noticed]; exact List.mem_append_left _ h
    · rw [still]; exact h

theorem State.mem_sendQ_complete {m : OutMsg} {j : LinkId} (k : LinkId) (tag : Byte) (st : Status) (p : List Byte)
    (h : m ∈ s.links[j].sendQ) : m ∈ (s.complete k tag st p).links[j].sendQ := by
  unfold State.complete
  rw [State.modLink_links_get]
  split
  · next e => subst e; exact Link.mem_sendQ_complete tag st 0 p h
  · exact h

theorem State.mem_sendQ_raise {m : OutMsg} {j : LinkId} (e : EventKind) (h : m ∈ s.links[j].sendQ) :
    m ∈ (s.raise e).links[j].sendQ := by
  rw [State.raise_links_get]
  exact Link.mem_sendQ_raise e h

theorem decisionKeeps_sendQ (j : LinkId) (m : OutMsg) : DecisionKeeps fun s => m ∈ s.links[j].sendQ :=
  ⟨fun _ _ h => h, fun _ _ _ _ h => h, fun _ h => State.mem_sendQ_raise .membership h,
    fun k tag _ h => State.mem_sendQ_complete k tag .success [] h⟩

/-! ### The activation -/

theorem State.activate_pipes (s : State) (p : PendingCommit) : (s.activate p).pipes = s.pipes :=
  (congrArg State.pipes (s.activate_eq p)).trans
    ((State.scanned_of State.pipes (fun _ _ _ => rfl) (fun _ _ => rfl) s p).trans
      (congrArg State.pipes (s.switched_same p) : (s.switched p).pipes = _))

theorem State.activate_stopped {c : Chan} (p : PendingCommit) (h : s.stopped c) : (s.activate p).stopped c := by
  have rastered : (s.rastered p).stopped c := by
    refine eachChan_keeps (P := State.stopped c) (fun d u hu => ?_) _ ?_
    · unfold State.rasterChange
      dsimp only
      split
      · exact hu
      · exact State.modSlots_stopped d Slots.freeReady_allFree hu
    · rw [s.switched_same]; exact h
  have scanned : (s.scanned p).stopped c := by
    rw [State.scanned, State.scannerActivation_same]; exact rastered
  rw [s.activate_eq]
  exact scanned

theorem State.mem_sendQ_activate {m : OutMsg} {j : LinkId} (p : PendingCommit) (h : m ∈ s.links[j].sendQ) :
    m ∈ (s.activate p).links[j].sendQ := by
  have scanned : m ∈ (s.scanned p).links[j].sendQ := by rw [State.scanned_links]; exact h
  have raised := State.mem_sendQ_raise .activated scanned
  rw [State.activate_links]
  unfold State.completeCommit
  split
  · exact State.mem_sendQ_complete _ _ _ _ raised
  · exact raised

/-- What every activation keeps, the test of the pending commit keeps. -/
theorem testActivation_keeps {P : State → Prop} (hP : ∀ (u : State) (p : PendingCommit), P u → P (u.activate p))
    (swapped : Option Word32) (h : P s) : P (s.testActivation swapped) := by
  obtain e | ⟨p, -, -, e⟩ := s.testActivation_cases swapped
  · rw [e]; exact h
  · rw [e]; exact hP s p h

/-! ### Adoption -/

/-- R109: the slots of a channel in mode `m` after the adoptions. -/
def Slots.adopted (m : Mode) (v : Slots) : Slots :=
  if m.frozen = true ∧ v.hasShowing = false then ((newestOf v.readyFrames).map fun n => v.adopt n).getD v else v

theorem State.modSlots_id {c : Chan} {f : Slots → Slots} (h : f (s.slots c) = s.slots c) : s.modSlots c f = s := by
  have hset : s.capture.set c { s.capture[c] with slots := f s.capture[c].slots } = s.capture := by
    have : f s.capture[c].slots = s.capture[c].slots := h
    rw [this]
    exact Vector.set_getElem_self _
  show ({ s with capture := s.capture.set c { s.capture[c] with slots := f s.capture[c].slots } } : State) = s
  rw [hset]

theorem State.adoption_eq (c : Chan) (s : State) : s.adoption c = s.modSlots c (Slots.adopted s.pipes[c].mode) := by
  unfold State.adoption
  split
  · next h =>
    obtain ⟨frozen, dark⟩ : s.pipes[c].mode.frozen = true ∧ (s.slots c).hasShowing = false := by
      simpa [-Fin.getElem_fin] using h
    have adopted : Slots.adopted s.pipes[c].mode (s.slots c) =
        ((newestOf (s.slots c).readyFrames).map fun n => (s.slots c).adopt n).getD (s.slots c) := if_pos ⟨frozen, dark⟩
    split
    · next n newest =>
      rw [newest] at adopted
      show ({ s with capture := _ } : State) = { s with capture := _ }
      exact congrArg (fun v => { s with capture := s.capture.set c { s.capture[c] with slots := v } }) adopted.symm
    · next newest =>
      rw [newest] at adopted
      exact (State.modSlots_id adopted).symm
  · next h =>
    refine (State.modSlots_id (if_neg fun ⟨frozen, dark⟩ => h ?_)).symm
    rw [frozen, show (s.slots c).hasShowing = false from dark]
    rfl

theorem eachAdoption_slots (s : State) (c : Chan) :
    (eachChan State.adoption (List.finRange 6) s).slots c = Slots.adopted s.pipes[c].mode (s.slots c) := by
  have h := eachChan_at State.capture (f := State.adoption)
    (fun c s => { s.capture[c] with slots := Slots.adopted s.pipes[c].mode (s.slots c) })
    (fun c s => by rw [State.adoption_eq, State.modSlots_capture, if_pos rfl]; rfl)
    (fun c d s hd => by rw [State.adoption_eq, State.modSlots_capture, if_neg hd])
    (fun c d s hd => by
      rw [State.adoption_eq, State.modSlots_capture, if_neg hd, State.modSlots_slots, if_neg hd]; rfl)
    (cs := List.finRange 6) (.inl (List.nodup_finRange 6)) s c
  rw [if_pos (List.mem_finRange c)] at h
  exact congrArg Capture.slots h

theorem eachAdoption_links (s : State) : (eachChan State.adoption (List.finRange 6) s).links = s.links :=
  eachChan_keeps (P := fun u => u.links = s.links) (fun c u hu => (u.adoption_links c).trans hu) _ rfl

theorem eachAdoption_pipes (s : State) : (eachChan State.adoption (List.finRange 6) s).pipes = s.pipes :=
  eachChan_keeps (P := fun u => u.pipes = s.pipes) (fun c u hu => by rw [State.adoption_eq]; exact hu) _ rfl

theorem Slots.adopted_allFree (m : Mode) : Slots.adopted m Slots.allFree = Slots.allFree := by
  unfold Slots.adopted
  split
  · cases newestOf Slots.allFree.readyFrames with
    | none => rfl
    | some n => exact Slots.show_allFree (fun _ => false) n
  · rfl

theorem eachAdoption_stopped {c : Chan} (h : s.stopped c) : (eachChan State.adoption (List.finRange 6) s).stopped c :=
  eachChan_keeps (P := State.stopped c)
    (fun d u hu => by rw [State.adoption_eq]; exact State.modSlots_stopped d (Slots.adopted_allFree _) hu) _ h

theorem Slots.hasShowing_of_shows {v : Slots} {n : Word32} (h : v.showsB (some n) = true) : v.hasShowing = true := by
  obtain ⟨i, hi⟩ := (Slots.showsB_iff v n).1 h
  refine (Slots.any_iff _ v).2 ⟨i, ?_⟩
  cases hr : v[i] <;> rw [hr] at hi <;> simp [SlotRec.shows, SlotRec.isShowing] at hi ⊢

/-- R109: after the adoptions a frozen channel that shows nothing has nothing READY. -/
theorem Slots.adopted_dark {m : Mode} {v : Slots} (frozen : m.frozen = true)
    (dark : (Slots.adopted m v).hasShowing = false) : (Slots.adopted m v).readyFrames = [] := by
  cases shown : v.hasShowing with
  | true =>
    rw [Slots.adopted, if_neg (by simp [shown]), shown] at dark
    exact absurd dark (by decide)
  | false =>
    rw [Slots.adopted, if_pos ⟨frozen, shown⟩] at dark ⊢
    cases newest : newestOf v.readyFrames with
    | none => exact (newestOf_eq_none_iff _).1 newest
    | some n =>
      rw [newest] at dark
      have shows := Slots.hasShowing_of_shows (Slots.show_showsB (v := v) (n := n) (fun _ => false)
        (decide_eq_true (newestOf_mem newest)))
      exact absurd (shows.symm.trans dark) (by decide)

/-! ### The application of the modes -/

theorem mem_foldl_of_step {α β : Type} {f : List α → β → List α} {a : α} {p : β → Prop}
    (step : ∀ acc b, a ∈ f acc b ↔ a ∈ acc ∨ p b) (bs : List β) (acc : List α) :
    a ∈ bs.foldl f acc ↔ a ∈ acc ∨ ∃ b ∈ bs, p b := by
  induction bs generalizing acc with
  | nil => simp
  | cons b bs ih => rw [List.foldl_cons, ih, step]; simp [or_assoc]

theorem State.mem_modeRequests (s : State) (r : ModeReq) :
    r ∈ s.modeRequests ↔ ∃ c : Chan, s.pipes[c].pendingReq = some r := by
  refine (mem_foldl_of_step (p := fun c : Chan => s.pipes[c].pendingReq = some r) (fun acc c => ?_) _ _).trans
    (by simp [-Fin.getElem_fin])
  split
  · next q hq =>
    rw [hq]
    split
    · next old => simp only [Option.some.injEq, iff_self_or]; exact fun e => e ▸ old
    · simp [eq_comm]
  · next hq => simp [-Fin.getElem_fin, hq]

/-- The claimants that none of some requests is. -/
def unasked (reqs : List ModeReq) (w : Claimant) : Bool := decide (∀ q ∈ reqs, w ≠ .request q.link q.tag)

theorem unasked_iff {reqs : List ModeReq} {w : Claimant} :
    unasked reqs w = true ↔ ∀ q ∈ reqs, w ≠ .request q.link q.tag := decide_eq_true_iff

theorem completeModes_staging (reqs : List ModeReq) (p : List Byte) (s : State) :
    (reqs.foldl (fun s r => s.complete r.link r.tag .success p) s).staging =
      { s.staging with waiting := s.staging.waiting.filter (unasked reqs) } := by
  induction reqs generalizing s with
  | nil =>
    have all : s.staging.waiting.filter (unasked []) = s.staging.waiting := List.filter_eq_self.2 fun w _ => rfl
    rw [all]
    rfl
  | cons r reqs ih =>
    have first : (s.complete r.link r.tag .success p).staging =
      { s.staging with waiting := s.staging.waiting.filter fun w => w ≠ .request r.link r.tag } := rfl
    rw [List.foldl_cons, ih, first]
    simp only [List.filter_filter]
    congr 1
    refine List.filter_congr fun w _ => ?_
    rw [Bool.and_comm]
    simp [unasked]

theorem completeModes_sendQ {r : ModeReq} {p : List Byte} (short : p.length ≤ 256) {reqs : List ModeReq} (hr : r ∈ reqs)
    (s : State) (up : s.links[r.link].up = true) :
    .completion r.tag .success 0 p [] ∈
      (reqs.foldl (fun s r => s.complete r.link r.tag .success p) s).links[r.link].sendQ := by
  induction reqs generalizing s with
  | nil => cases hr
  | cons q reqs ih =>
    rw [List.foldl_cons]
    obtain rfl | hr := List.mem_cons.1 hr
    · refine List.foldlRecOn (motive := fun u : State => .completion r.tag .success 0 p [] ∈ u.links[r.link].sendQ) _ _ ?_
        fun u hu q _ => State.mem_sendQ_complete _ _ _ _ hu
      show _ ∈ ((s.unwait _).modLink r.link (Link.complete r.tag .success 0 p)).links[r.link].sendQ
      have up' : (s.unwait (.request r.link r.tag)).links[r.link].up = true := up
      rw [State.modLink_links_same, Link.complete_when_up _ r.tag .success 0 p up', List.take_of_length_le short,
        List.drop_of_length_le short]
      simp
    · refine ih hr _ ?_
      show ((s.unwait _).modLink q.link (Link.complete q.tag .success 0 p)).links[r.link].up = true
      rw [State.modLink_links_get]
      split
      · next e => rw [Link.complete_up, ← e]; exact up
      · exact up

theorem word32Bytes_length (w : Word32) : (word32Bytes w).length = 4 := rfl

theorem State.applyModes_staging (count : Word32) (s : State) : (s.applyModes count).staging =
    { s.staging with waiting := s.staging.waiting.filter (unasked s.modeRequests) } :=
  completeModes_staging s.modeRequests (word32Bytes count) _

/-- R114: the request of a mode that is applied completes with the count. -/
theorem State.applyModes_sendQ {c : Chan} {q : ModeReq} (count : Word32) (hq : s.pipes[c].pendingReq = some q)
    (up : s.links[q.link].up = true) :
    .completion q.tag .success 0 (word32Bytes count) [] ∈ (s.applyModes count).links[q.link].sendQ :=
  completeModes_sendQ (by rw [word32Bytes_length]; decide) ((s.mem_modeRequests q).2 ⟨c, hq⟩) _ up

theorem State.modePipes_get (count : Word32) (s : State) (c : Chan) : (s.modePipes count)[c] = s.pipes[c].applyMode count := by
  simp [State.modePipes]

theorem Pipe.applyMode_eq (count : Word32) (p : Pipe) : p.applyMode count =
    { p with
      mode := p.pendingMode.getD p.mode
      pendingMode := none
      pendingReq := if p.pendingMode.isSome then none else p.pendingReq
      modeTick := if p.pendingMode.isSome then some count else p.modeTick } := by
  unfold Pipe.applyMode
  split
  · next m h => simp [h]
  · next h => cases p; simp_all

theorem State.applyModes_stopped {c : Chan} (count : Word32)
    (changed : s.pipes[c].pendingMode.getD s.pipes[c].mode ≠ s.pipes[c].mode)
    (dark : (s.pipes[c].pendingMode.getD s.pipes[c].mode).captures = false) : (s.applyModes count).stopped c := by
  have capture : (s.applyModes count).capture[c] = s.capture[c].stop := by
    rw [State.applyModes_capture, State.modeCapture_get, State.modePipes_get, Pipe.applyMode_eq, if_pos ⟨changed, dark⟩]
  exact ⟨congrArg Capture.slots capture, congrArg Capture.stale capture⟩

/-! ### The stages of a tick -/

theorem State.frameStarts_capture (s : State) : s.frameStarts.capture = s.capture := rfl

theorem State.frameStarts_links (s : State) : s.frameStarts.links = s.links := rfl

/-- The state of a tick after the modes (R114). -/
def State.moded (s : State) : State := s.countTick.applyModes (s.timebase.tickCount + 1)

/-- The state of a tick after the barrier decision, and the frame that it swapped to (R97). -/
def State.decided (s : State) : State × Option Word32 := s.moded.barrierDecision s.modes

/-- The state of a tick after the test of the pending commit (R142). -/
def State.activated (s : State) : State := s.decided.1.testActivation s.decided.2

/-- The state of a tick after the adoptions (R109). -/
def State.adopted (s : State) : State := eachChan State.adoption (List.finRange 6) s.activated

theorem State.tick_eq (s : State) : s.tick = s.adopted.frameStarts := rfl

theorem State.tick_capture (s : State) : s.tick.capture = s.adopted.capture := by
  rw [State.tick_eq, State.frameStarts_capture]

theorem State.tick_links (s : State) : s.tick.links = s.activated.links := by
  rw [State.tick_eq, State.frameStarts_links, State.adopted, eachAdoption_links]

/-- What the decision and every activation keep holds after them when it holds of the modes' state. -/
theorem activated_keeps {P : State → Prop} (decides : DecisionKeeps P)
    (activates : ∀ (u : State) (p : PendingCommit), P u → P (u.activate p)) (h : P s.moded) : P s.activated :=
  testActivation_keeps activates _ (decides.barrierDecision _ _ h)

theorem State.activated_pipes (s : State) (c : Chan) : s.activated.pipes[c] = s.pipes[c].applyMode (s.timebase.tickCount + 1) := by
  have h : s.activated.pipes = s.moded.pipes :=
    activated_keeps (P := fun u => u.pipes = s.moded.pipes) (decisionKeeps_pipes s.moded.pipes)
      (fun u p hu => (u.activate_pipes p).trans hu) rfl
  rw [h, State.moded, State.applyModes_pipes, State.modePipes_get]
  rfl

theorem State.adopted_pipes (s : State) (c : Chan) : s.adopted.pipes[c] = s.pipes[c].applyMode (s.timebase.tickCount + 1) := by
  rw [← s.activated_pipes, State.adopted, eachAdoption_pipes]

theorem State.adopted_slots (s : State) (c : Chan) :
    s.adopted.slots c = Slots.adopted s.activated.pipes[c].mode (s.activated.slots c) := eachAdoption_slots s.activated c

theorem State.tick_stopped {c : Chan} (changed : s.pipes[c].pendingMode.getD s.pipes[c].mode ≠ s.pipes[c].mode)
    (dark : (s.pipes[c].pendingMode.getD s.pipes[c].mode).captures = false) : s.tick.stopped c := by
  have moded : s.moded.stopped c := State.applyModes_stopped (s := s.countTick) _ changed dark
  have adopted : s.adopted.stopped c :=
    eachAdoption_stopped (s := s.activated)
      (activated_keeps (decisionKeeps_stopped c) (fun _ p hu => State.activate_stopped p hu) moded)
  exact adopted.of_capture s.tick_capture

theorem State.tick_sendQ {q : ModeReq} {c : Chan} (hq : s.pipes[c].pendingReq = some q) (up : s.links[q.link].up = true) :
    .completion q.tag .success 0 (word32Bytes (s.timebase.tickCount + 1)) [] ∈ s.tick.links[q.link].sendQ := by
  have sent : .completion q.tag .success 0 (word32Bytes (s.timebase.tickCount + 1)) [] ∈ s.moded.links[q.link].sendQ :=
    State.applyModes_sendQ (s := s.countTick) _ hq up
  rw [State.tick_links]
  generalize OutMsg.completion q.tag .success 0 (word32Bytes (s.timebase.tickCount + 1)) [] = m at sent ⊢
  exact activated_keeps (P := fun u => m ∈ u.links[q.link].sendQ) (decisionKeeps_sendQ q.link m)
    (fun _ p hu => State.mem_sendQ_activate p hu) sent

/-! ### Output frames -/

theorem State.frameStarts_pipes (s : State) (c : Chan) : s.frameStarts.pipes[c] =
    { s.pipes[c] with
      frame := s.newFrame c
      lastEnd := s.pipes[c].frame.map fun f => f.ended s.timebase.now } := by
  simp [State.frameStarts]

/-- R115, R116: the record, bank and slots that an output frame takes are those that stand after the tick. -/
theorem State.frameStarts_newFrame (s : State) (c : Chan) : s.newFrame c =
    if s.pipes[c].mode = .off then none
    else some
      { start := s.timebase.now, mode := s.pipes[c].mode, bank := s.frameStarts.activeBank c
        source := (s.frameStarts.slots c).source
        width := Rec.clampedNat (s.frameStarts.activeRecord c) 4
        height := Rec.clampedNat (s.frameStarts.activeRecord c) 6
        rowTime := Config.nominalPeriod s.timebase.rate / (Rec.clampedNat (s.frameStarts.activeRecord c) 6 + 40) } := rfl

theorem State.frameStarts_timebase (s : State) : s.frameStarts.timebase = s.timebase := rfl

theorem State.adopted_timebase (s : State) : s.adopted.timebase =
    { s.timebase with tickCount := s.timebase.tickCount + 1, lastTick := s.timebase.now, lockEdge := none } := by
  rw [← s.tick_timebase, State.tick_eq, State.frameStarts_timebase]

/-- The output frame that channel `c` starts at a tick. -/
def State.tickFrame (s : State) (c : Chan) : Option OutFrame :=
  let r := s.tick.activeRecord c
  if s.pipes[c].pendingMode.getD s.pipes[c].mode = .off then none
  else some
    { start := s.timebase.now, mode := s.pipes[c].pendingMode.getD s.pipes[c].mode, bank := s.tick.activeBank c
      source := (s.tick.slots c).source, width := Rec.clampedNat r 4, height := Rec.clampedNat r 6
      rowTime := Config.nominalPeriod s.timebase.rate / (Rec.clampedNat r 6 + 40) }

theorem State.adopted_newFrame (s : State) (c : Chan) : s.adopted.newFrame c = s.tickFrame c := by
  rw [State.frameStarts_newFrame, ← State.tick_eq, State.adopted_timebase, State.adopted_pipes, Pipe.applyMode_eq]
  rfl

theorem State.tick_pipes (s : State) (c : Chan) : s.tick.pipes[c] =
    { mode := s.pipes[c].pendingMode.getD s.pipes[c].mode
      pendingMode := none
      pendingReq := if s.pipes[c].pendingMode.isSome then none else s.pipes[c].pendingReq
      modeTick := if s.pipes[c].pendingMode.isSome then some (s.timebase.tickCount + 1) else s.pipes[c].modeTick
      frame := s.tickFrame c
      lastEnd := s.pipes[c].frame.map fun f => f.ended s.timebase.now } := by
  rw [State.tick_eq, State.frameStarts_pipes, State.adopted_newFrame, State.adopted_timebase, State.adopted_pipes,
    Pipe.applyMode_eq]

/-- R28: the codes of a row of an output frame. -/
def State.rowCodes (s : State) (c : Chan) (f : OutFrame) (y : Nat) : List Codes :=
  (List.range f.width).map fun x => outputPixel s.frameMem (s.record f.bank c) c f.mode f.source x y

theorem State.portRowCodes_of_frame {c : Chan} {f : OutFrame} (h : s.pipes[c].frame = some f) (y : Nat) :
    s.portRowCodes c y = if y < f.height then some (s.rowCodes c f y) else none := by
  unfold State.portRowCodes
  rw [h]
  rfl

theorem State.portFrameCodes_of_frame {c : Chan} {f : OutFrame} (h : s.pipes[c].frame = some f) :
    s.portFrameCodes c = some ((List.range f.height).map (s.rowCodes c f)) := by
  unfold State.portFrameCodes
  rw [h, Option.map_some]
  refine congrArg some ((List.filterMap_congr fun y hy => ?_).trans (congrFun List.filterMap_eq_map' _))
  rw [State.portRowCodes_of_frame h, if_pos (List.mem_range.1 hy)]

theorem State.portFrameCodes_of_none {c : Chan} (h : s.pipes[c].frame = none) : s.portFrameCodes c = none := by
  unfold State.portFrameCodes
  rw [h]
  rfl

/-- R115: what the port sends some time after the start of its frame. -/
theorem State.portSends_later {c : Chan} {f : OutFrame} (h : s.pipes[c].frame = some f) (later : Nat) :
    ({ s with timebase := { s.timebase with now := f.start + later } } : State).portSends c =
      if later / f.rowTime < f.height then some (s.rowCodes c f (later / f.rowTime)) else none := by
  generalize hu : ({ s with timebase := { s.timebase with now := f.start + later } } : State) = u
  have frame : u.pipes[c].frame = some f := by rw [← hu]; exact h
  have now : u.timebase.now - f.start = later := by rw [← hu]; exact Nat.add_sub_cancel_left ..
  have codes (y : Nat) : u.rowCodes c f y = s.rowCodes c f y := by rw [← hu]; rfl
  unfold State.portSends State.portRow
  rw [frame]
  dsimp only
  rw [now]
  split
  · next inside => rw [Option.bind_some, State.portRowCodes_of_frame frame, if_pos inside, codes]
  · rfl

theorem Mode.not_captures {m : Mode} (h : m = .off ∨ m = .standby) : m.captures = false := by
  obtain rfl | rfl := h <;> rfl

theorem State.frameStarts_same (s : State) : s.frameStarts = { s with pipes := s.frameStarts.pipes } := rfl

theorem State.moded_staging (s : State) : s.moded.staging =
    { s.staging with waiting := s.staging.waiting.filter (unasked s.countTick.modeRequests) } :=
  s.countTick.applyModes_staging _

theorem State.unasked_modeRequests (s : State) (w : Claimant) : unasked s.countTick.modeRequests w = true ↔
    ∀ c : Chan, ∀ q, s.pipes[c].pendingReq = some q → w ≠ .request q.link q.tag := by
  rw [unasked_iff]
  constructor
  · intro h c q hq
    exact h q ((s.countTick.mem_modeRequests q).2 ⟨c, hq⟩)
  · intro h q hq
    obtain ⟨c, hc⟩ := (s.countTick.mem_modeRequests q).1 hq
    exact h c q hc

/-- R192: when no request of a pending mode waits for Staging, the modes leave Staging as it is. -/
theorem State.moded_staging_same
    (h : ∀ c : Chan, ∀ q, s.pipes[c].pendingReq = some q → .request q.link q.tag ∉ s.staging.waiting) :
    s.moded.staging = s.staging := by
  have all : s.staging.waiting.filter (unasked s.countTick.modeRequests) = s.staging.waiting :=
    List.filter_eq_self.2 fun w hw => (s.unasked_modeRequests w).2 fun c q hq e => h c q hq (e ▸ hw)
  rw [State.moded_staging, all]

theorem State.moded_capture_same {c : Chan} (h : s.pipes[c].pendingMode = none) : s.moded.capture[c] = s.capture[c] := by
  have same : (s.countTick.modePipes (s.timebase.tickCount + 1))[c].mode = s.pipes[c].mode := by
    rw [State.modePipes_get, Pipe.applyMode_eq]
    exact (congrArg (Option.getD · s.pipes[c].mode) h :)
  rw [State.moded, State.applyModes_capture, State.modeCapture_get]
  exact if_neg fun changed => changed.1 same

theorem State.tick_pipesOnly (s : State) : s.tick = { s.adopted with pipes := s.tick.pipes } := by
  rw [State.tick_eq]
  exact s.adopted.frameStarts_same

theorem State.tick_slots (s : State) (c : Chan) : s.tick.slots c = Slots.adopted s.tick.pipes[c].mode (s.activated.slots c) := by
  have mode : s.tick.pipes[c].mode = s.activated.pipes[c].mode := by
    rw [State.tick_pipes, State.activated_pipes, Pipe.applyMode_eq]
  rw [mode, ← State.adopted_slots, State.slots, State.tick_capture, State.slots]

theorem Mode.frozen_of {m : Mode} (h : m = .hold ∨ m = .flat ∨ m = .grid) : m.frozen = true := by
  obtain rfl | rfl | rfl := h <;> rfl

theorem Slots.adopted_none {m : Mode} {v : Slots} (h : newestOf v.readyFrames = none) : Slots.adopted m v = v := by
  rw [Slots.adopted, h]
  exact ite_self _

theorem Slots.adopted_some {m : Mode} {v : Slots} {n : Word32} (h : newestOf v.readyFrames = some n) :
    Slots.adopted m v = if m.frozen = true ∧ v.hasShowing = false then v.adopt n else v := by
  rw [Slots.adopted, h]
  rfl

/-- R28: what an output frame that a tick starts is made of. -/
theorem State.tickFrame_rowCodes {c : Chan} {f : OutFrame} (h : s.tickFrame c = some f) (y : Nat) :
    s.tick.rowCodes c f y = (List.range f.width).map fun x =>
      outputPixel s.tick.frameMem (s.tick.activeRecord c) c (s.pipes[c].pendingMode.getD s.pipes[c].mode)
        (s.tick.slots c).source x y := by
  unfold State.tickFrame at h
  generalize s.tick = t at h
  dsimp only at h
  split at h
  · cases h
  · cases h; rfl

theorem State.tick_portFrameCodes (s : State) (c : Chan) : s.tick.portFrameCodes c =
    (if s.pipes[c].pendingMode.getD s.pipes[c].mode = .off then none
    else some ((List.range (Rec.clampedNat (s.tick.activeRecord c) 6)).map fun y =>
      (List.range (Rec.clampedNat (s.tick.activeRecord c) 4)).map fun x =>
        outputPixel s.tick.frameMem (s.tick.activeRecord c) c (s.pipes[c].pendingMode.getD s.pipes[c].mode)
          (s.tick.slots c).source x y)) := by
  have frame : s.tick.pipes[c].frame = s.tickFrame c := by rw [State.tick_pipes]
  split
  · next off =>
    rw [State.tickFrame, if_pos off] at frame
    exact State.portFrameCodes_of_none frame
  · next on =>
    have started := State.tickFrame_rowCodes (s := s) (c := c) (if_neg on)
    rw [State.tickFrame, if_neg on] at frame
    rw [State.portFrameCodes_of_frame frame]
    exact congrArg some (List.map_congr_left fun y _ => started y)

theorem State.tick_portSends {c : Chan} {f : OutFrame} (h : s.tick.pipes[c].frame = some f) (later : Nat) :
    ({ s.tick with timebase := { s.tick.timebase with now := f.start + later } } : State).portSends c =
      if later / f.rowTime < f.height then
        some ((List.range f.width).map fun x =>
          outputPixel s.tick.frameMem (s.tick.activeRecord c) c (s.pipes[c].pendingMode.getD s.pipes[c].mode)
            (s.tick.slots c).source x (later / f.rowTime))
      else none := by
  have frame : s.tickFrame c = some f := by rw [← h, State.tick_pipes]
  rw [State.portSends_later h, State.tickFrame_rowCodes frame]

/-- Settles O43, stage by stage of the tick. -/
theorem ticksApplyModesAndStartFrames : Obligations.TicksApplyModesAndStartFrames := by
  intro s t count
  refine ⟨s.tick_timebase, ?_, fun c => ?_⟩
  · intro counted moded decided activated adopted
    have counted_eq : counted = s.countTick :=
      congrArg (fun b => ({ s with timebase := b } : State)) s.tick_timebase
    have moded_eq : moded = s.moded := congrArg (fun u : State => u.applyModes count) counted_eq
    have decided_eq : decided = s.decided := congrArg (State.barrierDecision s.modes) moded_eq
    have activated_eq : activated = s.activated := congrArg (fun d : State × _ => d.1.testActivation d.2) decided_eq
    have adopted_eq : adopted = s.adopted := congrArg (eachChan State.adoption (List.finRange 6)) activated_eq
    rw [moded_eq, activated_eq, adopted_eq]
    refine ⟨s.tick_pipesOnly, s.countTick.applyModes_barrier _, ?_, fun w => ?_,
      State.moded_staging_same, fun c => State.moded_capture_same, fun c => ?_⟩
    · rw [State.moded_staging]
    · rw [State.moded_staging, List.mem_filter, State.unasked_modeRequests]
    · rw [State.adopted_slots]
      generalize s.activated = a
      split
      · next n newest => exact Slots.adopted_some newest
      · next newest => exact Slots.adopted_none newest
  · have pipe := s.tick_pipes c
    have frame : s.tick.pipes[c].frame = s.tickFrame c := by rw [pipe]
    refine ⟨pipe, fun changed dark => ?_, fun q hq up => State.tick_sendQ hq up, fun frozen dark => ?_, ?_,
      fun later f hf => ?_⟩
    · exact State.tick_stopped changed (Mode.not_captures dark)
    · have slots := s.tick_slots c
      rw [pipe] at slots
      have dark' : (s.tick.slots c).hasShowing = false := dark
      show (s.tick.slots c).readyFrames = []
      rw [slots] at dark' ⊢
      exact Slots.adopted_dark (Mode.frozen_of frozen) dark'
    · exact s.tick_portFrameCodes c
    · exact State.tick_portSends hf later

end Sys2Proof.Machine
end

section
/-! What a READ of STATUS returns (R211): items laid at places that do not overlap read back whole. -/

namespace Sys2Proof.Machine

variable {s : State}

/-! ### Items laid in a region -/

/-- An item's offset and size. -/
def itemSpan (p : Nat × List Byte) : Nat × Nat := (p.1, p.2.length)

/-- Two spans of bytes have no byte in common. -/
def apart (p q : Nat × Nat) : Prop := p.1 + p.2 ≤ q.1 ∨ q.1 + q.2 ≤ p.1

/-- The cells of some items written over others. -/
def laidCells (items : List (Nat × List Byte)) (m : Cells) : Cells :=
  items.foldl (fun m p => Cells.write zeroByte m p.1 p.2) m

theorem laidCells_cons (p : Nat × List Byte) (items : List (Nat × List Byte)) (m : Cells) :
    laidCells (p :: items) m = laidCells items (Cells.write zeroByte m p.1 p.2) := rfl

theorem laidCells_out {x : Nat} {items : List (Nat × List Byte)} (h : ∀ p ∈ items, x < p.1 ∨ p.1 + p.2.length ≤ x)
    (m : Cells) : Cells.read zeroByte (laidCells items m) x = Cells.read zeroByte m x := by
  induction items generalizing m with
  | nil => rfl
  | cons p items ih =>
    rw [laidCells_cons, ih fun q hq => h q (List.mem_cons_of_mem p hq)]
    exact Cells.read_write_out _ _ _ _ _ (h p List.mem_cons_self)

theorem laidCells_in {items : List (Nat × List Byte)} (disjoint : (items.map itemSpan).Pairwise apart)
    {p : Nat × List Byte} (hp : p ∈ items) {i : Nat} (hi : i < p.2.length) (m : Cells) :
    Cells.read zeroByte (laidCells items m) (p.1 + i) = p.2[i] := by
  induction items generalizing m with
  | nil => cases hp
  | cons q items ih =>
    rw [List.map_cons, List.pairwise_cons] at disjoint
    rw [laidCells_cons]
    obtain rfl | hp := List.mem_cons.1 hp
    · rw [laidCells_out fun q hq => ?_]
      · exact Cells.read_write_in _ _ _ _ i hi
      · have away := disjoint.1 _ (List.mem_map_of_mem hq)
        simp only [apart, itemSpan] at away
        omega
    · exact ih disjoint.2 hp _

theorem layBytes_length (size : Nat) (items : List (Nat × List Byte)) : (layBytes size items).length = size := by
  simp [layBytes, Cells.bytes]

/-- The bytes of a part of an item read back. -/
theorem layBytes_part {size a i n : Nat} {items : List (Nat × List Byte)} {bytes : List Byte}
    (disjoint : (items.map itemSpan).Pairwise apart) (hp : (a, bytes) ∈ items) (hi : i + n ≤ bytes.length)
    (hsize : a + bytes.length ≤ size) : ((layBytes size items).drop (a + i)).take n = (bytes.drop i).take n := by
  refine List.ext_getElem ?_ fun j h h' => ?_
  · simp only [List.length_take, List.length_drop, layBytes_length]
    omega
  · have hj : i + j < bytes.length := by
      simp only [List.length_take, List.length_drop] at h'
      omega
    have read := laidCells_in disjoint hp hj []
    simp only [List.getElem_take, List.getElem_drop]
    rw [← read, ← Nat.add_assoc]
    unfold layBytes Cells.bytes laidCells
    simp

/-! ### The items of STATUS -/

theorem chanList_length (cs : List Chan) : (chanList cs).length = 6 := by
  simp [chanList]

theorem SlotRec.status_length (r : SlotRec) : r.status.length = 12 := by
  cases r with
  | free => rfl
  | filling => rfl
  | ready => rfl
  | showing => rfl

/-- The items of STATUS, in order. -/
def statusItems (s : State) : List (Nat × List Byte) :=
  timebaseItems s.timebase ++ barrierItems s.barrier ++ stagingItems s.staging ++ scannerItems s.scanner
    ++ presetItems s.preset ++ (List.finRange 6).flatMap (channelItems s) ++ (List.finRange 4).flatMap (linkItems s)

theorem statusBytes_eq (s : State) : statusBytes s = layBytes 1024 (statusItems s) := rfl

/-- R211: the places of the items. -/
def statusSpans : List (Nat × Nat) :=
  [(0, 14), (16, 4), (32, 8), (48, 25), (96, 13), (128, 10)] ++
    ((List.finRange 6).flatMap fun c => [(256 + 64 * c.val, 64)]) ++
    (List.finRange 4).flatMap fun k => [(640 + 32 * k.val, 20)]

theorem stagingItems_span (g : Staging) : (stagingItems g).map itemSpan = [(48, 25)] := by
  simp [stagingItems, itemSpan, orZero, chanList_length, word32Bytes]

theorem scannerItems_span (n : Scanner) : (scannerItems n).map itemSpan = [(96, 13)] := by
  simp [scannerItems, itemSpan, chanList_length]

theorem channelItems_span (s : State) (c : Chan) : (channelItems s c).map itemSpan = [(256 + 64 * c.val, 64)] := by
  simp [channelItems, itemSpan, orZero, word32Bytes, SlotRec.status_length]

theorem linkItems_span (s : State) (k : LinkId) : (linkItems s k).map itemSpan = [(640 + 32 * k.val, 20)] := rfl

theorem statusItems_spans (s : State) : (statusItems s).map itemSpan = statusSpans := by
  simp only [statusItems, List.map_append, List.map_flatMap, stagingItems_span, scannerItems_span, channelItems_span,
    linkItems_span]
  rfl

theorem statusItems_disjoint (s : State) : ((statusItems s).map itemSpan).Pairwise apart := by
  rw [statusItems_spans]
  unfold apart
  decide

theorem statusItems_inside {a : Nat} {bytes : List Byte} (h : (a, bytes) ∈ statusItems s) : a + bytes.length ≤ 1024 := by
  have spans : ∀ p ∈ statusSpans, p.1 + p.2 ≤ 1024 := by decide
  exact spans (itemSpan (a, bytes)) (statusItems_spans s ▸ List.mem_map_of_mem h)

/-- R211: a part of an item stands in STATUS at its place. -/
theorem statusBytes_part {a i n : Nat} {bytes : List Byte} (h : (a, bytes) ∈ statusItems s) (hi : i + n ≤ bytes.length) :
    ((statusBytes s).drop (a + i)).take n = (bytes.drop i).take n := by
  rw [statusBytes_eq]
  exact layBytes_part (statusItems_disjoint s) h hi (statusItems_inside h)

end Sys2Proof.Machine
end

section
/-! The requests that a link refuses itself, and the READs that complete at once with their region (R122, R179, R190, R199,
R211, R212). -/

namespace Sys2Proof.Machine

variable {s u : State} {k : LinkId} {tag : Byte} {m : Msg}

/-! ### Items of STATUS at their places -/

theorem statusBytes_at {x a i n : Nat} {bytes out : List Byte} (item : (a, bytes) ∈ statusItems s)
    (place : a + i = x) (part : (bytes.drop i).take n = out) (size : out.length = n) (pos : 0 < n) :
    ((statusBytes s).drop x).take n = out := by
  have fits := congrArg List.length part
  rw [List.length_take, List.length_drop, size] at fits
  rw [← place, statusBytes_part item (by omega), part]

theorem mem_statusItems {p : Nat × List Byte} : p ∈ statusItems s ↔
    p ∈ timebaseItems s.timebase ∨ p ∈ barrierItems s.barrier ∨ p ∈ stagingItems s.staging ∨ p ∈ scannerItems s.scanner ∨
      p ∈ presetItems s.preset ∨ (∃ c, p ∈ channelItems s c) ∨ ∃ k, p ∈ linkItems s k := by
  simp [statusItems]

theorem statusItems_barrier {p : Nat × List Byte} (h : p ∈ barrierItems s.barrier) : p ∈ statusItems s :=
  mem_statusItems.2 (.inr (.inl h))

theorem statusItems_timebase {p : Nat × List Byte} (h : p ∈ timebaseItems s.timebase) : p ∈ statusItems s :=
  mem_statusItems.2 (.inl h)

theorem statusItems_staging {p : Nat × List Byte} (h : p ∈ stagingItems s.staging) : p ∈ statusItems s :=
  mem_statusItems.2 (.inr (.inr (.inl h)))

theorem statusItems_scanner {p : Nat × List Byte} (h : p ∈ scannerItems s.scanner) : p ∈ statusItems s :=
  mem_statusItems.2 (.inr (.inr (.inr (.inl h))))

theorem statusItems_preset {p : Nat × List Byte} (h : p ∈ presetItems s.preset) : p ∈ statusItems s :=
  mem_statusItems.2 (.inr (.inr (.inr (.inr (.inl h)))))

theorem statusItems_channel {p : Nat × List Byte} (c : Chan) (h : p ∈ channelItems s c) : p ∈ statusItems s :=
  mem_statusItems.2 (.inr (.inr (.inr (.inr (.inr (.inl ⟨c, h⟩))))))

theorem statusItems_link {p : Nat × List Byte} (j : LinkId) (h : p ∈ linkItems s j) : p ∈ statusItems s :=
  mem_statusItems.2 (.inr (.inr (.inr (.inr (.inr (.inr ⟨j, h⟩))))))

theorem status_timebase (s : State) : ((statusBytes s).drop 0).take 1 = [s.timebase.state.code] ∧
    ((statusBytes s).drop 8).take 4 = word32Bytes s.timebase.tickCount :=
  ⟨statusBytes_at (i := 0) (statusItems_timebase List.mem_cons_self) rfl rfl rfl (by decide),
    statusBytes_at (i := 8) (statusItems_timebase List.mem_cons_self) rfl rfl rfl (by decide)⟩

theorem orZero_frame (b : Option Word32) : orZero 4 (b.map BitVec.toNat) = word32Bytes (b.getD 0) := by
  cases b <;> rfl

theorem status_frame (s : State) : ((statusBytes s).drop 36).take 4 = word32Bytes (s.barrier.frame.getD 0) :=
  statusBytes_at (i := 4) (statusItems_barrier List.mem_cons_self) rfl (orZero_frame s.barrier.frame) rfl (by decide)

theorem status_staging (s : State) : ((statusBytes s).drop 48).take 1 = [s.staging.state.code] ∧
    ((statusBytes s).drop 68).take 4 = word32Bytes s.staging.gen := by
  constructor
  · exact statusBytes_at (i := 0) (statusItems_staging List.mem_cons_self) rfl rfl rfl (by decide)
  · refine statusBytes_at (i := 20) (statusItems_staging List.mem_cons_self) rfl ?_ rfl (by decide)
    rw [List.append_assoc, List.drop_left' (by simp [orZero, chanList_length])]
    rfl

theorem status_scanner (s : State) : ((statusBytes s).drop 96).take 1 = [if s.scanner.lock then 0 else 1] :=
  statusBytes_at (i := 0) (statusItems_scanner List.mem_cons_self) rfl rfl rfl (by decide)

theorem status_preset (s : State) : ((statusBytes s).drop 128).take 1 = [(s.preset.nv.map NvOp.code).getD 0xFF] :=
  statusBytes_at (i := 0) (statusItems_preset List.mem_cons_self) rfl rfl rfl (by decide)

theorem status_channel (s : State) (c : Chan) :
    ((statusBytes s).drop (256 + 64 * c.val)).take 1 = [s.pipes[c].mode.code] ∧
    ((statusBytes s).drop (261 + 64 * c.val)).take 1 = [s.barrier.members[c].membership.code] ∧
    ((statusBytes s).drop (271 + 64 * c.val)).take 1 = [s.scanner.watch[c].state.code] :=
  ⟨statusBytes_at (i := 0) (statusItems_channel c List.mem_cons_self) rfl rfl rfl (by decide),
    statusBytes_at (i := 5) (statusItems_channel c List.mem_cons_self) (by omega) rfl rfl (by decide),
    statusBytes_at (i := 15) (statusItems_channel c List.mem_cons_self) (by omega) rfl rfl (by decide)⟩

theorem status_link (s : State) (j : LinkId) :
    ((statusBytes s).drop (640 + 32 * j.val)).take 1 = [if s.links[j].up then 1 else 0] ∧
    ((statusBytes s).drop (648 + 32 * j.val)).take 1 = [BitVec.ofNat 8 s.links[j].outstanding.length] ∧
    ((statusBytes s).drop (654 + 32 * j.val)).take 2 = leBytes 2 s.links[j].pending.toNat :=
  ⟨statusBytes_at (i := 0) (statusItems_link j List.mem_cons_self) rfl rfl rfl (by decide),
    statusBytes_at (i := 8) (statusItems_link j List.mem_cons_self) (by omega) rfl rfl (by decide),
    statusBytes_at (i := 14) (statusItems_link j List.mem_cons_self) (by omega) rfl rfl (by decide)⟩

/-! ### Refusals -/

theorem commandRoles_none {code : Byte} (h : code = 0 ∨ 14 < code.toNat) : commandRoles code = none := by
  have outside : code.toNat = 0 ∨ 14 < code.toNat := h.imp_left fun e => by rw [e]; rfl
  unfold commandRoles
  split
  case h_15 => rfl
  all_goals omega

theorem judgeCommand_none {code : Byte} {ps : List Byte} (h : commandRoles code = none) :
    judgeCommand k tag code ps u = u.complete k tag .invalid [] := by
  unfold judgeCommand
  rw [h]

theorem judgeCommand_denied {code : Byte} {ps : List Byte} {roles : BitVec 3} (h : commandRoles code = some roles)
    (denied : u.links[k].roles &&& roles = 0) : judgeCommand k tag code ps u = u.complete k tag .denied [] := by
  unfold judgeCommand
  rw [h]
  exact if_pos ((hasRole_iff _ _).2 denied)

theorem readInside_iff (o n size : Nat) : (!readInside o n size) = true ↔ ¬ (0 < n ∧ n ≤ 4096 ∧ o + n ≤ size) := by
  simp [readInside, -not_and, not_and_or, or_assoc]

theorem judgeRead_none {region channel : Byte} {offset : Word32} {length : BitVec 16} (h : regionOf region channel = none) :
    judgeRead k tag region channel offset length u = u.complete k tag .invalid [] := by
  unfold judgeRead
  rw [h]

/-- R190: a READ of a region, by the first case that applies. -/
theorem judgeRead_some {region channel : Byte} {offset : Word32} {length : BitVec 16} {r : Region}
    (h : regionOf region channel = some r) : judgeRead k tag region channel offset length u =
      if u.links[k].roles &&& roleView = 0 then u.complete k tag .denied []
      else if ¬ (0 < length.toNat ∧ length.toNat ≤ 4096 ∧ offset.toNat + length.toNat ≤ r.length) then
        u.complete k tag .invalid []
      else takeRead k tag (.read tag region channel offset length) r offset length.toNat u := by
  unfold judgeRead
  rw [h]
  exact ite_congr (propext (hasRole_iff _ _)) (fun _ => rfl) fun _ =>
    ite_congr (propext (readInside_iff _ _ _)) (fun _ => rfl) fun _ => rfl

section
variable (calm : s.calm) (ask : s.canAsk k tag)
include calm ask

theorem exec_arrival_refused {raw : List Byte} {st : Status} (arrived : readArrival raw = .msg m) (hm : m.tag? = some tag)
    (judged : judgeRequest k m (s.asked k tag) = (s.asked k tag).complete k tag st []) :
    exec (.messageArrival k raw) s = .next ((s.asked k tag).reply k tag st []) := by
  have rx (j : LinkId) : ((s.asked k tag).complete k tag st []).links[j].rx = s.links[j].rx :=
    (State.complete_rx _ k j tag st []).trans (s.asked_rx tag j)
  have run := receive_request calm ask hm judged rx (claimants_calm _ _ (complete_waiting (s := s.asked k tag) calm.1))
  rw [← arrived] at run
  exact congrArg Host.Outcome.next run

/-- R199: a READ that its region answers at once. -/
theorem exec_arrival_answered {raw content : List Byte} {offset : Word32} (arrived : readArrival raw = .msg m)
    (hm : m.tag? = some tag) (judged : judgeRequest k m (s.asked k tag) = (s.asked k tag).completeRead k tag offset content) :
    exec (.messageArrival k raw) s =
      .next ((s.asked k tag).modLink k (Link.answeredRead tag offset content)).beginSends := by
  have up : (s.asked k tag).links[k].up = true := by
    rw [State.asked_link]
    exact ask.1
  have answered := judged.trans (completeRead_answered (s := s.asked k tag) up calm.1)
  have rx (j : LinkId) : ((s.asked k tag).modLink k (Link.answeredRead tag offset content)).links[j].rx = s.links[j].rx := by
    rw [← s.asked_rx tag j (k := k), State.modLink_links_get]
    split
    · next e => subst e; rfl
    · rfl
  have run := receive_request calm ask hm answered rx (claimants_calm _ _ calm.1)
  rw [← arrived] at run
  exact congrArg Host.Outcome.next run

end

/-! ### The bytes of the regions -/

theorem regionBytes_activeRecord (c : Chan) : regionBytes s (.activeRecord c) =
    Cells.bytes defaultByte (s.activeRecord c) 0 103498 :=
  congrArg (Cells.bytes defaultByte (s.activeRecord c) 0) (by decide : Config.recordSize = 103498)

theorem regionBytes_activeHeader : regionBytes s .activeHeader = Cells.bytes zeroByte s.activeHeader 0 32 := rfl

/-- R212: an entry of DIRECTORY, its fields in place. -/
theorem SlotDir.bytes_eq (d : SlotDir) : d.bytes = [d.state.code, 0, 0, 0] ++
    ((d.info.map fun i => word32Bytes i.gen ++ i.name ++ i.crcs.toList.flatMap word32Bytes).getD (List.replicate 44 0)) ++
    List.replicate 16 0 := by
  unfold SlotDir.bytes
  cases d.info with
  | none => rfl
  | some i => simp

/-- What a request outstanding leaves of every link. -/
theorem asked_same {α : Type} {f : Link → α} (same : ∀ (l : Link) (o : List Byte), f { l with outstanding := o } = f l)
    (j : LinkId) : f (s.asked k tag).links[j] = f s.links[j] := by
  unfold State.asked
  rw [State.modLink_links_get]
  split
  · next h => rw [h]; exact same _ _
  · rfl

/-- Settles O19: by the first check that fails, or by the region that answers. -/
theorem refusedRequests : Obligations.RefusedRequests := by
  intro s k tag raw calm ask refused
  refine ⟨fun code params arrived => ?_, fun region channel offset length arrived => ?_⟩
  · have denied {roles : BitVec 3} (permit : commandRoles code = some roles) (none : s.links[k].roles &&& roles = 0) :
        refused .denied :=
      exec_arrival_refused calm ask arrived rfl (judgeCommand_denied permit (by rw [State.asked_roles]; exact none))
    have align : ∀ c ∈ ([1, 2, 4, 5, 0x0B, 0x0C] : List Byte), commandRoles c = some roleAlign := by decide
    have shows : ∀ c ∈ ([3, 6, 7, 8, 9, 0x0D] : List Byte), commandRoles c = some roleShow := by decide
    exact ⟨fun h => exec_arrival_refused calm ask arrived rfl (judgeCommand_none (commandRoles_none h)),
      fun h => denied (align code h), fun h => denied (shows code h), fun h => denied (by rw [h]; rfl),
      fun h => denied (by rw [h]; rfl)⟩
  · refine ⟨fun none => exec_arrival_refused calm ask arrived rfl (judgeRead_none none), fun r named => ?_⟩
    have judged := judgeRead_some (k := k) (tag := tag) (u := s.asked k tag) (offset := offset) (length := length) named
    rw [State.asked_roles] at judged
    refine ⟨fun denied => exec_arrival_refused calm ask arrived rfl (judged.trans (if_pos denied)),
      fun view outside => exec_arrival_refused calm ask arrived rfl ((judged.trans (if_neg view)).trans (if_pos ?_)),
      fun view nonzero most inside => ?_⟩
    · rw [BitVec.toNat_eq] at outside
      change length.toNat = 0 ∨ _ at outside
      omega
    · have pos : 0 < length.toNat := Nat.pos_of_ne_zero fun e => nonzero (BitVec.eq_of_toNat_eq e)
      replace judged := (judged.trans (if_neg view)).trans (if_neg (not_not.2 ⟨pos, most, inside⟩))
      intro p answered fields entry
      have answers {bytes : List Byte} (bytes_eq : regionBytes p r = bytes)
          (atOnce : takeRead k tag (.read tag region channel offset length) r offset length.toNat p =
            p.completeRead k tag offset (readContent p r offset.toNat length.toNat)) : answered bytes := by
        subst bytes_eq
        exact exec_arrival_answered calm ask arrived rfl (judged.trans atOnce)
      refine ⟨fun c e => ?_, fun e => ?_, fun e => ?_, fun e => ?_, fun e => ⟨?_, layBytes_length _ _, ?_⟩⟩
      · subst e; exact answers (regionBytes_activeRecord c) rfl
      · subst e; exact answers regionBytes_activeHeader rfl
      · subst e; exact answers rfl rfl
      · subst e
        refine answers (congrArg (List.flatMap · _) (funext fun d => ?_)) rfl
        obtain ⟨state, info⟩ := d
        cases info with
        | none => exact SlotDir.bytes_eq ⟨state, none⟩
        | some i => exact SlotDir.bytes_eq ⟨state, some i⟩
      · subst e; exact answers rfl rfl
      · intro at_
        obtain ⟨state, count⟩ := status_timebase p
        obtain ⟨staging, generation⟩ := status_staging p
        refine ⟨state, count, status_frame p, staging, generation, status_scanner p, status_preset p,
          status_channel p, fun j => ?_⟩
        obtain ⟨up, outstanding, pending⟩ := status_link p j
        rw [asked_same (f := Link.up) fun _ _ => rfl] at up
        rw [asked_same (f := Link.pending) fun _ _ => rfl] at pending
        exact ⟨up, outstanding, pending⟩

end Sys2Proof.Machine
end
